-- ==== Sys2Proof/Word.lean ====
section
/-! DEFINITION. Word.lean: the word types of the FC24's characters, codes and masks. -/

namespace Sys2Proof

/-- One character of the field bus or of the service port, one byte of the configuration image. -/
abbrev Byte := BitVec 8

/-- The register of the frame CRC (R3). -/
abbrev Word16 := BitVec 16

/-- A set of alert categories, bit n for category n of the bulletin's mask (R26). -/
abbrev AlertMask := BitVec 12

/-- A set of stations in an order frame, bit k − 1 for station k (R160). -/
abbrev StationMask := BitVec 24

end Sys2Proof
end

