-- ==== Sys2Proof/Syntax.lean ====
section
/-! DEFINITION. Syntax.lean: the commands of the FC24, one constructor per row of
spec/opcode_table.json, in the table's order. An `elapsed` operand is the crystal time in µs since the
last command that carried one (log entry 2). A Bool operand named `…First` decides an order that the
spec leaves open (log entry 4). -/

namespace Sys2Proof

/-- A character as the bus receiver delivers it: its eight data bits, and whether its stop bit sampled
at space (R1). -/
structure RxChar where
  byte : Byte
  framingError : Bool
  deriving DecidableEq, Repr

/-- What has come back on RXD while the station transmits, with the crystal time since the last command that
carried one: position by position a character, or none where no complete character had returned by the
end of the following character time (R20). -/
structure Readback where
  elapsed : Nat
  returned : List (Option RxChar)
  deriving DecidableEq, Repr

/-- The events of the FC24 (the table's rows). -/
inductive Instr where
  /-- RESET_RELEASE: ADDR4 … ADDR0 and LOOP as the pins read (R173). -/
  | resetRelease (address : BitVec 5) (loop : Bool)
  /-- SCL_HOLD_TIMEOUT: the bytes read before SCL was held (R174). -/
  | sclHoldTimeout (bytes : List Byte)
  /-- CONFIGURATION_LOAD_COMPLETION: whether the memory acknowledged, and the bytes it gave (R174). -/
  | configurationLoadCompletion (acknowledged : Bool) (bytes : List Byte)
  /-- FRAME_START_DETECTED (R2). -/
  | frameStartDetected (elapsed : Nat)
  /-- FRAME_COMPLETION: the characters of the frame in the order received (R2, R4). -/
  | frameCompletion (elapsed : Nat) (chars : List RxChar)
  /-- OWN_SLOT_START (R8). -/
  | ownSlotStart (elapsed : Nat)
  /-- TRANSMIT_INSTANT: whether the line is busy then (R20). -/
  | transmitInstant (elapsed : Nat) (lineBusy : Bool)
  /-- TRANSMIT_READBACK_MISMATCH: what had come back by then (R20). -/
  | transmitReadbackMismatch (readback : Readback)
  /-- CLEAN_TRANSMISSION: what had come back by its end (R20, R33). -/
  | cleanTransmission (readback : Readback)
  /-- LISTEN_WINDOW_END_IN_SILENCE (R16). -/
  | listenWindowEndInSilence (elapsed : Nat)
  /-- CYCLE_END: whether the alert cadence counts it before a condition raised with it begins to qualify
  (R9, R171). -/
  | cycleEnd (elapsed : Nat) (cadenceFirst : Bool)
  /-- TRAVEL_TIME_REACHED (R146). -/
  | travelTimeReached
  /-- AGEING_MARK (R10). -/
  | ageingMark (elapsed : Nat)
  /-- ALLOTMENT_ISSUED: whether the VDR steps before the FCC stages (R80, R144). -/
  | allotmentIssued (valveFirst : Bool)
  /-- CHANNEL_CONVERSION: the channel whose conversion period ends, and its raw code (R46). -/
  | channelConversion (channel : Fin 8) (code : BitVec 12)
  /-- SCAN_COMPLETION: whether the VDR takes the set before the CFM does (R49, R60, R146). -/
  | scanCompletion (valveFirst : Bool)
  /-- T_ROT_EXPIRY (R95). -/
  | tRotExpiry
  /-- T_WARM_EXPIRY (R94). -/
  | tWarmExpiry
  /-- T_SHED_EXPIRY (R96). -/
  | tShedExpiry
  /-- T_EXER_EXPIRY (R134). -/
  | tExerExpiry
  /-- T_ICE_EXPIRY (R137). -/
  | tIceExpiry
  /-- T_GUARD_EXPIRY (R108). -/
  | tGuardExpiry
  /-- T_PROT_EXPIRY (R110). -/
  | tProtExpiry
  /-- T_RECOV_EXPIRY (R111). -/
  | tRecovExpiry
  /-- T_STAG_EXPIRY (R112). -/
  | tStagExpiry
  /-- T_ORD_EXPIRY (R165). -/
  | tOrdExpiry
  /-- FAN_INTERVAL (R119, R127). -/
  | fanInterval
  /-- SPIN_UP_WINDOW_END (R130). -/
  | spinUpWindowEnd
  /-- KICK_PHASE_END (R131). -/
  | kickPhaseEnd
  /-- CHECK_WINDOW_END (R131). -/
  | checkWindowEnd
  /-- EXERCISE_RUN_END of a channel (R135). -/
  | exerciseRunEnd (channel : Fin 6)
  /-- TACH_MEASUREMENT_COMPLETION: the rising edges counted on TACH0 … TACH5 (R129). -/
  | tachMeasurementCompletion (edges : Vector Nat 6)
  /-- READ_REQUEST: the read request in hand is taken (R178). -/
  | readRequest (elapsed : Nat)
  /-- CLEAR_REQUEST: the clear request in hand is taken (R179). -/
  | clearRequest
  /-- SERVICE_CHARACTER_DROPPED: a character on SRX that is dropped (R177). -/
  | serviceCharacterDropped (char : Byte) (framingError : Bool)
  /-- SERVICE_REQUEST_TIMEOUT (R177). -/
  | serviceRequestTimeout
  /-- SERVICE_QUIET_END (R177). -/
  | serviceQuietEnd
  /-- SERVICE_RESPONSE_END (R177, R178). -/
  | serviceResponseEnd
  /-- RESET_ASSERTED: power-on or the RESET pin (R173). -/
  | resetAsserted
  /-- STRAY_CHARACTER: taken at the end of its stop bit (R2). -/
  | strayCharacter (elapsed : Nat)
  /-- SERVICE_REQUEST_CHARACTER: a character on SRX without framing error (R177). -/
  | serviceRequestCharacter (char : Byte)
  deriving DecidableEq, Repr

end Sys2Proof
end

