-- ==== Sys2Proof/Decode.lean ====
section
/-! DEFINITION. Decode.lean: the commands that words spell. No row of spec/opcode_table.json gives bits:
the part has no register window and no command words (00, About this manual), so no word spells a
command (log entry 6). -/

namespace Sys2Proof

/-- The command that a word of `nbits` bits spells by the table: none, for no row has bits. -/
def decodeTableWord (_nbits _w : Nat) : Option Instr := none

end Sys2Proof
end

