-- ==== Sys2Proof/Config.lean ====
section
/-! DEFINITION. Config.lean: the free values, constants without a body. Each stands for a value the
spec does not state, and is applied to `State.freeCount`, which every command that uses one advances
(log entry 12). Nothing can be proved of the values themselves. -/

namespace Sys2Proof.Config

/-- The "own tier" figure of R84 for a station that is not eligible and so has no rank (R72). -/
opaque unrankedTier : Nat → BitVec 8

/-- The "own position in the rank order" figure of R84 for a station that is not eligible. -/
opaque unrankedPosition : Nat → BitVec 8

/-- The "C_before" figure of R84 for a station that is not eligible (R73). -/
opaque unrankedCBefore : Nat → BitVec 16

/-- The error e of R70 in the figures of R84 when T_mix is none. -/
opaque errorWithoutMix : Nat → BitVec 16

/-- The last measured speed (R129) of channel n when the edge count gives more than the 65 535 rpm
the item holds (R120). -/
opaque speedOutOfRange : Nat → Nat → BitVec 16

/-- The image version that view 0 reports (R178) when the image read ended before offset 1. -/
opaque versionUnread : Nat → BitVec 8

end Sys2Proof.Config
end

