-- ==== Sys2Proof/Machine/Arith.lean ====
section
/-! DEFINITION. Machine/Arith.lean: the manual's two rounding rules, clamps, saturating counts, and the
readings of characters as numbers (00, Conventions). -/

namespace Sys2Proof.Machine

/-- N / Q rounded to nearest, exact halves upward: the floor of (2N + Q) / (2Q), Q > 0 (00, Rounding). -/
def roundDiv (n q : Int) : Int := Int.fdiv (2 * n + q) (2 * q)

/-- N / Q rounded to nearest for counts, exact halves upward (00, Rounding). -/
def roundDivNat (n q : Nat) : Nat := (2 * n + q) / (2 * q)

/-- The ceiling of N / Q, Q > 0. -/
def ceilDiv (n q : Nat) : Nat := (n + q - 1) / q

/-- The clamp of a number to lo … hi (00, Counts, clamps and saturation). -/
def clampInt (lo hi x : Int) : Int := if x < lo then lo else if hi < x then hi else x

/-- The clamp of a count to lo … hi. -/
def clampNat (lo hi x : Nat) : Nat := if x < lo then lo else if hi < x then hi else x

/-- A saturating count's next value (00, Counts, clamps and saturation). -/
def satInc (max n : Nat) : Nat := if n < max then n + 1 else n

/-- Two characters as an unsigned number, high character first. -/
def word16 (hi lo : Byte) : BitVec 16 := hi ++ lo

/-- Three characters as a mask, high character first (R160). -/
def word24 (a b c : Byte) : BitVec 24 := a ++ b ++ c

/-- Character i of a list of characters; 0 beyond its end. -/
def byteAt (cs : List Byte) (i : Nat) : Byte := cs.getD i 0

/-- Characters i and i + 1 as an unsigned number. -/
def wordAt (cs : List Byte) (i : Nat) : BitVec 16 := word16 (byteAt cs i) (byteAt cs (i + 1))

/-- A number's two characters, high character first. -/
def bytes16 (w : BitVec 16) : List Byte := [w.extractLsb' 8 8, w.extractLsb' 0 8]

/-- The sum of a list of bytes as numbers. -/
def byteSum (cs : List Byte) : Nat := cs.foldl (fun n b => n + b.toNat) 0

end Sys2Proof.Machine
end

