-- ==== Sys2Proof/Machine/Params.lean ====
section
/-! DEFINITION. Machine/Params.lean: the parameters of the configuration image, their defaults, and
how an accepted image gives them (R48, R151, R153, R169, R175, R176). -/

namespace Sys2Proof.Machine

/-- The six parameters of a measurement channel (R48). -/
structure ChannelParams where
  offset : Int
  span : Int
  low : Int
  high : Int
  shift : Nat
  hysteresis : Nat
  deriving DecidableEq, Repr

/-- A timer's prescaler P and main count C (R151). -/
structure TimerParams where
  p : Nat
  c : Nat
  deriving DecidableEq, Repr

/-- Every parameter of R176 in force. -/
structure Params where
  holdLimit : Nat
  nFit : Nat
  pairOrder : Nat
  tachPulses : Nat
  deadband : Nat
  gain : Nat
  floorStep : Nat
  overcoolMargin : Nat
  warmMargin : Nat
  flowClass : Nat
  reportInterval : Nat
  spaceInterval : Nat
  assertedReleased : Bool
  spinUpWindow : Nat
  kickTime : Nat
  checkWindow : Nat
  slew : Nat
  vMin : Nat
  shedRamp : Nat
  startSpeed : Nat
  fanRamp : Nat
  ratedSpeed : Nat
  exerciseSpeed : Nat
  exerciseTime : Nat
  iceAmbient : Int
  stagnationOpening : Nat
  guardOpening : Nat
  trickleOpening : Nat
  warmRate : Nat
  shedRate : Nat
  travelTime : Nat
  setpoint0 : Int
  floor0 : Int
  setpoint1 : Int
  floor1 : Int
  enables : AlertMask
  selects : AlertMask
  channels : Vector ChannelParams 7
  timers : Vector TimerParams 10
  deriving DecidableEq, Repr

/-- The defaults of the seven measurement channels (R48). -/
def defaultChannels : Vector ChannelParams 7 :=
  #v[⟨-600, 1500, 50, 600, 1, 10⟩, ⟨-600, 1500, -50, 900, 1, 10⟩, ⟨-600, 1500, -450, 400, 3, 10⟩,
    ⟨-600, 1500, -150, 900, 1, 10⟩, ⟨-600, 1500, -150, 900, 1, 10⟩, ⟨0, 2000, 0, 600, 2, 20⟩,
    ⟨0, 1000, 0, 1000, 0, 10⟩]

/-- The default P × C of the ten timers, in the order of the table of R151. -/
def defaultTimers : Vector TimerParams 10 :=
  #v[⟨6, 240⟩, ⟨5, 120⟩, ⟨1, 120⟩, ⟨3, 120⟩, ⟨1, 120⟩, ⟨2, 150⟩, ⟨4, 225⟩, ⟨5, 120⟩, ⟨1, 180⟩, ⟨1, 60⟩]

/-- Every parameter at its default (R175, R176). -/
def Params.default : Params where
  holdLimit := 3
  nFit := 6
  pairOrder := 0
  tachPulses := 2
  deadband := 3
  gain := 24
  floorStep := 16
  overcoolMargin := 30
  warmMargin := 50
  flowClass := 200
  reportInterval := 30
  spaceInterval := 0
  assertedReleased := false
  spinUpWindow := 50
  kickTime := 20
  checkWindow := 30
  slew := 64
  vMin := 200
  shedRamp := 100
  startSpeed := 300
  fanRamp := 100
  ratedSpeed := 1200
  exerciseSpeed := 300
  exerciseTime := 300
  iceAmbient := -20
  stagnationOpening := 40
  guardOpening := 250
  trickleOpening := 80
  warmRate := 50
  shedRate := 50
  travelTime := 90
  setpoint0 := 250
  floor0 := 180
  setpoint1 := 250
  floor1 := 180
  enables := 0xFFE
  selects := 0xCFE
  channels := defaultChannels
  timers := defaultTimers

/-- The range of a measurement channel's engineering values (R43). -/
def channelRange (i : Nat) : Int × Int :=
  if i < 5 then (-600, 900) else if i = 5 then (0, 2000) else (0, 1000)

/-- The image's length, the byte at offset 2 (R174). -/
def imageLength (img : List Byte) : Nat := (byteAt img 2).toNat

/-- Whether a parameter of `width` bytes at `off` lies whole at offsets 3 … length − 3 (R175). -/
def imageHolds (img : List Byte) (off width : Nat) : Bool := off + width + 2 ≤ imageLength img

/-- A one-byte parameter, clamped to its range, or its default (R175). -/
def param8 (img : List Byte) (off lo hi dflt : Nat) : Nat :=
  if imageHolds img off 1 then clampNat lo hi (byteAt img off).toNat else dflt

/-- A two-byte unsigned parameter, clamped to its range, or its default (R175). -/
def param16 (img : List Byte) (off lo hi dflt : Nat) : Nat :=
  if imageHolds img off 2 then clampNat lo hi (wordAt img off).toNat else dflt

/-- A two-byte signed parameter, read as two's complement before it is clamped, or its default (R175). -/
def paramSigned (img : List Byte) (off : Nat) (lo hi dflt : Int) : Int :=
  if imageHolds img off 2 then clampInt lo hi (wordAt img off).toInt else dflt

/-- Twelve enables or selects; bits 15–12 are ignored (R176). -/
def paramMask (img : List Byte) (off : Nat) (dflt : AlertMask) : AlertMask :=
  if imageHolds img off 2 then (wordAt img off).extractLsb' 0 12 else dflt

/-- The parameters of measurement channel i, 10 bytes at 61 + 10 i (R176). -/
def paramChannel (img : List Byte) (i : Nat) (dflt : ChannelParams) : ChannelParams :=
  let at0 := 61 + 10 * i
  let r := channelRange i
  { offset := paramSigned img at0 (-32768) 32767 dflt.offset
    span := paramSigned img (at0 + 2) (-32768) 32767 dflt.span
    low := paramSigned img (at0 + 4) r.1 r.2 dflt.low
    high := paramSigned img (at0 + 6) r.1 r.2 dflt.high
    shift := param8 img (at0 + 8) 0 3 dflt.shift
    hysteresis := param8 img (at0 + 9) 0 255 dflt.hysteresis }

/-- P and C of timer i, 3 bytes at 131 + 3 i (R153, R176). -/
def paramTimer (img : List Byte) (i : Nat) (dflt : TimerParams) : TimerParams :=
  { p := param8 img (131 + 3 * i) 1 64 dflt.p
    c := param16 img (132 + 3 * i) 1 256 dflt.c }

/-- Every parameter as an accepted image gives it (R175, R176). -/
def Params.ofImage (img : List Byte) : Params where
  holdLimit := param8 img 3 1 8 3
  nFit := param8 img 4 1 6 6
  pairOrder := param8 img 5 0 5 0
  tachPulses := param8 img 6 1 4 2
  deadband := param8 img 7 0 50 3
  gain := param8 img 8 0 255 24
  floorStep := param8 img 9 1 64 16
  overcoolMargin := param8 img 10 5 200 30
  warmMargin := param8 img 11 0 200 50
  flowClass := param8 img 12 1 255 200
  reportInterval := param8 img 13 1 255 30
  spaceInterval := param8 img 14 0 255 0
  assertedReleased := param8 img 15 0 1 0 == 1
  spinUpWindow := param8 img 16 20 200 50
  kickTime := param8 img 17 5 100 20
  checkWindow := param8 img 18 20 100 30
  slew := param16 img 19 1 512 64
  vMin := param16 img 21 0 1000 200
  shedRamp := param16 img 23 1 1000 100
  startSpeed := param16 img 25 100 1000 300
  fanRamp := param16 img 27 1 1000 100
  ratedSpeed := param16 img 29 300 3000 1200
  exerciseSpeed := param16 img 31 100 1000 300
  exerciseTime := param16 img 33 50 3000 300
  iceAmbient := paramSigned img 35 (-300) 100 (-20)
  stagnationOpening := param16 img 37 0 500 40
  guardOpening := param16 img 39 0 1000 250
  trickleOpening := param16 img 41 10 500 80
  warmRate := param16 img 43 1 1000 50
  shedRate := param16 img 45 1 1000 50
  travelTime := param16 img 47 10 600 90
  setpoint0 := paramSigned img 49 50 450 250
  floor0 := paramSigned img 51 (-100) 400 180
  setpoint1 := paramSigned img 53 50 450 250
  floor1 := paramSigned img 55 (-100) 400 180
  enables := paramMask img 57 0xFFE
  selects := paramMask img 59 0xCFE
  channels :=
    #v[paramChannel img 0 defaultChannels[0], paramChannel img 1 defaultChannels[1],
      paramChannel img 2 defaultChannels[2], paramChannel img 3 defaultChannels[3],
      paramChannel img 4 defaultChannels[4], paramChannel img 5 defaultChannels[5],
      paramChannel img 6 defaultChannels[6]]
  timers :=
    #v[paramTimer img 0 defaultTimers[0], paramTimer img 1 defaultTimers[1],
      paramTimer img 2 defaultTimers[2], paramTimer img 3 defaultTimers[3],
      paramTimer img 4 defaultTimers[4], paramTimer img 5 defaultTimers[5],
      paramTimer img 6 defaultTimers[6], paramTimer img 7 defaultTimers[7],
      paramTimer img 8 defaultTimers[8], paramTimer img 9 defaultTimers[9]]

end Sys2Proof.Machine
end

