-- ==== Sys2Proof/Machine/Blocks.lean ====
section
/-! DEFINITION. Machine/Blocks.lean: what each of the FC24's blocks holds, and its values after reset
(00, Blocks). -/

namespace Sys2Proof.Machine

/-- LSC bus states (R14, section 1.5). -/
inductive BusState where
  | unaddressed | listen | joining | active | duplicate
  deriving DecidableEq, Repr

/-- BTB row states (R31). -/
inductive RowState where
  | absent | fresh | held
  deriving DecidableEq, Repr

/-- Cell roles (R85). -/
inductive Role where
  | init | resting | warming | carrying | shedding | protect | withdrawn
  deriving DecidableEq, Repr

/-- Causes of a role change (R85). -/
inductive RoleCause where
  | allotment | warmExpiry | shedExpiry | frostProtect | frostClear | withdraw | restore
  deriving DecidableEq, Repr

/-- Coil frost states (R104). -/
inductive FrostState where
  | clear | guard | protect | recover
  deriving DecidableEq, Repr

/-- Trip causes, in the order of R109. -/
inductive TripCause where
  | lowerSurface | upperSurface | pressure | stagnation
  deriving DecidableEq, Repr

/-- Window comparator states (R57). -/
inductive Comparator where
  | below | inside | above
  deriving DecidableEq, Repr

/-- Fan channel states (R120). -/
inductive FanState where
  | absent | off | queued | starting | kick | running | iced
  deriving DecidableEq, Repr

/-- Fan channel classes (R120). -/
inductive FanClass where
  | duty | exercise
  deriving DecidableEq, Repr

/-- The two phases of KICK (R131). -/
inductive KickPhase where
  | kick | check
  deriving DecidableEq, Repr

/-- Travel check states (R141). -/
inductive CheckState where
  | idle | timing | suspended
  deriving DecidableEq, Repr

/-- Alert cadence states (R171). -/
inductive Cadence where
  | idle | report | space
  deriving DecidableEq, Repr

/-- Load states (R173). -/
inductive LoadState where
  | loading | done
  deriving DecidableEq, Repr

/-- Load outcomes other than none (R173). -/
inductive LoadOutcome where
  | accepted | noAck | marker | length | sum
  deriving DecidableEq, Repr

/-- Service port states (R177). -/
inductive PortState where
  | idle | receiving | sending | quiet
  deriving DecidableEq, Repr

/-- The ten timers, in the order of the table of R151. -/
inductive TimerId where
  | rot | warm | shed | exer | ice | guard | prot | recov | stag | ord
  deriving DecidableEq, Repr

/-- The twelve alert categories, in the bit order of the bulletin's mask (R26). -/
inductive Category where
  | frostGuard | frostTrip | fanIce | valveStuck | sensorFail | converterFault
  | busIsolated | dupAddress | fieldShort | fieldOvercool | panelSilent | configDefault
  deriving DecidableEq, Repr

/-- A timer's place in the table of R151. -/
def TimerId.index : TimerId → Fin 10
  | .rot => 0 | .warm => 1 | .shed => 2 | .exer => 3 | .ice => 4
  | .guard => 5 | .prot => 6 | .recov => 7 | .stag => 8 | .ord => 9

/-- A category's bit in the bulletin's mask (R26). -/
def Category.bit : Category → Nat
  | .frostGuard => 0 | .frostTrip => 1 | .fanIce => 2 | .valveStuck => 3 | .sensorFail => 4
  | .converterFault => 5 | .busIsolated => 6 | .dupAddress => 7 | .fieldShort => 8
  | .fieldOvercool => 9 | .panelSilent => 10 | .configDefault => 11

/-- The straps as latched at reset release (R173). -/
structure Straps where
  address : BitVec 5
  loop : Bool
  deriving DecidableEq, Repr

/-- The Configuration Loader (R173). -/
structure Cfl where
  state : LoadState
  pointer : Nat
  limit : Nat
  image : List Byte
  defaults : Bool
  outcome : Option LoadOutcome
  deriving DecidableEq, Repr

/-- The CFL after reset (R173). -/
def Cfl.reset : Cfl := ⟨.loading, 0, 0, [], false, none⟩

/-- A frame being received: the slot position at its start, if there was one, and the time since its
start in µs (R2, R12). -/
structure RxFrame where
  start : Option Nat
  elapsed : Nat
  deriving DecidableEq, Repr

/-- The Line Interface and Slot Clock (R7, R9, R11, R14, R16, R18, R21, R23). Times are in µs. -/
structure Lsc where
  bus : BusState
  position : Option Nat
  endPassed : Bool
  ownSlotEntered : Bool
  ownSlotRaised : Bool
  sinceCycleEnd : Option Nat
  window : Option Nat
  anchor : Nat
  heard : List Nat
  collisions : Nat
  extension : Nat
  isolation : Nat
  joinCycleEnds : Nat
  idle : Nat
  rx : Option RxFrame
  composed : Option (List Byte)
  sending : Option (List Byte)
  deriving DecidableEq, Repr

/-- The LSC after reset, before the straps are latched (R14; log entry 5 for `bus` and `anchor`). -/
def Lsc.reset : Lsc where
  bus := .unaddressed
  position := none
  endPassed := false
  ownSlotEntered := false
  ownSlotRaised := false
  sinceCycleEnd := none
  window := none
  anchor := 25
  heard := []
  collisions := 0
  extension := 0
  isolation := 0
  joinCycleEnds := 0
  idle := 0
  rx := none
  composed := none
  sending := none

/-- A bulletin record (R25). The fan speed is in units of 4 ‰. -/
structure Bulletin where
  slot : Nat
  source : Nat
  loop : Bool
  dValid : Bool
  outletValid : Bool
  role : Role
  rotateDue : Bool
  coldJoin : Bool
  floorLimited : Bool
  noBasis : Bool
  drained : Bool
  outlet : Int
  q : Nat
  h : Nat
  share : Nat
  d : Nat
  restAge : Nat
  frost : FrostState
  nFit : Nat
  nAvail : Nat
  fanSpeed : Nat
  alerts : AlertMask
  deriving DecidableEq, Repr

/-- A station row (R31). -/
structure Row where
  live : Option Bulletin
  snapCopy : Option Bulletin
  snapState : RowState
  snapAge : Nat
  state : RowState
  age : Nat
  heard : Bool
  crcErrors : Nat
  misaligned : Nat
  deriving DecidableEq, Repr

/-- A station row after reset (R31). -/
def Row.reset : Row := ⟨none, none, .absent, 0, .absent, 0, false, 0, 0⟩

/-- The Bulletin Table: rows 1 … 24 at indices 0 … 23, and row 0 (R31, R35). -/
structure Btb where
  rows : Vector Row 24
  order : Option (List Byte)
  crcErrors0 : Nat
  misaligned0 : Nat
  deriving DecidableEq, Repr

/-- The BTB after reset (R31, R35, R42). -/
def Btb.reset : Btb := ⟨Vector.replicate 24 Row.reset, none, 0, 0⟩

/-- A measurement channel (R45). -/
structure Channel where
  raw : Option (BitVec 12)
  x : Option Int
  y : Option Int
  failed : Bool
  faultRun : Nat
  goodRun : Nat
  comparator : Comparator
  deriving DecidableEq, Repr

/-- A measurement channel after reset (R45). -/
def Channel.reset : Channel := ⟨none, none, none, false, 0, 0, .inside⟩

/-- What the scan set publishes of one channel (R59). -/
structure Published where
  value : Int
  ok : Bool
  comparator : Comparator
  deriving DecidableEq, Repr

/-- A published scan set (R59). -/
structure ScanSet where
  channels : Vector Published 8
  fault : Bool
  deriving DecidableEq, Repr

/-- The channels TI, TO, TA, TSL, TSU, DP and VF of a scan set (R43). -/
def ScanSet.ti (s : ScanSet) : Published := s.channels[0]
@[inherit_doc ScanSet.ti] def ScanSet.to (s : ScanSet) : Published := s.channels[1]
@[inherit_doc ScanSet.ti] def ScanSet.ta (s : ScanSet) : Published := s.channels[2]
@[inherit_doc ScanSet.ti] def ScanSet.tsl (s : ScanSet) : Published := s.channels[3]
@[inherit_doc ScanSet.ti] def ScanSet.tsu (s : ScanSet) : Published := s.channels[4]
@[inherit_doc ScanSet.ti] def ScanSet.dp (s : ScanSet) : Published := s.channels[5]
@[inherit_doc ScanSet.ti] def ScanSet.vf (s : ScanSet) : Published := s.channels[6]

/-- The Sensor Scanner (R44, R45, R58, R59). -/
structure Ssc where
  channels : Vector Channel 7
  refRaw : Option (BitVec 12)
  refValue : Option Nat
  refComparator : Comparator
  fault : Bool
  badRun : Nat
  refGoodRun : Nat
  nextChannel : Nat
  scanSet : Option ScanSet
  deriving DecidableEq, Repr

/-- The SSC after reset (R45). -/
def Ssc.reset : Ssc := ⟨Vector.replicate 7 Channel.reset, none, none, .inside, false, 0, 0, 0, none⟩

/-- The inputs the FDE latches at snapshot taken from the other blocks (R63). The snapshot rows stand
unchanged in the BTB until the next snapshot (R38) and are read there. -/
structure Latched where
  scan : Option ScanSet
  tSet : Int
  tFloor : Int
  q : Nat
  valveAtMin : Bool
  nAvail : Nat
  runningCount : Nat
  anyTurning : Bool
  bus : BusState
  role : Role
  deriving DecidableEq, Repr

/-- The allotment record (R80). -/
structure Allotment where
  role : Role
  rotateDue : Bool
  coldJoin : Bool
  drained : Bool
  floorLimited : Bool
  noBasis : Bool
  share : Nat
  h : Nat
  d : Nat
  dValid : Bool
  tMix : Option Int
  m : Nat
  v : Nat
  restAge : Nat
  q : Nat
  nAvail : Nat
  deriving DecidableEq, Repr

/-- The figures of the last computation (R84). -/
structure Figures where
  members : Nat
  eligible : Nat
  qSum : Nat
  n : Int
  dAvg : Nat
  e : Int
  step : Int
  dCap : Nat
  tier : Nat
  position : Nat
  cBefore : Nat
  share : Nat
  deriving DecidableEq, Repr

/-- A recorded role change (R85). -/
structure RoleChange where
  previous : Role
  new : Role
  cause : RoleCause
  deriving DecidableEq, Repr

/-- The Field Duty Engine with the role machine (R64, R85). -/
structure Fde where
  d : Nat
  dValid : Bool
  tMix : Option Int
  floorCeiling : Nat
  overcool : Nat
  allotment : Option Allotment
  figures : Option Figures
  latched : Option Latched
  role : Role
  restAge : Nat
  rotateDue : Bool
  coldJoin : Bool
  drained : Bool
  warmTarget : Option Int
  lastChange : Option RoleChange
  deriving DecidableEq, Repr

/-- The FDE after reset (R64, R85). -/
def Fde.reset : Fde where
  d := 0
  dValid := false
  tMix := none
  floorCeiling := 256
  overcool := 0
  allotment := none
  figures := none
  latched := none
  role := .init
  restAge := 0
  rotateDue := false
  coldJoin := false
  drained := false
  warmTarget := none
  lastChange := none

/-- The Coil Frost Monitor (R104). -/
structure Cfm where
  frost : FrostState
  guardPending : Bool
  protectPending : Bool
  suspended : Bool
  lastTrip : Option (List TripCause)
  tripCount : Nat
  deriving DecidableEq, Repr

/-- The CFM after reset (R104). -/
def Cfm.reset : Cfm := ⟨.clear, false, false, false, none, 0⟩

/-- A fan channel's record (R120). -/
structure FanChannel where
  state : FanState
  cls : Option FanClass
  command : Nat
  phaseCount : Nat
  phase : Option KickPhase
  retries : Nat
  stallRun : Nat
  deferrals : Nat
  iceSuspect : Bool
  speed : Nat
  deriving DecidableEq, Repr

/-- A fan channel after reset (R120). -/
def FanChannel.reset : FanChannel := ⟨.off, none, 0, 0, none, 0, 0, 0, false, 0⟩

/-- The Fan Channel Controller (R119, R120). -/
structure Fcc where
  channels : Vector FanChannel 6
  runOrder : List (Fin 6)
  permit : Option (Fin 6)
  bits : Vector Bool 3
  intervals : Nat
  tachDue : Bool
  deriving DecidableEq, Repr

/-- The FCC after reset (R120). -/
def Fcc.reset : Fcc :=
  ⟨Vector.replicate 6 FanChannel.reset, [], none, #v[false, false, false], 0, false⟩

/-- The Valve Drive (R141). -/
structure Vdr where
  command : Nat
  role : Role
  drained : Bool
  frost : FrostState
  fansAtRest : Bool
  allotmentReceived : Bool
  check : CheckState
  travelCount : Nat
  stuck : Bool
  q : Nat
  fromVF : Bool
  deriving DecidableEq, Repr

/-- The VDR after reset (R141). -/
def Vdr.reset : Vdr := ⟨1000, .init, false, .clear, true, false, .idle, 0, false, 200, false⟩

/-- A timer (R152). -/
structure Timer where
  running : Bool
  prescaler : Nat
  main : Nat
  sub : Nat
  expiries : Nat
  deriving DecidableEq, Repr

/-- A timer after reset (R152). -/
def Timer.reset : Timer := ⟨false, 0, 0, 0, 0⟩

/-- The Order Decoder (R161). -/
structure OrderDecoder where
  setpoint0 : Int
  floor0 : Int
  setpoint1 : Int
  floor1 : Int
  withdraw : Bool
  drainedLevel : Bool
  prevClear : StationMask
  prevFanReset : StationMask
  prevExercise : StationMask
  taken : Bool
  deriving DecidableEq, Repr

/-- The ORD after reset (R161; log entry 5 for the settings before the image is loaded). -/
def OrderDecoder.reset : OrderDecoder := ⟨250, 180, 250, 180, false, false, 0, 0, 0, false⟩

/-- The Alert Output (R167, R170, R171). -/
structure Aou where
  live : AlertMask
  latched : AlertMask
  line : Bool
  cadence : Cadence
  count : Nat
  deriving DecidableEq, Repr

/-- The AOU after reset (R167, R170, R171). -/
def Aou.reset : Aou := ⟨0, 0, false, .idle, 0⟩

/-- The Service Port (R177). `answer` is the model's own: the characters of the last answer put on STX
(log entry 16). -/
structure Svp where
  port : PortState
  request : List Byte
  readPointer : Nat
  limitCount : Nat
  copy : List Byte
  answer : List Byte
  deriving DecidableEq, Repr

/-- The SVP after reset (R177). -/
def Svp.reset : Svp := ⟨.idle, [], 0, 0, [], []⟩

end Sys2Proof.Machine
end

