-- ==== Sys2Proof/Machine/Duty.lean ====
section
/-! DEFINITION. Machine/Duty.lean: the stages of the field duty computation (R66 to R78, R82, R83,
R89), as functions of the snapshot, the latched inputs and the FDE's state. -/

namespace Sys2Proof.Machine

/-- What the computation reads of one member (R41, R66). -/
structure Member where
  address : Nat
  role : Role
  rotateDue : Bool
  coldJoin : Bool
  outletValid : Bool
  outlet : Int
  q : Nat
  h : Nat
  dValid : Bool
  d : Nat
  restAge : Nat
  deriving DecidableEq, Repr

/-- A snapshot row as a member (R66). -/
def Bulletin.member (b : Bulletin) (address : Nat) : Member :=
  { address := address
    role := b.role
    rotateDue := b.rotateDue
    coldJoin := b.coldJoin
    outletValid := b.outletValid
    outlet := b.outlet
    q := b.q
    h := b.h
    dValid := b.dValid
    d := b.d
    restAge := b.restAge }

/-- The peer that row k's snapshot copy makes a member: FRESH or HELD, of the own loop, and not the own
row (R66). -/
def peerOfRow (ownAddress : Nat) (ownLoop : Bool) (row : Row) (k : Nat) : Option Member :=
  match row.snapCopy with
  | some b =>
    if row.snapState ≠ .absent ∧ b.loop = ownLoop ∧ k ≠ ownAddress then some (b.member k) else none
  | none => none

/-- The peers of a computation, in address order (R66). -/
def peersOf (ownAddress : Nat) (ownLoop : Bool) (rows : Vector Row 24) : List Member :=
  rows.toList.zipIdx.filterMap fun r => peerOfRow ownAddress ownLoop r.1 (r.2 + 1)

/-- The roles in which a member can be eligible (R67). -/
def Role.canCarry : Role → Bool
  | .resting | .warming | .carrying | .shedding => true
  | .init | .protect | .withdrawn => false

/-- Whether a peer is eligible (R67). -/
def Member.eligible (m : Member) : Bool := m.role.canCarry && 0 < m.h

/-- Whether the own station is eligible with a role and an offered ceiling, in the latched bus state
(R67, R74). -/
def ownEligible (bus : BusState) (role : Role) (h : Nat) : Bool :=
  bus == .active && role.canCarry && 0 < h

/-- The own outlet of a latched scan set, when TO is published OK (R63, R68). -/
def ownOutlet (scan : Option ScanSet) : Option Int :=
  match scan with
  | some s => if s.to.ok then some s.to.value else none
  | none => none

/-- The members whose outlet is valid, as pairs of flow weight and outlet (R68). -/
def outletsOf (own : Option Int) (ownQ : Nat) (peers : List Member) : List (Nat × Int) :=
  (match own with | some t => [(ownQ, t)] | none => [])
  ++ (peers.filter Member.outletValid).map fun m => (m.q, m.outlet)

/-- Q, the sum of the flow weights (R68). -/
def flowSum (os : List (Nat × Int)) : Nat := (os.map Prod.fst).sum

/-- N, the sum of q × outlet temperature (R68). -/
def heatSum (os : List (Nat × Int)) : Int := (os.map fun o => (o.1 : Int) * o.2).sum

/-- The mix estimate: N / Q rounded to nearest, or the previous one when Q is 0 (R68). -/
def mixEstimate (q : Nat) (n : Int) (previous : Option Int) : Option Int :=
  if 0 < q then some (roundDiv n q) else previous

/-- The valid field duties of the members (R69). -/
def dutiesOf (ownD : Nat) (ownValid : Bool) (peers : List Member) : List Nat :=
  (if ownValid then [ownD] else []) ++ (peers.filter Member.dValid).map Member.d

/-- The consensus: the mean of the valid field duties, or the own one when there is none (R69). -/
def consensus (ownD : Nat) (ds : List Nat) : Nat :=
  if ds.isEmpty then ownD else roundDivNat ds.sum ds.length

/-- The step for an error e that counts (R70): the deadband off, the gain, truncation, the slew. -/
def stepFor (p : Params) (e : Int) : Int :=
  if e.natAbs ≤ p.deadband then 0
  else
    let e' := if 0 < e then e - p.deadband else e + p.deadband
    clampInt (-p.slew) p.slew (Int.tdiv (e' * p.gain) 16)

/-- The step of stage 4: 0 without a flow basis or a mix estimate (R70). -/
def stepOf (p : Params) (noBasis : Bool) (e : Option Int) : Int :=
  match e with
  | some e => if noBasis then 0 else stepFor p e
  | none => 0

/-- D_cap: the ceilings of the eligible members (R71). -/
def dCapOf (own : Bool) (ownH : Nat) (peers : List Member) : Nat :=
  (if own then ownH else 0) + ((peers.filter Member.eligible).map Member.h).sum

/-- The new field duty: D_avg + step, clamped to 0 … D_cap (R71). -/
def newDuty (dAvg : Nat) (step : Int) (dCap : Nat) : Nat := (clampInt 0 dCap (dAvg + step)).toNat

/-- The tier of an eligible member (R72). -/
def tierOf (role : Role) (rotateDue : Bool) : Nat :=
  match role with
  | .carrying => if rotateDue then 3 else 0
  | .warming => 0
  | .shedding => 1
  | .resting | .init | .protect | .withdrawn => 2

/-- A member's tier (R72). -/
def Member.tier (m : Member) : Nat := tierOf m.role m.rotateDue

/-- Whether member a ranks before member b: tier ascending, rest age descending, address ascending
(R72). -/
def Member.before (a b : Member) : Bool :=
  a.tier < b.tier ||
    (a.tier == b.tier && (b.restAge < a.restAge ||
      (a.restAge == b.restAge && a.address < b.address)))

/-- A member that is not yet carrying heat (R73). -/
def Member.notYetCarrying (m : Member) : Bool :=
  m.role == .resting || m.role == .warming || (m.role == .carrying && m.coldJoin)

/-- What a member ranked ahead lends to an own station of a tier (R73). -/
def Member.lends (ownTier : Nat) (m : Member) : Nat :=
  if ownTier = 3 ∧ m.notYetCarrying then 0 else m.h

/-- The eligible peers ranked before the own station (R72). -/
def ahead (own : Member) (peers : List Member) : List Member :=
  peers.filter fun m => m.eligible && m.before own

/-- C_before (R73). -/
def cBeforeOf (own : Member) (peers : List Member) : Nat :=
  ((ahead own peers).map (Member.lends own.tier)).sum

/-- The share of stage 7: D − C_before clamped to 0 … h (R74). -/
def shareOf (d cBefore h : Nat) : Nat := Nat.min h (d - cBefore)

/-- The capacity c = floor(256 × n_avail / n_fit) (R75). -/
def capacity (nAvail nFit : Nat) : Nat := 256 * nAvail / nFit

/-- The floor ceiling: lowered to c, then updated by the own role at issue and the own outlet (R76). -/
def newFloorCeiling (p : Params) (role : Role) (outlet : Option Int) (tFloor : Int) (c f : Nat) : Nat :=
  let f := Nat.min f c
  match role, outlet with
  | .carrying, some t =>
    if t < tFloor then f - p.floorStep
    else if tFloor + 10 ≤ t then Nat.min c (f + p.floorStep) else f
  | .carrying, none => f
  | _, _ => c

/-- The fan speed for a share s carried by m fans (R77), before v_min. -/
def speedFor (nFit s m : Nat) : Nat := (2 * s * nFit * 1000 + 256 * m) / (512 * m)

/-- Stage 9: the number of duty fans m and their speed v (R77, R78). -/
def staging (p : Params) (role : Role) (coldJoin : Bool) (s nAvail running mPrev vPrev : Nat) : Nat × Nat :=
  match role with
  | .carrying =>
    if coldJoin then (0, 0)
    else if 0 < s then
      let m := ceilDiv (s * p.nFit) 256
      (m, Nat.max p.vMin (speedFor p.nFit s m))
    else (Nat.min mPrev nAvail, vPrev)
  | .shedding =>
    let v := vPrev - p.shedRamp
    if v < p.vMin ∨ v = 0 ∨ running = 0 then (0, 0) else (running, v)
  | .init | .resting | .warming | .protect | .withdrawn => (0, 0)

/-- The warm target (R89). -/
def warmTargetOf (p : Params) (scan : Option ScanSet) (tSet : Int) : Int :=
  match scan with
  | some s => (if s.ti.ok ∧ s.ti.value < tSet then s.ti.value else tSet) - p.warmMargin
  | none => tSet - p.warmMargin

/-- "TO reaches the warm target" (R89). -/
def reachesWarm (p : Params) (scan : Option ScanSet) (tSet : Int) : Bool :=
  match ownOutlet scan with
  | some t => warmTargetOf p scan tSet ≤ t
  | none => false

/-- The results of stages 1 to 5 (R66 to R71). -/
structure FieldPart where
  members : Nat
  eligible : Nat
  qSum : Nat
  n : Int
  tMix : Option Int
  noBasis : Bool
  dAvg : Nat
  e : Option Int
  step : Int
  dCap : Nat
  d : Nat
  deriving DecidableEq, Repr

/-- The own ceiling offered: the h of the latest record, 0 if none (R63). -/
def Fde.offered (f : Fde) : Nat := match f.allotment with | some a => a.h | none => 0

/-- Stages 1 to 5, on the role latched at snapshot taken (R65). -/
def fieldPart (p : Params) (peers : List Member) (l : Latched) (f : Fde) : FieldPart :=
  let own := ownEligible l.bus l.role f.offered
  let os := outletsOf (ownOutlet l.scan) l.q peers
  let q := flowSum os
  let n := heatSum os
  let tMix := mixEstimate q n f.tMix
  let noBasis := q == 0
  let dAvg := consensus f.d (dutiesOf f.d f.dValid peers)
  let e := tMix.map fun t => t - l.tSet
  let step := stepOf p noBasis e
  let dCap := dCapOf own f.offered peers
  { members := peers.length + 1
    eligible := (peers.filter Member.eligible).length + if own then 1 else 0
    qSum := q
    n := n
    tMix := tMix
    noBasis := noBasis
    dAvg := dAvg
    e := e
    step := step
    dCap := dCap
    d := newDuty dAvg step dCap }

/-- The results of stages 6 to 9 (R72 to R78). -/
structure OwnPart where
  eligible : Bool
  tier : Nat
  position : Nat
  cBefore : Nat
  shareBefore : Nat
  c : Nat
  h : Nat
  share : Nat
  m : Nat
  v : Nat
  deriving DecidableEq, Repr

/-- The own station as a member, with its role and flags at issue (R65, R72). -/
def Fde.ownMember (f : Fde) (address : Nat) : Member :=
  { address := address
    role := f.role
    rotateDue := f.rotateDue
    coldJoin := f.coldJoin
    outletValid := false
    outlet := 0
    q := 0
    h := f.offered
    dValid := f.dValid
    d := f.d
    restAge := f.restAge }

/-- Stages 6 to 9, on the role and flags at issue (R65). -/
def ownPart (p : Params) (address : Nat) (peers : List Member) (l : Latched) (d : Nat) (f : Fde) : OwnPart :=
  let own := f.ownMember address
  let eligible := ownEligible l.bus f.role f.offered
  let cBefore := cBeforeOf own peers
  let share7 := if eligible then shareOf d cBefore f.offered else 0
  let c := capacity l.nAvail p.nFit
  let h := newFloorCeiling p f.role (ownOutlet l.scan) l.tFloor c f.floorCeiling
  let share := Nat.min share7 h
  let prev := match f.allotment with | some a => (a.m, a.v) | none => (0, 0)
  let mv := staging p f.role f.coldJoin share l.nAvail l.runningCount prev.1 prev.2
  { eligible := eligible
    tier := own.tier
    position := (ahead own peers).length + 1
    cBefore := cBefore
    shareBefore := share7
    c := c
    h := h
    share := share
    m := mv.1
    v := mv.2 }

/-- Whether FIELD_SHORT is live on a computation (R82). -/
def fieldShort (p : Params) (r : FieldPart) : Bool :=
  match r.e with
  | some e => !r.noBasis && r.d == r.dCap && 0 < r.dCap && (p.deadband : Int) < e
  | none => false

/-- Whether a computation meets the overcool condition (R83). -/
def overcoolMet (p : Params) (r : FieldPart) : Bool :=
  match r.e with
  | some e => !r.noBasis && r.d == 0 && e < -(p.overcoolMargin : Int)
  | none => false

/-- The figures of R84. What a station without a rank or a mix estimate reports is a free value
(log entry 12). -/
def figuresOf (free : Nat) (r : FieldPart) (o : OwnPart) : Figures :=
  { members := r.members
    eligible := r.eligible
    qSum := r.qSum
    n := r.n
    dAvg := r.dAvg
    e := match r.e with | some e => e | none => (Config.errorWithoutMix free).toInt
    step := r.step
    dCap := r.dCap
    tier := if o.eligible then o.tier else (Config.unrankedTier free).toNat
    position := if o.eligible then o.position else (Config.unrankedPosition free).toNat
    cBefore := if o.eligible then o.cBefore else (Config.unrankedCBefore free).toNat
    share := o.shareBefore }

end Sys2Proof.Machine
end

