-- ==== Sys2Proof/Machine/Fans.lean ====
section
/-! DEFINITION. Machine/Fans.lean: the Fan Channel Controller's channels, run-order list and start
permit (R120 to R139). Each definition is an operation on the FCC alone. -/

namespace Sys2Proof.Machine

/-- The six channels in number order. -/
def fanChannels : List (Fin 6) := [0, 1, 2, 3, 4, 5]

/-- A channel's record. -/
def Fcc.channel (f : Fcc) (i : Fin 6) : FanChannel := f.channels[i]

/-- A channel's record replaced by a function of it. -/
def Fcc.modify (i : Fin 6) (g : FanChannel → FanChannel) (f : Fcc) : Fcc :=
  { f with channels := f.channels.set i (g (f.channel i)) }

/-- QUEUED, STARTING, KICK or RUNNING: the states in which a channel has a class (R120). -/
def FanChannel.inHand (c : FanChannel) : Bool :=
  c.state == .queued || c.state == .starting || c.state == .kick || c.state == .running

/-- STARTING, KICK or RUNNING (R121, R141). -/
def FanChannel.turning (c : FanChannel) : Bool :=
  c.state == .starting || c.state == .kick || c.state == .running

/-- A channel that staging counts in k (section 7.2). -/
def FanChannel.dutyInHand (c : FanChannel) : Bool := c.inHand && c.cls == some .duty

/-- A channel that counts in n_avail: neither ABSENT nor ICED (R121). -/
def FanChannel.available (c : FanChannel) : Bool := c.state != .absent && c.state != .iced

/-- n_avail (R121). -/
def Fcc.nAvail (f : Fcc) : Nat := (fanChannels.filter fun i => (f.channel i).available).length

/-- k, the duty channels in hand (section 7.2). -/
def Fcc.k (f : Fcc) : Nat := (fanChannels.filter fun i => (f.channel i).dutyInHand).length

/-- Whether any channel is in STARTING, KICK or RUNNING (R121). -/
def Fcc.anyTurning (f : Fcc) : Bool := fanChannels.any fun i => (f.channel i).turning

/-- Whether any channel is ICED (R138). -/
def Fcc.anyIced (f : Fcc) : Bool := fanChannels.any fun i => (f.channel i).state == .iced

/-- The sequence of pairs that the pair-order parameter names (R126). -/
def pairSequence (order : Nat) : List (Fin 3) :=
  if order = 0 then [0, 1, 2] else if order = 1 then [0, 2, 1] else if order = 2 then [1, 0, 2]
  else if order = 3 then [1, 2, 0] else if order = 4 then [2, 0, 1] else [2, 1, 0]

/-- The two channels of a pair, the even one first when the pair's bit is 0 (R126). -/
def pairMembers (bits : Vector Bool 3) (p : Fin 3) : List (Fin 6) :=
  let even : Fin 6 := ⟨2 * p.val, by omega⟩
  let odd : Fin 6 := ⟨2 * p.val + 1, by omega⟩
  if bits[p] then [odd, even] else [even, odd]

/-- Pair order, with the alternation bits as they stand (R126). -/
def Fcc.pairOrder (order : Nat) (f : Fcc) : List (Fin 6) :=
  (pairSequence order).flatMap (pairMembers f.bits)

/-- A channel leaves the run-order list, wherever it stands in it (R122). -/
def Fcc.leave (i : Fin 6) (f : Fcc) : Fcc := { f with runOrder := f.runOrder.filter (· != i) }

/-- A channel joins the run-order list at its tail (R122). -/
def Fcc.join (i : Fin 6) (f : Fcc) : Fcc := { f with runOrder := f.runOrder ++ [i] }

/-- A channel releases the permit if it held it (R128). -/
def Fcc.release (i : Fin 6) (f : Fcc) : Fcc :=
  { f with permit := if f.permit = some i then none else f.permit }

/-- A record set OFF: class none, command 0, phase count 0; its retry count, deferral count and
ice-suspect flag are kept (R124, R133). -/
def FanChannel.toOff (c : FanChannel) : FanChannel :=
  { c with state := .off, cls := none, command := 0, phaseCount := 0, phase := none }

/-- A channel goes to OFF; it releases the permit if it held it and leaves the run-order list
(R122, R124, R133). -/
def Fcc.off (i : Fin 6) (f : Fcc) : Fcc := ((f.modify i FanChannel.toOff).leave i).release i

/-- A channel in hand that a test selects is forced OFF (R115, R133, R135). -/
def Fcc.forceOne (sel : FanChannel → Bool) (f : Fcc) (i : Fin 6) : Fcc :=
  if (f.channel i).inHand && sel (f.channel i) then f.off i else f

/-- Every channel in hand that a test selects is forced OFF (R115, R133, R135). -/
def Fcc.forceOff (sel : FanChannel → Bool) (f : Fcc) : Fcc := fanChannels.foldl (Fcc.forceOne sel) f

/-- Which channels in hand a new role does not allow (R133). -/
def roleForces (r : Role) (c : FanChannel) : Bool :=
  match r with
  | .init | .warming | .protect | .withdrawn => true
  | .resting => c.cls == some .duty
  | .carrying | .shedding => false

/-- The forcing at a report of a new role (R133). -/
def Fcc.roleReport (r : Role) (f : Fcc) : Fcc := f.forceOff (roleForces r)

/-- The forcing at a change of the frost state (R115): every channel on entry to PROTECT, the exercise
class on leaving CLEAR. -/
def Fcc.frostReport (old new : FrostState) (f : Fcc) : Fcc :=
  if new = .protect then f.forceOff fun _ => true
  else if old = .clear ∧ new ≠ .clear then f.forceOff fun c => c.cls == some .exercise
  else f

/-- A record queued in a class (R123, R134). -/
def FanChannel.toQueue (cls : FanClass) (c : FanChannel) : FanChannel :=
  { c with state := .queued, cls := some cls }

/-- A channel is queued in a class (R123, R134). -/
def Fcc.queue (cls : FanClass) (i : Fin 6) (f : Fcc) : Fcc := f.modify i (FanChannel.toQueue cls)

/-- A record converted to duty class (R123; log entry 10 for its phase count). -/
def FanChannel.toDuty (c : FanChannel) : FanChannel := { c with cls := some .duty, phaseCount := 0 }

/-- A RUNNING exercise channel is converted to duty class and joins the run-order list at its tail
(R122, R123). -/
def Fcc.convert (i : Fin 6) (f : Fcc) : Fcc := (f.modify i FanChannel.toDuty).join i

/-- Whether a channel is RUNNING with a class. -/
def FanChannel.runningAs (cls : FanClass) (c : FanChannel) : Bool :=
  c.state == .running && c.cls == some cls

/-- Step 1 of R123 at one channel. -/
def Fcc.raiseConvert (m : Nat) (f : Fcc) (i : Fin 6) : Fcc :=
  if f.k < m ∧ (f.channel i).runningAs .exercise then f.convert i else f

/-- Step 2 of R123 at one channel. -/
def Fcc.raiseQueue (m : Nat) (f : Fcc) (i : Fin 6) : Fcc :=
  if f.k < m ∧ (f.channel i).state = .off then f.queue .duty i else f

/-- Staging up (R123): conversions, then queuing, in pair order; nothing is queued in PROTECT or
RECOVER (R115). -/
def Fcc.raise (order m : Nat) (frost : FrostState) (f : Fcc) : Fcc :=
  let f := (f.pairOrder order).foldl (Fcc.raiseConvert m) f
  if frost = .protect ∨ frost = .recover then f
  else (f.pairOrder order).foldl (Fcc.raiseQueue m) f

/-- Step 1 of R124 at one channel. -/
def Fcc.lowerQueued (m : Nat) (f : Fcc) (i : Fin 6) : Fcc :=
  if m < f.k ∧ (f.channel i).state = .queued ∧ (f.channel i).cls = some .duty then f.off i else f

/-- Step 2 of R124 at one channel. -/
def Fcc.lowerStarting (m : Nat) (f : Fcc) (i : Fin 6) : Fcc :=
  if m < f.k ∧ ((f.channel i).state = .starting ∨ (f.channel i).state = .kick)
      ∧ (f.channel i).cls = some .duty then f.off i else f

/-- Step 3 of R124 at one entry of the run-order list. -/
def Fcc.lowerRunning (m : Nat) (f : Fcc) (i : Fin 6) : Fcc :=
  if m < f.k ∧ (f.channel i).runningAs .duty then f.off i else f

/-- Staging down (R124): QUEUED duty channels highest-numbered first, then the starting one, then from
the head of the run-order list. -/
def Fcc.lower (m : Nat) (f : Fcc) : Fcc :=
  let f := fanChannels.reverse.foldl (Fcc.lowerQueued m) f
  let f := fanChannels.foldl (Fcc.lowerStarting m) f
  f.runOrder.foldl (Fcc.lowerRunning m) f

/-- A command's move toward v by at most the ramp (R125). -/
def rampToward (ramp v c : Nat) : Nat := if c < v then Nat.min v (c + ramp) else Nat.max v (c - ramp)

/-- The fan ramp at one channel (R125). -/
def Fcc.rampOne (ramp v : Nat) (f : Fcc) (i : Fin 6) : Fcc :=
  if (f.channel i).runningAs .duty then
    f.modify i fun c => { c with command := rampToward ramp v c.command }
  else f

/-- The fan ramp on every RUNNING duty channel (R125). -/
def Fcc.ramp (ramp v : Nat) (f : Fcc) : Fcc := fanChannels.foldl (Fcc.rampOne ramp v) f

/-- The staging and the ramp at an allotment issued (R123 to R125). -/
def Fcc.stage (order ramp m v : Nat) (frost : FrostState) (f : Fcc) : Fcc :=
  Fcc.ramp ramp v (if f.k < m then f.raise order m frost else f.lower m)

/-- A record set RUNNING: its counts are cleared, and an exercise channel takes the exercise speed
(R130, R131, R135). -/
def FanChannel.toRunning (exerciseSpeed : Nat) (c : FanChannel) : FanChannel :=
  { c with
    state := .running
    command := if c.cls = some .duty then c.command else exerciseSpeed
    phaseCount := 0
    phase := none
    retries := 0
    stallRun := 0
    deferrals := 0
    iceSuspect := false }

/-- A channel enters RUNNING from STARTING or KICK: it releases the permit, and a duty channel joins the
run-order list (R122, R130, R131). -/
def Fcc.enterRunning (exerciseSpeed : Nat) (i : Fin 6) (f : Fcc) : Fcc :=
  let f' := (f.modify i (FanChannel.toRunning exerciseSpeed)).release i
  if (f.channel i).cls = some .duty then f'.join i else f'

/-- Whether a channel is QUEUED with a class. -/
def FanChannel.queuedAs (cls : FanClass) (c : FanChannel) : Bool :=
  c.state == .queued && c.cls == some cls

/-- The channel a free permit goes to: the first QUEUED duty channel in pair order, else the first
QUEUED exercise channel (R127). -/
def Fcc.nextStart (order : Nat) (f : Fcc) : Option (Fin 6) :=
  match (f.pairOrder order).find? fun i => (f.channel i).queuedAs .duty with
  | some i => some i
  | none => (f.pairOrder order).find? fun i => (f.channel i).queuedAs .exercise

/-- The pair that a channel belongs to (R126). -/
def pairOf (i : Fin 6) : Fin 3 := ⟨i.val / 2, by omega⟩

/-- A record at its grant: STARTING at the start speed, or KICK at 1000 ‰ if it is ice-suspect (R127). -/
def FanChannel.toStart (startSpeed : Nat) (c : FanChannel) : FanChannel :=
  if c.iceSuspect then { c with state := .kick, phase := some .kick, command := 1000, phaseCount := 0 }
  else { c with state := .starting, command := startSpeed, phaseCount := 0 }

/-- A channel holds the permit, and its pair's alternation bit is inverted (R127). -/
def Fcc.hold (i : Fin 6) (f : Fcc) : Fcc :=
  { f with permit := some i, bits := f.bits.set (pairOf i) (!f.bits[pairOf i]) }

/-- The grant of the permit to a channel (R127). -/
def Fcc.grantTo (startSpeed : Nat) (i : Fin 6) (f : Fcc) : Fcc :=
  (f.modify i (FanChannel.toStart startSpeed)).hold i

/-- A free permit is granted if a channel is QUEUED (R127). -/
def Fcc.grant (order startSpeed : Nat) (f : Fcc) : Fcc :=
  match f.permit, f.nextStart order with
  | none, some i => f.grantTo startSpeed i
  | _, _ => f

/-- One channel's phase count advances (R120). -/
def Fcc.advanceOne (f : Fcc) (i : Fin 6) : Fcc :=
  if (f.channel i).turning then f.modify i fun c => { c with phaseCount := satInc 3000 c.phaseCount } else f

/-- The phase counts advance (R120, R127, R130, R131, R135; log entry 10). -/
def Fcc.advancePhases (f : Fcc) : Fcc := fanChannels.foldl Fcc.advanceOne f

/-- The fan intervals are counted by ten; at the tenth a measurement completes (R119). -/
def Fcc.countTen (f : Fcc) : Fcc :=
  if f.intervals + 1 < 10 then { f with intervals := f.intervals + 1 }
  else { f with intervals := 0, tachDue := true }

/-- A fan interval: the phase counts, the count of ten, the grant (R119, R127). -/
def Fcc.interval (order startSpeed : Nat) (f : Fcc) : Fcc :=
  (f.advancePhases.countTen).grant order startSpeed

/-- Whether a fan turns at a measured speed: at least 15 % of rated (R129). -/
def turnsAt (rated speed : Nat) : Bool := 15 * rated ≤ speed * 100

/-- Whether a measurement is slow for a command: below half the speed it should give (R132). -/
def slowAt (rated command speed : Nat) : Bool := speed * 2000 < rated * command

/-- A channel whose measurements are judged for turning: STARTING, or the check phase of KICK
(R130, R131). -/
def FanChannel.judged (c : FanChannel) : Bool :=
  c.state == .starting || (c.state == .kick && c.phase == some .check)

/-- A record that has stalled returns to QUEUED in its class, ice-suspect (R132). -/
def FanChannel.toStalled (c : FanChannel) : FanChannel :=
  { c with state := .queued, command := 0, phaseCount := 0, stallRun := 0, iceSuspect := true }

/-- A slow measurement's stall run; the third stalls the channel (R132). -/
def Fcc.slow (i : Fin 6) (f : Fcc) : Fcc :=
  if 3 ≤ (f.channel i).stallRun + 1 then (f.modify i FanChannel.toStalled).leave i
  else f.modify i fun c => { c with stallRun := c.stallRun + 1 }

/-- The judgement of one channel's measurement: for turning in STARTING and the check phase of KICK, for
stall in RUNNING (R130 to R132). A measurement is whole for a phase that has lasted ten fan intervals. -/
def Fcc.judge (rated exerciseSpeed speed : Nat) (i : Fin 6) (f : Fcc) : Fcc :=
  if (f.channel i).judged then
    if 10 ≤ (f.channel i).phaseCount ∧ turnsAt rated speed then f.enterRunning exerciseSpeed i else f
  else if (f.channel i).state = .running then
    if slowAt rated (f.channel i).command speed then f.slow i
    else f.modify i fun c => { c with stallRun := 0 }
  else f

/-- One channel at a tach measurement completion: the measured speed is judged, and the item takes the
value that is stored of it (R129 to R132). -/
def Fcc.measure (rated exerciseSpeed : Nat) (measured stored : Fin 6 → Nat) (f : Fcc) (i : Fin 6) : Fcc :=
  if (f.channel i).state = .absent then f
  else (f.modify i fun c => { c with speed := stored i }).judge rated exerciseSpeed (measured i) i

/-- A tach measurement completion (R129). -/
def Fcc.tach (rated exerciseSpeed : Nat) (measured stored : Fin 6 → Nat) (f : Fcc) : Fcc :=
  fanChannels.foldl (Fcc.measure rated exerciseSpeed measured stored) { f with tachDue := false }

/-- A record in a new kick phase: 1000 ‰, phase count 0 (R130, R131). -/
def FanChannel.toKick (c : FanChannel) : FanChannel :=
  { c with state := .kick, phase := some .kick, command := 1000, phaseCount := 0 }

/-- A channel starts a kick phase (R130, R131). -/
def Fcc.startKick (i : Fin 6) (f : Fcc) : Fcc := f.modify i FanChannel.toKick

/-- The end of a kick phase: the check phase at the start speed (R131). -/
def Fcc.startCheck (startSpeed : Nat) (i : Fin 6) (f : Fcc) : Fcc :=
  f.modify i fun c => { c with phase := some .check, command := startSpeed, phaseCount := 0 }

/-- A record set ICED; it keeps its retry count and ice-suspect flag (R131). -/
def FanChannel.toIced (c : FanChannel) : FanChannel :=
  { c with state := .iced, cls := none, command := 0, phaseCount := 0, phase := none }

/-- A channel becomes ICED and releases the permit (R131). -/
def Fcc.ice (i : Fin 6) (f : Fcc) : Fcc := (f.modify i FanChannel.toIced).release i

/-- The retry count is incremented (R131). -/
def Fcc.countRetry (i : Fin 6) (f : Fcc) : Fcc := f.modify i fun c => { c with retries := satInc 3 c.retries }

/-- A failed check window: the retry count, and a new kick or, at 3, ICED (R131). -/
def Fcc.failCheck (i : Fin 6) (f : Fcc) : Fcc :=
  if ((f.countRetry i).channel i).retries < 3 then (f.countRetry i).startKick i
  else (f.countRetry i).ice i

/-- The exercise of R134 at one channel: queued in CLEAR, a deferral otherwise. -/
def Fcc.exerciseOne (frost : FrostState) (f : Fcc) (i : Fin 6) : Fcc :=
  if (f.channel i).state = .off then
    if frost = .clear then f.queue .exercise i
    else Fcc.modify i (fun c =>
      { c with deferrals := satInc 4 c.deferrals, iceSuspect := c.iceSuspect || 3 ≤ c.deferrals }) f
  else f

/-- A T_EXER expiry or an exercise edge while the role is RESTING (R134). -/
def Fcc.exercise (frost : FrostState) (f : Fcc) : Fcc :=
  fanChannels.foldl (Fcc.exerciseOne frost) f

/-- The ice retry of R137 at one channel. -/
def Fcc.retryOne (f : Fcc) (i : Fin 6) : Fcc :=
  if (f.channel i).state = .iced then
    Fcc.modify i (fun c =>
      { c with state := .queued, cls := some .exercise, iceSuspect := true, retries := 0 }) f
  else f

/-- The ice retry: every ICED channel is queued with exercise class (R137). -/
def Fcc.iceRetry (f : Fcc) : Fcc := fanChannels.foldl Fcc.retryOne f

/-- The fan-reset edge at one channel (R139). -/
def Fcc.resetOne (f : Fcc) (i : Fin 6) : Fcc :=
  if (f.channel i).state = .iced ∨ (f.channel i).state = .off then
    Fcc.modify i (fun c =>
      { c with state := .off, cls := none, command := 0, retries := 0, deferrals := 0, iceSuspect := false }) f
  else f

/-- The fan-reset edge (R139). -/
def Fcc.fanReset (f : Fcc) : Fcc := fanChannels.foldl Fcc.resetOne f

/-- A channel that is not fitted: ABSENT, without class, command or permit, and not in the list (R120,
the table of section 7.1). -/
def Fcc.fitOne (nFit : Nat) (f : Fcc) (i : Fin 6) : Fcc :=
  if nFit ≤ i.val then (f.off i).modify i (fun c => { c with state := .absent }) else f

/-- Configuration load completion: channels numbered n_fit or above become ABSENT (R120). -/
def Fcc.fit (nFit : Nat) (f : Fcc) : Fcc := fanChannels.foldl (Fcc.fitOne nFit) f

end Sys2Proof.Machine
end

