-- ==== Sys2Proof/Machine/Flags.lean ====
section
/-! DEFINITION. Machine/Flags.lean: the Alert Output's live conditions, latched flags, line and cadence
(R167 to R171). `enables` is 0 before configuration load completion (R169). -/

namespace Sys2Proof.Machine

/-- The mask with a category's bit alone (R26). -/
def Category.mask (c : Category) : AlertMask := BitVec.twoPow 12 c.bit

/-- Whether a category's bit of a mask is set. -/
def hasAlert (m : AlertMask) (c : Category) : Bool := m.getLsbD c.bit

/-- A mask with one category's bit at a value. -/
def putAlert (m : AlertMask) (c : Category) (on : Bool) : AlertMask :=
  if on then m ||| c.mask else m &&& ~~~c.mask

/-- Whether the line qualifies: an enabled category's selected source is true (R170). -/
def Aou.qualifies (enables selects : AlertMask) (a : Aou) : Bool :=
  enables &&& ((selects &&& a.latched) ||| (~~~selects &&& a.live)) != 0

/-- The cadence and the line after qualifying is evaluated anew (R170, R171). -/
def Aou.reeval (enables selects : AlertMask) (a : Aou) : Aou :=
  if a.qualifies enables selects then
    if a.cadence = .idle then { a with cadence := .report, count := 0, line := true } else a
  else if a.cadence = .idle then a
  else { a with cadence := .idle, count := 0, line := false }

/-- The live conditions take the reported values, all reported at one instant together; a condition
that is true has its latched flag set (R167; log entry 14). -/
def Aou.setLive (enables selects : AlertMask) (live : AlertMask) (a : Aou) : Aou :=
  Aou.reeval enables selects { a with live := live, latched := a.latched ||| live }

/-- A clear of a set of categories: only flags whose live condition is false are cleared (R168). -/
def Aou.clear (enables selects : AlertMask) (mask : AlertMask) (a : Aou) : Aou :=
  Aou.reeval enables selects { a with latched := a.latched &&& (~~~mask ||| a.live) }

/-- The cadence counts a cycle end (R171). -/
def Aou.cycleEnd (report space : Nat) (a : Aou) : Aou :=
  match a.cadence with
  | .idle => a
  | .report =>
    if 0 < space ∧ report ≤ a.count + 1 then { a with cadence := .space, count := 0, line := false }
    else { a with count := satInc report a.count }
  | .space =>
    if space ≤ a.count + 1 then { a with cadence := .report, count := 0, line := true }
    else { a with count := a.count + 1 }

end Sys2Proof.Machine
end

