-- ==== Sys2Proof/Machine/Frost.lean ====
section
/-! DEFINITION. Machine/Frost.lean: how the Coil Frost Monitor reads a scan set (R105 to R107, R112). -/

namespace Sys2Proof.Machine

/-- TO is cold: published FAILED, or BELOW (R105). -/
def ScanSet.cold (s : ScanSet) : Bool := !s.to.ok || s.to.comparator == .below

/-- A channel is back: published OK, and INSIDE or ABOVE (R105). -/
def Published.back (c : Published) : Bool := c.ok && c.comparator != .below

/-- A surface channel trips: BELOW, whatever its published health (R105). -/
def Published.trips (c : Published) : Bool := c.comparator == .below

/-- DP rises: ABOVE, whatever its published health (R105). -/
def ScanSet.rises (s : ScanSet) : Bool := s.dp.comparator == .above

/-- The surface causes that hold, in the order of R109. -/
def ScanSet.surfaceCauses (s : ScanSet) : List TripCause :=
  (if s.tsl.trips then [.lowerSurface] else []) ++ (if s.tsu.trips then [.upperSurface] else [])

/-- The causes that hold outside CLEAR, in the order of R109. -/
def ScanSet.causes (s : ScanSet) : List TripCause :=
  s.surfaceCauses ++ (if s.rises then [.pressure] else [])

/-- TO, TSL and TSU are all back (R110). -/
def ScanSet.allBack (s : ScanSet) : Bool := s.to.back && s.tsl.back && s.tsu.back

/-- The flow figure: VF when it is published OK, else the valve command (R105, R112). -/
def ScanSet.flowFigure (s : ScanSet) (command : Nat) : Int := if s.vf.ok then s.vf.value else command

end Sys2Proof.Machine
end

