-- ==== Sys2Proof/Machine/Operands.lean ====
section
/-! DEFINITION. Machine/Operands.lean: the two frames of the field bus: the CRC, the envelope's
validity, the layouts of the bulletin and of the order frame (R3, R4, R26, R27, R160). -/

namespace Sys2Proof.Machine

/-- One bit of the CRC of R3: the top bit combined with the data bit, the shift, and the polynomial. -/
def crcBit (r : Word16) (bit : Bool) : Word16 :=
  if (r.msb ^^ bit) then (r <<< 1) ^^^ 0x1021 else r <<< 1

/-- One character of the CRC, most significant bit first (R3). -/
def crcByte (r : Word16) (b : Byte) : Word16 :=
  [7, 6, 5, 4, 3, 2, 1, 0].foldl (fun r i => crcBit r (b.getLsbD i)) r

/-- The frame CRC over the covered characters, from 0xFFFF (R3). -/
def crc (cs : List Byte) : Word16 := cs.foldl crcByte 0xFFFF

/-- A frame body (every character before the CRC) with its CRC, high byte first, over the characters
after the sync (R3). -/
def withCrc (body : List Byte) : List Byte := body ++ bytes16 (crc (body.drop 1))

/-- A valid frame: a bulletin with its source address, or an order frame (R4). -/
inductive Envelope where
  | bulletin (source : Nat) (chars : List Byte)
  | order (chars : List Byte)
  deriving DecidableEq, Repr

/-- Whether the last two characters of a frame equal the CRC over characters 1 … n − 3 (R3). -/
def crcMatches (cs : List Byte) : Bool :=
  wordAt cs (cs.length - 2) == crc ((cs.take (cs.length - 2)).drop 1)

/-- The judgement of R4 at frame completion; none is a malformed frame. A frame of more than 28
characters is over-length, so it has neither kind's length (R2). -/
def judgeFrame (chars : List RxChar) : Option Envelope :=
  let cs := chars.map RxChar.byte
  let source := (byteAt cs 3).toNat
  if chars.any RxChar.framingError || byteAt cs 0 != 0xB4 || !crcMatches cs then none
  else if byteAt cs 1 = 0x31 ∧ cs.length = 21 ∧ byteAt cs 3 = byteAt cs 2 ∧ 1 ≤ source ∧ source ≤ 24 then
    some (.bulletin source cs)
  else if byteAt cs 1 = 0x32 ∧ cs.length = 28 ∧ byteAt cs 2 = 0 then some (.order cs)
  else none

/-- The role codes of character 4 (R26). -/
def Role.code : Role → BitVec 3
  | .init => 0 | .resting => 1 | .warming => 2 | .carrying => 3 | .shedding => 4 | .protect => 5
  | .withdrawn => 6

/-- A role code as received; code 7 is stored as INIT (R27). -/
def roleOfCode (c : BitVec 3) : Role :=
  if c = 1 then .resting else if c = 2 then .warming else if c = 3 then .carrying
  else if c = 4 then .shedding else if c = 5 then .protect else if c = 6 then .withdrawn else .init

/-- The frost state codes of character 4 (R26). -/
def FrostState.code : FrostState → BitVec 2
  | .clear => 0 | .guard => 1 | .protect => 2 | .recover => 3

/-- A frost state code as received (R26). -/
def frostOfCode (c : BitVec 2) : FrostState :=
  if c = 1 then .guard else if c = 2 then .protect else if c = 3 then .recover else .clear

/-- The stored number of fitted fans: 0 becomes 1 and 7 becomes 6 (R27). -/
def storedFit (n : Nat) : Nat := if n = 0 then 1 else if n = 7 then 6 else n

/-- A bulletin's 21 characters as a live copy holds them: read by the layout of R26 and normalised
field by field under R27. -/
def bulletinOf (cs : List Byte) : Bulletin :=
  let c4 := byteAt cs 4
  let c5 := byteAt cs 5
  let c16 := byteAt cs 16
  let h := Nat.min 256 (c5.extractLsb' 5 1 ++ byteAt cs 6).toNat
  let nFit := storedFit (c16.extractLsb' 0 3).toNat
  { slot := (byteAt cs 2).toNat
    source := (byteAt cs 3).toNat
    loop := c4.getLsbD 0
    dValid := c4.getLsbD 1
    outletValid := c4.getLsbD 2
    role := roleOfCode (c4.extractLsb' 3 3)
    rotateDue := c5.getLsbD 0
    coldJoin := c5.getLsbD 1
    floorLimited := c5.getLsbD 2
    noBasis := c5.getLsbD 3
    drained := c5.getLsbD 4
    outlet := clampInt (-600) 900 (wordAt cs 8).toInt
    q := (byteAt cs 10).toNat
    h := h
    share := Nat.min h (c5.extractLsb' 6 1 ++ byteAt cs 7).toNat
    d := Nat.min 6144 (wordAt cs 11).toNat
    restAge := (wordAt cs 13).toNat
    frost := frostOfCode (c4.extractLsb' 6 2)
    nFit := nFit
    nAvail := Nat.min nFit (c16.extractLsb' 3 3).toNat
    fanSpeed := Nat.min 250 (byteAt cs 15).toNat
    alerts := (byteAt cs 17).extractLsb' 0 4 ++ byteAt cs 18 }

/-- A yes is sent as 1 and a no as 0 (R26). -/
def bit1 (b : Bool) : BitVec 1 := BitVec.ofBool b

/-- Characters 0 … 18 of a bulletin (R26). -/
def bulletinBody (b : Bulletin) : List Byte :=
  let h := BitVec.ofNat 9 b.h
  let s := BitVec.ofNat 9 b.share
  let c4 : Byte := b.frost.code ++ b.role.code ++ bit1 b.outletValid ++ bit1 b.dValid ++ bit1 b.loop
  let c5 : Byte := (0 : BitVec 1) ++ s.extractLsb' 8 1 ++ h.extractLsb' 8 1 ++ bit1 b.drained
    ++ bit1 b.noBasis ++ bit1 b.floorLimited ++ bit1 b.coldJoin ++ bit1 b.rotateDue
  let c16 : Byte := (0 : BitVec 2) ++ BitVec.ofNat 3 b.nAvail ++ BitVec.ofNat 3 b.nFit
  [0xB4, 0x31, BitVec.ofNat 8 b.slot, BitVec.ofNat 8 b.source, c4, c5, h.extractLsb' 0 8,
    s.extractLsb' 0 8]
  ++ bytes16 (BitVec.ofInt 16 b.outlet) ++ [BitVec.ofNat 8 b.q] ++ bytes16 (BitVec.ofNat 16 b.d)
  ++ bytes16 (BitVec.ofNat 16 b.restAge)
  ++ [BitVec.ofNat 8 b.fanSpeed, c16, (0 : BitVec 4) ++ b.alerts.extractLsb' 8 4,
    b.alerts.extractLsb' 0 8]

/-- The 21 characters of a bulletin (R26, R28). -/
def bulletinChars (b : Bulletin) : List Byte := withCrc (bulletinBody b)

/-- An order frame's items (R160). -/
structure Order where
  valid0 : Bool
  setpoint0 : Int
  floor0 : Int
  valid1 : Bool
  setpoint1 : Int
  floor1 : Int
  withdraw : StationMask
  drained : StationMask
  clearAlerts : StationMask
  fanReset : StationMask
  exercise : StationMask
  deriving DecidableEq, Repr

/-- The items of a valid order frame's 28 characters (R160). -/
def orderOf (cs : List Byte) : Order :=
  let w0 := wordAt cs 3
  let w1 := wordAt cs 7
  { valid0 := w0.getLsbD 15
    setpoint0 := (w0.extractLsb' 0 15).toInt
    floor0 := (wordAt cs 5).toInt
    valid1 := w1.getLsbD 15
    setpoint1 := (w1.extractLsb' 0 15).toInt
    floor1 := (wordAt cs 9).toInt
    withdraw := word24 (byteAt cs 11) (byteAt cs 12) (byteAt cs 13)
    drained := word24 (byteAt cs 14) (byteAt cs 15) (byteAt cs 16)
    clearAlerts := word24 (byteAt cs 17) (byteAt cs 18) (byteAt cs 19)
    fanReset := word24 (byteAt cs 20) (byteAt cs 21) (byteAt cs 22)
    exercise := word24 (byteAt cs 23) (byteAt cs 24) (byteAt cs 25) }

end Sys2Proof.Machine
end

