-- ==== Sys2Proof/Machine/Line.lean ====
section
/-! DEFINITION. Machine/Line.lean: the Line Interface and Slot Clock's own state: the running slot
position, jumps, the listen window, the heard set and the anchor, collisions (R7 to R23). Times are in
µs. -/

namespace Sys2Proof.Machine

/-- One cycle, 1000.0 ms (R7). -/
def cycleUs : Nat := 1000000

/-- One slot, 40.0 ms (R7). -/
def slotUs : Nat := 40000

/-- The transmit instant, 2.0 ms into a slot (R8). -/
def transmitUs : Nat := 2000

/-- The least spacing of cycle ends and ageing marks, 500.0 ms (R9, R10). -/
def spacingUs : Nat := 500000

/-- The idle line that a frame start needs, 1.0 ms (R2). -/
def frameIdleUs : Nat := 1000

/-- The idle line after the last stop bit that ends a frame, 400 µs (R2). -/
def frameEndUs : Nat := 400

/-- A character on the bus, ten bit times (R1). -/
def characterUs : Nat := 200

/-- Whether a strapped address is good: 1 … 24 (R14). -/
def goodAddress (a : BitVec 5) : Bool := 1 ≤ a.toNat && a.toNat ≤ 24

/-- The own address: the strapped address, or 25 for a bad one (R11). -/
def ownAddressOf (a : BitVec 5) : Nat := if goodAddress a then a.toNat else 25

/-- Whether a position lies in slot k (R7). -/
def inSlot (k p : Nat) : Bool := p / slotUs == k

/-- Whether a start position lies in the acceptance window of slot k, 1.0 ms to 5.0 ms (R13). -/
def inWindow (k start : Nat) : Bool := k * slotUs + 1000 ≤ start && start ≤ k * slotUs + 5000

/-- A time runs on by `dt` where it exists. -/
def runOn (dt : Nat) (t : Option Nat) : Option Nat := t.map (· + dt)

/-- The slot position runs on by `dt` and returns to 0 on passing 1000.0 ms (R7). -/
def runPosition (dt : Nat) (p : Option Nat) : Option Nat := p.map fun p => (p + dt) % cycleUs

/-- Whether a cycle end or ageing mark `dt` after now comes less than 500.0 ms after the one before, the
time since which is `since`; there may be none before (R9, R10). -/
def tooSoon (dt : Nat) (since : Option Nat) : Bool :=
  match since with
  | some t => t + dt < spacingUs
  | none => false

/-- Whether a position that runs on by `dt` passes the end of slot 24 in a way that raises the event. The
first passing is skipped when it comes too soon; a second one is a whole cycle later and never does (R9,
R10). -/
def raisesEnd (dt : Nat) (since position : Option Nat) : Bool :=
  match position with
  | some p => cycleUs ≤ p + dt && (!tooSoon (cycleUs - p) since || 2 * cycleUs ≤ p + dt)
  | none => false

/-- Whether a position that has run on by `dt` to `p` has advanced into slot k in that time (R8). -/
def advancedInto (k dt p : Nat) : Bool := inSlot k p && p - k * slotUs < dt

/-- The mark of R8 after the position has run on: it stands while the position is in the own slot. -/
def ownSlotMark (own dt : Nat) (active mark : Bool) (p : Option Nat) : Bool :=
  match p with
  | some p => inSlot own p && (mark || (active && advancedInto own dt p))
  | none => false

/-- Crystal time runs on by `dt` (R2, R7, R9, R10, R16). A passing of the end of slot 24 is judged where
it comes: one that raises leaves the mark `endPassed`, and the spacing is measured from it. -/
def Lsc.advance (own dt : Nat) (l : Lsc) : Lsc :=
  let raised := raisesEnd dt l.sinceCycleEnd l.position
  { l with
    position := runPosition dt l.position
    endPassed := l.endPassed || raised
    ownSlotEntered :=
      ownSlotMark own dt (l.bus == .active) l.ownSlotEntered (runPosition dt l.position)
    sinceCycleEnd := if raised then runPosition dt l.position else runOn dt l.sinceCycleEnd
    window := l.window.map (· - dt)
    idle := l.idle + dt
    rx := l.rx.map fun r => { r with elapsed := r.elapsed + dt } }

/-- Whether a pending transmission survives a jump: the position stays in the own slot, ahead of the
transmit instant (R8). -/
def survivesJump (own p : Nat) : Bool := inSlot own p && p < own * slotUs + transmitUs

/-- A jump of the slot position (R7, R8, R9). A cycle end that the running position has raised is still
to be taken after it (R39). DESIGN CHOICE (log entry 29, unsafe): a transmission that has begun goes on across
a jump, wherever it takes the position; R8 cancels only one that is pending. -/
def Lsc.jump (own p : Nat) (l : Lsc) : Lsc :=
  { l with
    position := some p
    ownSlotEntered := false
    composed := if survivesJump own p then l.composed else none }

/-- The position of a realignment: as if the frame had started 2.0 ms into slot k (R12). -/
def realignedPosition (k elapsed : Nat) : Nat := (k * slotUs + transmitUs + elapsed) % cycleUs

/-- The length of a listen window, 25 + a + E slots (R16). -/
def windowUs (a e : Nat) : Nat := (25 + a + e) * slotUs

/-- An address joins the heard set, kept rising without repeats (R6). -/
def hear (k : Nat) : List Nat → List Nat
  | [] => [k]
  | a :: as => if k < a then k :: a :: as else if k = a then a :: as else a :: hear k as

/-- The lowest of the own address and the heard set (R11). -/
def lowestHeard (own : Nat) (heard : List Nat) : Nat := heard.foldl Nat.min own

/-- The anchor is recomputed and the heard set emptied (R11). -/
def Lsc.recomputeAnchor (own : Nat) (l : Lsc) : Lsc :=
  { l with anchor := lowestHeard own l.heard, heard := [] }

/-- Whether the heard set holds no address other than the own one (R23). -/
def heardNoOther (own : Nat) (heard : List Nat) : Bool := heard.all (· == own)

/-- What a clean transmission of these characters brings back: each of them, without a framing error
(R20). -/
def echoOf (sent : List Byte) : List (Option RxChar) := sent.map fun c => some ⟨c, false⟩

/-- Whether a position has come back other than as it was sent: a differing character, a framing error, or
none in time (R20). -/
def returnDiffers (sent : List Byte) (returned : List (Option RxChar)) : Bool :=
  (returned.zip (echoOf sent)).any fun p => p.1 != p.2

/-- DE is released. Where the station was sending, the idle line is counted from 0 there (R2, R20; log entry
20). -/
def Lsc.releaseDriver (l : Lsc) : Lsc :=
  { l with sending := none, idle := if l.sending.isSome then 0 else l.idle }

/-- A collision: DE released, nothing pending, the count; the third one opens a new listen window
(R20, R21, R16). -/
def Lsc.collide (own : Nat) (extension : Nat) (l : Lsc) : Lsc :=
  if l.collisions + 1 < 3 then { l.releaseDriver with composed := none, collisions := l.collisions + 1 }
  else
    { l.releaseDriver with
      composed := none
      collisions := 0
      bus := .listen
      extension := extension
      window := some (windowUs own extension) }

/-- The entry to DUPLICATE, which releases DE (R22). -/
def Lsc.enterDuplicate (l : Lsc) : Lsc :=
  { l.releaseDriver with
    bus := .duplicate
    composed := none
    collisions := 0
    isolation := 0
    window := none
    ownSlotEntered := false }

/-- The bus states in which cycle end is raised (R9). -/
def BusState.raisesCycleEnd : BusState → Bool
  | .listen | .joining | .active | .duplicate => true
  | .unaddressed => false

/-- The passing of the end of slot 24 is taken, and own-slot start may be raised again (R8, R9, R10). -/
def Lsc.takeEnd (l : Lsc) : Lsc := { l with endPassed := false, ownSlotRaised := false }

/-- The isolation count at a cycle end (R23). -/
def Lsc.countIsolation (own : Nat) (l : Lsc) : Lsc :=
  if l.bus = .active ∧ heardNoOther own l.heard then { l with isolation := satInc 10 l.isolation } else l

/-- JOINING counts its cycle ends; the second ends it (R18). -/
def Lsc.countJoining (l : Lsc) : Lsc :=
  if l.bus = .joining then
    if 2 ≤ l.joinCycleEnds + 1 then { l with bus := .active, joinCycleEnds := 2 }
    else { l with joinCycleEnds := l.joinCycleEnds + 1 }
  else l

end Sys2Proof.Machine
end

