-- ==== Sys2Proof/Machine/State.lean ====
section
/-! DEFINITION. Machine/State.lean: the whole state of one FC24 with its queue of waiting commands, its
value after reset, and the reasons a step can stop. -/

namespace Sys2Proof.Machine

/-- Why a step stops with a fault. No constructor: the spec gives the part no event at which it stops,
every failure it names is an ordinary change of state. -/
inductive Fault where
  deriving DecidableEq, Repr

/-- Why a command is refused. -/
inductive Refusal where
  /-- Raised by `exec` alone, for a command the model has no meaning for. Safe: nothing is claimed of
  the command. Every command of this model has its meaning, so it is never raised. -/
  | notModelled (mnemonic : String)
  deriving DecidableEq, Repr

/-- The state of one FC24. Three fields are the model's own: the queue, the counter of the free values (log
entry 12), and the order chosen at the last cycle end, which the events that come with it take up (log
entry 4). -/
structure State where
  released : Bool
  loaded : Bool
  straps : Straps
  params : Params
  cfl : Cfl
  lsc : Lsc
  btb : Btb
  ssc : Ssc
  fde : Fde
  cfm : Cfm
  fcc : Fcc
  vdr : Vdr
  itb : Vector Timer 10
  ord : OrderDecoder
  aou : Aou
  svp : Svp
  freeCount : Nat
  cadenceFirst : Bool
  pending : List Instr
  deriving DecidableEq, Repr

/-- The part in reset: every block at its after-reset values (R14, R31, R35, R45, R64, R85, R104, R120,
R141, R152, R161, R167, R170, R171, R173, R177), the straps not yet latched, nothing waiting. -/
def State.reset : State where
  released := false
  loaded := false
  straps := ⟨0, false⟩
  params := Params.default
  cfl := Cfl.reset
  lsc := Lsc.reset
  btb := Btb.reset
  ssc := Ssc.reset
  fde := Fde.reset
  cfm := Cfm.reset
  fcc := Fcc.reset
  vdr := Vdr.reset
  itb := Vector.replicate 10 Timer.reset
  ord := OrderDecoder.reset
  aou := Aou.reset
  svp := Svp.reset
  freeCount := 0
  cadenceFirst := false
  pending := []

end Sys2Proof.Machine
end

