-- ==== Sys2Proof/Machine/Table.lean ====
section
/-! DEFINITION. Machine/Table.lean: the Bulletin Table's arrivals, counters, ageing and snapshot
(R5, R13, R32 to R40). Station row k stands at index k − 1. -/

namespace Sys2Proof.Machine

/-- A function on every row of the table, row by row. -/
def mapRows (g : Row → Row) (rows : Vector Row 24) : Vector Row 24 :=
  ⟨⟨rows.toList.map g⟩, by simp⟩

/-- Station row k (1 … 24); the row after reset for any other number. -/
def Btb.row (k : Nat) (b : Btb) : Row := b.rows.toList.getD (k - 1) Row.reset

/-- Station row k replaced by a function of it (1 … 24). -/
def Btb.modifyRow (k : Nat) (g : Row → Row) (b : Btb) : Btb :=
  if h : 1 ≤ k ∧ k ≤ 24 then { b with rows := b.rows.set (k - 1) (g (b.rows[k - 1])) } else b

/-- A bulletin is stored as a row's live copy: FRESH, age 0, heard (R32, R33). -/
def Row.arrive (b : Bulletin) (r : Row) : Row :=
  { r with live := some b, state := .fresh, age := 0, heard := true }

/-- The ageing of a row whose heard mark is clear (R36). -/
def Row.age1 (limit : Nat) (r : Row) : Row :=
  if r.heard then r
  else
    match r.state with
    | .fresh => { r with state := .held, age := 1 }
    | .held =>
      if r.age < limit then { r with age := r.age + 1 }
      else
        { r with
          state := .absent, age := 0, live := none, snapCopy := none, snapState := .absent, snapAge := 0 }
    | .absent => r

/-- A row's snapshot, taken with the row state and age as they stand, and its heard mark cleared
(R38). -/
def Row.snap (r : Row) : Row :=
  { r with snapCopy := r.live, snapState := r.state, snapAge := r.age, heard := false }

/-- A row's heard mark cleared without a snapshot (R40). -/
def Row.unheard (r : Row) : Row := { r with heard := false }

/-- The ageing and the snapshot at a cycle end (R36, R38). -/
def Btb.cycleEnd (limit : Nat) (b : Btb) : Btb :=
  { b with rows := mapRows (fun r => (r.age1 limit).snap) b.rows }

/-- The ageing at an ageing mark, without a snapshot (R40). -/
def Btb.ageingMark (limit : Nat) (b : Btb) : Btb :=
  { b with rows := mapRows (fun r => (r.age1 limit).unheard) b.rows }

/-- A malformed frame is counted in the row of its start slot (R5, R34). -/
def Btb.countCrc (k : Nat) (b : Btb) : Btb :=
  if k = 0 then { b with crcErrors0 := satInc 65535 b.crcErrors0 }
  else b.modifyRow k fun r => { r with crcErrors := satInc 65535 r.crcErrors }

/-- A misaligned frame is counted in the row of its slot number (R13, R34). -/
def Btb.countMisaligned (k : Nat) (b : Btb) : Btb :=
  if k = 0 then { b with misaligned0 := satInc 65535 b.misaligned0 }
  else b.modifyRow k fun r => { r with misaligned := satInc 65535 r.misaligned }

end Sys2Proof.Machine
end

