-- ==== Sys2Proof/Machine/Timers.lean ====
section
/-! DEFINITION. Machine/Timers.lean: the mechanism that every timer of the Interval Timer Bank has
(R151 to R156). -/

namespace Sys2Proof.Machine

/-- Whether a timer's base is the minute (R151). -/
def TimerId.minute : TimerId → Bool
  | .rot | .exer | .ice => true
  | .warm | .shed | .guard | .prot | .recov | .stag | .ord => false

/-- Whether a timer is repeating (R151). -/
def TimerId.repeating : TimerId → Bool
  | .exer | .ice => true
  | .rot | .warm | .shed | .guard | .prot | .recov | .stag | .ord => false

/-- Whether a start of a running timer reloads it (R151). -/
def TimerId.retriggerable : TimerId → Bool
  | .guard | .stag | .ord => true
  | .rot | .warm | .shed | .exer | .ice | .prot | .recov => false

/-- To load a timer (R154). -/
def Timer.load (tp : TimerParams) (t : Timer) : Timer :=
  { t with running := true, prescaler := tp.p, main := tp.c, sub := 0 }

/-- A start (R154). -/
def Timer.start (retriggerable : Bool) (tp : TimerParams) (t : Timer) : Timer :=
  if t.running && !retriggerable then t else t.load tp

/-- A stop leaves the counts where they stand (R154). -/
def Timer.stop (t : Timer) : Timer := { t with running := false }

/-- The main count of a running timer has reached 0 and its expiry is still to be taken
(R156; log entry 7). -/
def Timer.due (t : Timer) : Bool := t.running && t.main == 0

/-- One base unit off the counts (R155). -/
def Timer.baseUnit (tp : TimerParams) (t : Timer) : Timer :=
  if t.prescaler ≤ 1 then { t with prescaler := tp.p, main := t.main - 1 }
  else { t with prescaler := t.prescaler - 1 }

/-- A timer counts a cycle end (R155). One whose expiry is still to be taken counts nothing. -/
def Timer.count (minute : Bool) (tp : TimerParams) (t : Timer) : Timer :=
  if !t.running || t.due then t
  else if minute then
    if t.sub + 1 < 60 then { t with sub := t.sub + 1 } else Timer.baseUnit tp { t with sub := 0 }
  else t.baseUnit tp

/-- An expiry: the expiry count, and IDLE or a load by the timer's mode (R156). -/
def Timer.expire (repeating : Bool) (tp : TimerParams) (t : Timer) : Timer :=
  let t := { t with expiries := satInc 65535 t.expiries }
  if repeating then t.load tp else { t with running := false, prescaler := 0, main := 0 }

end Sys2Proof.Machine
end

