-- ==== Sys2Proof/Machine/Valve.lean ====
section
/-! DEFINITION. Machine/Valve.lean: the Valve Drive's command, travel check and flow weight
(R142 to R149). -/

namespace Sys2Proof.Machine

/-- The minimum opening in force (R142). -/
def minOpening (p : Params) (frost : FrostState) : Nat :=
  if frost = .guard then Nat.max p.guardOpening p.trickleOpening else p.trickleOpening

/-- The target of the command (R142). GUARD with a drained withdrawal, which the table leaves out, is
taken as CLEAR is (log entry 22). -/
def Vdr.target (p : Params) (v : Vdr) : Nat :=
  match v.frost with
  | .protect | .recover => 1000
  | .clear | .guard =>
    match v.role with
    | .init | .carrying | .protect | .warming => 1000
    | .shedding => if v.fansAtRest then minOpening p v.frost else 1000
    | .resting => minOpening p v.frost
    | .withdrawn => if v.drained then 0 else minOpening p v.frost

/-- The command after a role, drained or frost report that found role `before`: the target at once, but
for a warming command and a shedding one, which only a minimum opening above it moves between allotments
(R143). A cell that enters SHEDDING with fans turning has the target 1000 ‰. -/
def Vdr.settled (p : Params) (before : Role) (v : Vdr) : Nat :=
  match v.frost with
  | .protect | .recover => 1000
  | .clear | .guard =>
    match v.role with
    | .warming => Nat.max v.command (minOpening p v.frost)
    | .shedding =>
      if v.fansAtRest || before == .shedding then Nat.max v.command (minOpening p v.frost) else 1000
    | .init | .carrying | .protect | .resting | .withdrawn => v.target p

/-- The command after an allotment issued: the warm ramp's or the shed ramp's step, or the target at
once (R143). -/
def Vdr.stepped (p : Params) (v : Vdr) : Nat :=
  match v.frost with
  | .protect | .recover => 1000
  | .clear | .guard =>
    match v.role with
    | .warming => Nat.max (Nat.min 1000 (v.command + p.warmRate)) (minOpening p v.frost)
    | .shedding =>
      if v.fansAtRest then Nat.max (v.command - p.shedRate) (minOpening p v.frost) else 1000
    | .init | .carrying | .protect | .resting | .withdrawn => v.target p

/-- The flow weight of a flow figure (R149). -/
def flowWeight (p : Params) (figure : Nat) : Nat := figure * p.flowClass / 1000

/-- A start of the travel check for the command in force, from IDLE or TIMING (R146, R147). -/
def Vdr.startCheck (v : Vdr) : Vdr :=
  if v.check = .suspended then v else { v with check := .timing, travelCount := 0 }

/-- The command takes a value. A change starts the travel check, and recomputes q while the flow
source is the command (R146, R149). -/
def Vdr.setCommand (p : Params) (c : Nat) (v : Vdr) : Vdr :=
  if c = v.command then v
  else
    let v := Vdr.startCheck { v with command := c }
    if v.fromVF then v else { v with q := flowWeight p c }

/-- A report that found role `before` is acted on once an allotment has been received (R141, R143). -/
def Vdr.act (p : Params) (before : Role) (v : Vdr) : Vdr :=
  if v.allotmentReceived then v.setCommand p (v.settled p before) else v

/-- A role or drained report (R86, R143). -/
def Vdr.roleReport (p : Params) (r : Role) (drained : Bool) (v : Vdr) : Vdr :=
  Vdr.act p v.role { v with role := r, drained := drained }

/-- A frost report (R113, R114, R143). -/
def Vdr.frostReport (p : Params) (frost : FrostState) (v : Vdr) : Vdr :=
  Vdr.act p v.role { v with frost := frost }

/-- An allotment issued whose record carries a role and drained flag (R141, R143). -/
def Vdr.allotment (p : Params) (r : Role) (drained : Bool) (v : Vdr) : Vdr :=
  let v := { v with role := r, drained := drained, allotmentReceived := true }
  v.setCommand p (v.stepped p)

/-- The travel tolerance is fixed at 50 ‰ (chapter 8, R146). -/
def withinTolerance (vf : Int) (command : Nat) : Bool := (vf - command).natAbs ≤ 50

/-- The travel check at a scan completion (R146, R147). -/
def Vdr.checkScan (vf : Published) (v : Vdr) : Vdr :=
  if vf.ok then
    let v := if v.check = .suspended then { v with check := .timing, travelCount := 0 } else v
    if withinTolerance vf.value v.command then { v with check := .idle, stuck := false } else v
  else { v with check := .suspended, travelCount := 0, stuck := false }

/-- The flow weight at a scan completion, from the set just published (R149). -/
def Vdr.flowScan (p : Params) (vf : Published) (v : Vdr) : Vdr :=
  if vf.ok then { v with q := flowWeight p vf.value.toNat, fromVF := true }
  else { v with q := flowWeight p v.command, fromVF := false }

/-- A scan completion (R146, R147, R149). -/
def Vdr.scan (p : Params) (vf : Published) (v : Vdr) : Vdr := Vdr.flowScan p vf (v.checkScan vf)

/-- A cycle end in TIMING counts (R146). -/
def Vdr.cycleEnd (p : Params) (v : Vdr) : Vdr :=
  if v.check = .timing then { v with travelCount := satInc p.travelTime v.travelCount } else v

/-- Whether the travel count stands at the travel time in TIMING (R146; log entry 8). -/
def Vdr.travelDue (p : Params) (v : Vdr) : Bool := v.check == .timing && p.travelTime ≤ v.travelCount

/-- The converter code of a command: command × 1023 / 1000 rounded to nearest (R145). -/
def dacCode (command : Nat) : Nat := (2 * command * 1023 + 1000) / 2000

end Sys2Proof.Machine
end

