-- ==== Sys2Proof/Machine/Ops.lean ====
section
/-! DEFINITION. Machine/Ops.lean: the operations on the whole state that several commands share: alert
reports, timers, role changes and frost changes with their reports to the other blocks (R86, R93, R113),
suspension (R116, R117), the crystal's time. -/

namespace Sys2Proof.Machine

/-- The own address (R11). -/
def State.own (s : State) : Nat := ownAddressOf s.straps.address

/-- The enables in force: none before configuration load completion (R169). -/
def State.enables (s : State) : AlertMask := if s.loaded then s.params.enables else 0

/-- Owners report their conditions, all of one instant together; a report that changes nothing is not
made (R167; log entry 14). -/
def State.reportLive (live : AlertMask) (s : State) : State :=
  { s with
    aou := if live = s.aou.live then s.aou else Aou.setLive s.enables s.params.selects live s.aou }

/-- An owner reports one condition (R167). -/
def State.report (c : Category) (on : Bool) (s : State) : State :=
  s.reportLive (putAlert s.aou.live c on)

/-- A clear reaches the AOU (R168). -/
def State.clearAlerts (mask : AlertMask) (s : State) : State :=
  { s with aou := Aou.clear s.enables s.params.selects mask s.aou }

/-- The cadence counts a cycle end (R171). -/
def State.countCadence (s : State) : State :=
  { s with aou := Aou.cycleEnd s.params.reportInterval s.params.spaceInterval s.aou }

/-- The cadence counts, where the order of events that a command names has it count. -/
def State.countCadenceIf (b : Bool) (s : State) : State := if b then s.countCadence else s

/-- An owner's part `act` of an event that comes with a cycle end whose count the cadence has taken: where
that cycle end put the beginning of qualifying first, it counts 1 (R171; log entry 4). -/
def State.withCycleEnd (act : State → State) (s : State) : State :=
  (act s).countCadenceIf (!s.cadenceFirst && s.aou.cadence == .idle && (act s).aou.cadence != .idle)

/-- A timer. -/
def State.timer (id : TimerId) (s : State) : Timer := s.itb[id.index]

/-- A timer's P and C in use (R153). -/
def State.timerParams (id : TimerId) (s : State) : TimerParams := s.params.timers[id.index]

/-- A timer replaced. -/
def State.setTimer (id : TimerId) (t : Timer) (s : State) : State :=
  { s with itb := s.itb.set id.index t }

/-- An owner starts its timer (R154). -/
def State.startTimer (id : TimerId) (s : State) : State :=
  s.setTimer id ((s.timer id).start id.retriggerable (s.timerParams id))

/-- An owner stops its timer (R154). -/
def State.stopTimer (id : TimerId) (s : State) : State := s.setTimer id (s.timer id).stop

/-- A start that a rule makes only in some cases. -/
def State.startIf (b : Bool) (id : TimerId) (s : State) : State := if b then s.startTimer id else s

/-- A stop that a rule makes only in some cases. -/
def State.stopIf (b : Bool) (id : TimerId) (s : State) : State := if b then s.stopTimer id else s

/-- The timer's part of an expiry that is taken (R156). -/
def State.expire (id : TimerId) (s : State) : State :=
  s.setTimer id ((s.timer id).expire id.repeating (s.timerParams id))

/-- The FCC's report of whether any channel is starting or running, to the VDR (R141). -/
def State.reportFans (s : State) : State :=
  { s with vdr := { s.vdr with fansAtRest := !s.fcc.anyTurning } }

/-- The FCC takes a value and reports to the VDR (R141). -/
def State.setFcc (f : Fcc) (s : State) : State := State.reportFans { s with fcc := f }

/-- FAN_ICE is live while a channel is ICED (R138). -/
def State.reportIce (s : State) : State := s.report .fanIce s.fcc.anyIced

/-- The timers at a change of role: the leaving actions of the old role and the entering actions of the
new one (R93). -/
def State.roleTimers (old new : Role) (s : State) : State :=
  ((((s.stopIf (old == .warming) .warm).stopIf
    (old == .carrying || (old == .warming && new != .carrying)) .shed).stopIf (old == .carrying) .rot).startIf
    (new == .warming) .warm).startIf (new == .carrying) .rot

/-- The role machine's record at a change of role (R85, R93). `drained` counts only on entering
WITHDRAWN. -/
def Fde.enter (cause : RoleCause) (new : Role) (drained : Bool) (f : Fde) : Fde :=
  { f with
    role := new
    restAge := 0
    rotateDue := false
    coldJoin := false
    drained := drained && new == .withdrawn
    lastChange := some ⟨f.role, new, cause⟩ }

/-- A change of role in the role machine (R85, R93). -/
def State.enterRole (cause : RoleCause) (new : Role) (drained : Bool) (s : State) : State :=
  { s.roleTimers s.fde.role new with fde := s.fde.enter cause new drained }

/-- The CFM's conditions at the AOU: FROST_GUARD live in GUARD, FROST_TRIP live in PROTECT and RECOVER
(R113). -/
def State.frostAlerts (s : State) : State :=
  s.reportLive (putAlert (putAlert s.aou.live .frostGuard (s.cfm.frost == .guard)) .frostTrip
    (s.cfm.frost == .protect || s.cfm.frost == .recover))

/-- The VDR takes a report of the frost state (R113, R114). -/
def State.frostValve (s : State) : State :=
  { s with vdr := s.vdr.frostReport s.params s.cfm.frost }

/-- The monitor's record on being suspended (R116). -/
def Cfm.suspend (c : Cfm) : Cfm :=
  { c with frost := .clear, guardPending := false, protectPending := false, suspended := true }

/-- The monitor's record suspended. -/
def State.suspendCfm (s : State) : State := { s with cfm := s.cfm.suspend }

/-- The monitor's timers stopped (R116). -/
def State.stopFrostTimers (s : State) : State :=
  (((s.stopTimer .guard).stopTimer .prot).stopTimer .recov).stopTimer .stag

/-- The suspension of the frost monitor (R116): CLEAR, timers stopped, both alerts cleared, reported. -/
def State.suspend (s : State) : State := (s.suspendCfm.stopFrostTimers.frostAlerts).frostValve

/-- The suspended mark is cleared (R117). -/
def State.resume (s : State) : State := { s with cfm := { s.cfm with suspended := false } }

/-- The frost monitor takes a report of role and drained attribute (R116, R117). -/
def State.cfmReport (s : State) : State :=
  if s.fde.role = .withdrawn ∧ s.fde.drained then (if s.cfm.suspended then s else s.suspend)
  else s.resume

/-- The VDR takes a report of role and drained attribute (R86, R143). -/
def State.vdrReport (s : State) : State :=
  { s with vdr := s.vdr.roleReport s.params s.fde.role s.fde.drained }

/-- The FCC takes a report of a change of role (R133, R136). -/
def State.fccReport (s : State) : State :=
  (s.setFcc (s.fcc.roleReport s.fde.role)).startIf (s.fde.role == .resting) .exer

/-- A change of role made outside an allotment is reported at once to the VDR, the FCC and the CFM
(R86, R133, R136). -/
def State.reportRole (s : State) : State := s.vdrReport.fccReport.cfmReport

/-- A change of the drained attribute alone is reported to the VDR and the CFM (R86, R101, R133). -/
def State.reportDrained (s : State) : State := s.vdrReport.cfmReport

/-- A change of role with its reports (R86, R93). -/
def State.changeRole (cause : RoleCause) (new : Role) (drained : Bool) (s : State) : State :=
  (s.enterRole cause new drained).reportRole

/-- What the role machine does on a change of the frost state (R98, R99). -/
def State.frostRole (old new : FrostState) (s : State) : State :=
  if new = .protect ∧ s.fde.role ≠ .protect ∧ s.fde.role ≠ .withdrawn then
    s.changeRole .frostProtect .protect false
  else if old = .recover ∧ new = .clear ∧ s.fde.role = .protect then
    s.changeRole .frostClear .resting false
  else s

/-- The frost state takes a value. -/
def State.putFrost (new : FrostState) (s : State) : State :=
  { s with cfm := { s.cfm with frost := new } }

/-- The FCC takes a report of a frost change (R115). -/
def State.frostFans (old new : FrostState) (s : State) : State := s.setFcc (s.fcc.frostReport old new)

/-- A change of the frost state is reported at once to the AOU, the VDR and the FCC (R113 to R115). -/
def State.announceFrost (new : FrostState) (s : State) : State :=
  (((s.putFrost new).frostAlerts).frostValve).frostFans s.cfm.frost new

/-- A change of the frost state, reported at once to the AOU, the VDR, the FCC and the role machine
(R113 to R115). -/
def State.setFrost (new : FrostState) (s : State) : State :=
  (s.announceFrost new).frostRole s.cfm.frost new

/-- What an entry to PROTECT records: the pending marks cleared, the causes, the count (R109). -/
def Cfm.trip (causes : List TripCause) (c : Cfm) : Cfm :=
  { c with
    guardPending := false
    protectPending := false
    lastTrip := some causes
    tripCount := satInc 65535 c.tripCount }

/-- The timers at an entry to PROTECT (R109). -/
def State.protectTimers (s : State) : State := ((s.stopTimer .guard).stopTimer .recov).startTimer .prot

/-- The entry to PROTECT with its causes (R109). -/
def State.enterProtect (causes : List TripCause) (s : State) : State :=
  State.setFrost .protect { s.protectTimers with cfm := s.cfm.trip causes }

/-- Guard release pending takes a value. -/
def State.putGuardPending (on : Bool) (s : State) : State :=
  { s with cfm := { s.cfm with guardPending := on } }

/-- Protect release pending takes a value. -/
def State.putProtectPending (on : Bool) (s : State) : State :=
  { s with cfm := { s.cfm with protectPending := on } }

/-- The entry to GUARD (R106). -/
def State.enterGuard (s : State) : State := ((s.startTimer .guard).putGuardPending false).setFrost .guard

/-- The release from GUARD to CLEAR (R107, R108). -/
def State.releaseGuard (s : State) : State := ((s.stopTimer .guard).putGuardPending false).setFrost .clear

/-- The entry to RECOVER (R110). -/
def State.enterRecover (s : State) : State :=
  ((s.startTimer .recov).putProtectPending false).setFrost .recover

/-- VALVE_STUCK is live while stuck is set (R148). -/
def State.reportStuck (s : State) : State := s.report .valveStuck s.vdr.stuck

/-- Crystal time since the last command that carried one runs on in the LSC, once it listens to the
line (R7, R14; log entry 2). -/
def State.advance (dt : Nat) (s : State) : State :=
  if s.loaded then { s with lsc := s.lsc.advance s.own dt } else s

end Sys2Proof.Machine
end

