-- ==== Sys2Proof/Machine/Allotment.lean ====
section
/-! DEFINITION. Machine/Allotment.lean: the end of a field duty computation: stages 1 to 9 on the
latched inputs, the role decisions of stage 10, the record, the field alerts, and what the FCC and the
VDR do at allotment issued (R65 to R93, R123 to R125, R143, R144). -/

namespace Sys2Proof.Machine

/-- The peers of the computation in progress, from the snapshot rows (R63, R66). -/
def State.peers (s : State) : List Member :=
  peersOf s.straps.address.toNat s.straps.loop s.btb.rows

/-- Stages 1 to 5 of the computation on latched inputs `l` (R65). -/
def State.fieldResult (l : Latched) (s : State) : FieldPart := fieldPart s.params s.peers l s.fde

/-- Stages 6 to 9 of the computation on latched inputs `l` (R65). -/
def State.ownResult (l : Latched) (s : State) : OwnPart :=
  ownPart s.params s.straps.address.toNat s.peers l (s.fieldResult l).d s.fde

/-- Whether TO reaches the warm target (R89). -/
def State.warmed (l : Latched) (s : State) : Bool := reachesWarm s.params l.scan l.tSet

/-- The decision in INIT (R87). -/
def State.decideInit (l : Latched) (s : State) : State :=
  if l.bus = .active ∧ l.scan.isSome then s.enterRole .allotment .resting false else s

/-- The rest age counts an allotment (R88). -/
def State.rest (s : State) : State :=
  { s with fde := { s.fde with restAge := satInc 65535 s.fde.restAge } }

/-- The decision in RESTING (R88). -/
def State.decideResting (share : Nat) (s : State) : State :=
  if 0 < share then s.enterRole .allotment .warming false
  else s.rest

/-- The decision in WARMING (R90). -/
def State.decideWarming (l : Latched) (share : Nat) (s : State) : State :=
  if 0 < share then
    if s.warmed l then (s.stopTimer .shed).enterRole .allotment .carrying false else s.stopTimer .shed
  else s.startTimer .shed

/-- Cold-join at an allotment in CARRYING (R91). -/
def State.testColdJoin (l : Latched) (s : State) : State :=
  { s with fde := { s.fde with coldJoin := s.fde.coldJoin && !s.warmed l } }

/-- The decision in CARRYING (R91). -/
def State.decideCarrying (l : Latched) (share : Nat) (s : State) : State :=
  (if 0 < share then s.stopTimer .shed else s.startTimer .shed).testColdJoin l

/-- The decision in SHEDDING (R92). -/
def State.decideShedding (l : Latched) (share : Nat) (s : State) : State :=
  if 0 < share then s.enterRole .allotment .carrying false
  else if ¬ l.anyTurning ∧ l.valveAtMin then s.enterRole .allotment .resting false
  else s

/-- Stage 10: the role machine's decisions on the final share (R79, R87 to R92). -/
def State.decide (l : Latched) (share : Nat) (s : State) : State :=
  match s.fde.role with
  | .init => s.decideInit l
  | .resting => s.decideResting share
  | .warming => s.decideWarming l share
  | .carrying => s.decideCarrying l share
  | .shedding => s.decideShedding l share
  | .protect | .withdrawn => s

/-- The warm target kept at an allotment, by the role at issue, before stage 10 (R89). DEDUCED (log entry 19,
unsafe): CARRYING without cold-join is one of R89's other roles, so it keeps none. -/
def State.issueTarget (l : Latched) (s : State) : Option Int :=
  if s.fde.role = .warming ∨ (s.fde.role = .carrying ∧ s.fde.coldJoin) then
    some (warmTargetOf s.params l.scan l.tSet)
  else none

/-- The record of a computation, with the role, flags and rest age as stage 10 left them (R80). -/
def recordOf (l : Latched) (r : FieldPart) (o : OwnPart) (after : Fde) : Allotment where
  role := after.role
  rotateDue := after.rotateDue
  coldJoin := after.coldJoin
  drained := after.drained
  floorLimited := o.h < o.c
  noBasis := r.noBasis
  share := o.share
  h := o.h
  d := r.d
  dValid := true
  tMix := r.tMix
  m := o.m
  v := o.v
  restAge := after.restAge
  q := l.q
  nAvail := l.nAvail

/-- The overcool count after an allotment (R83). -/
def overcoolCount (p : Params) (r : FieldPart) (count : Nat) : Nat :=
  if overcoolMet p r then satInc 30 count else 0

/-- What the FDE keeps of a computation (R64, R71, R76, R80, R83, R84, R89). -/
def Fde.conclude (p : Params) (free : Nat) (l : Latched) (r : FieldPart) (o : OwnPart)
    (target : Option Int) (f : Fde) : Fde :=
  { f with
    d := r.d
    dValid := true
    tMix := r.tMix
    floorCeiling := o.h
    overcool := overcoolCount p r f.overcool
    allotment := some (recordOf l r o f)
    figures := some (figuresOf free r o)
    latched := none
    warmTarget := target }

/-- The field alerts of a computation, reported together (R82, R83). -/
def State.reportField (r : FieldPart) (s : State) : State :=
  s.reportLive (putAlert (putAlert s.aou.live .fieldShort (fieldShort s.params r)) .fieldOvercool
    (overcoolMet s.params r && 30 ≤ s.fde.overcool))

/-- The FCC at allotment issued: the role report where the allotment changed the role, then the staging
and the ramp (R123 to R125, R133, R136). -/
def State.stageFans (changed : Bool) (m v : Nat) (s : State) : State :=
  let f := if changed then s.fcc.roleReport s.fde.role else s.fcc
  (s.setFcc (f.stage s.params.pairOrder s.params.fanRamp m v s.cfm.frost)).startIf
    (changed && s.fde.role == .resting) .exer

/-- The VDR at allotment issued (R143). -/
def State.stepValve (s : State) : State :=
  { s with vdr := s.vdr.allotment s.params s.fde.role s.fde.drained }

/-- The FDE's record of the computation on `l`, with what stage 10 left (R80, R84). -/
def State.conclude (l : Latched) (r : FieldPart) (o : OwnPart) (target : Option Int) (s : State) : State :=
  { s with fde := s.fde.conclude s.params s.freeCount l r o target }

/-- The VDR and the FCC at allotment issued, in the order that the command names (R144). -/
def State.raiseAllotment (valveFirst changed : Bool) (m v : Nat) (s : State) : State :=
  if valveFirst then (s.stepValve).stageFans changed m v else (s.stageFans changed m v).stepValve

/-- The free values of the command are used up. -/
def State.spend (s : State) : State := { s with freeCount := s.freeCount + 1 }

/-- Stage 10 and the record of the computation on `l` (R79, R80). -/
def State.decideAndRecord (l : Latched) (s : State) : State :=
  (s.decide l (s.ownResult l).share).conclude l (s.fieldResult l) (s.ownResult l) (s.issueTarget l)

/-- The end of a computation: the field part, the own part, stage 10, the record and its reports. -/
def State.issue (valveFirst : Bool) (l : Latched) (s : State) : State :=
  (((s.decideAndRecord l).reportField (s.fieldResult l)).raiseAllotment valveFirst
    ((s.decideAndRecord l).fde.role != s.fde.role) (s.ownResult l).m (s.ownResult l).v).spend

/-- ALLOTMENT_ISSUED: the computation in progress ends (R64, R80). -/
def execAllotmentIssued (valveFirst : Bool) (s : State) : Host.Outcome State Fault Refusal :=
  match s.fde.latched with
  | some l => .next (s.issue valveFirst l)
  | none => .next s

end Sys2Proof.Machine
end

