-- ==== Sys2Proof/Machine/Startup.lean ====
section
/-! DEFINITION. Machine/Startup.lean: reset, reset release, the configuration image read and
configuration load completion (R14, R152, R173 to R176 and what each block does at load completion). -/

namespace Sys2Proof.Machine

/-- The read ends with an outcome (R174). The defaults flag is set at load completion (R175). -/
def Cfl.finish (o : LoadOutcome) (c : Cfl) : Cfl := { c with state := .done, outcome := some o }

/-- The sum test at the end of a read that was not ended early (R174). -/
def sumMatches (img : List Byte) : Bool :=
  let n := imageLength img
  byteSum (img.take (n - 2)) % 65536 == (wordAt img (n - 2)).toNat

/-- One byte of the image read (R174). -/
def Cfl.readByte (c : Cfl) (b : Byte) : Cfl :=
  if c.state = .done then c
  else
    let at0 := c.pointer
    let c := { c with image := c.image ++ [b], pointer := c.pointer + 1 }
    if at0 = 0 then (if b = 0x4E then c else c.finish .marker)
    else if at0 = 1 then c
    else if at0 = 2 then
      if 48 ≤ b.toNat ∧ b.toNat ≤ 240 then { c with limit := b.toNat - 3 } else c.finish .length
    else
      let c := { c with limit := c.limit - 1 }
      if c.limit = 0 then c.finish (if sumMatches c.image then .accepted else .sum) else c

/-- The bytes the memory gives, read one by one (R174). -/
def Cfl.read (bytes : List Byte) (c : Cfl) : Cfl := bytes.foldl Cfl.readByte c

/-- The read as it stands when its completion is offered: ended before, not acknowledged, or read byte
by byte (R174). -/
def Cfl.complete (acknowledged : Bool) (bytes : List Byte) (c : Cfl) : Cfl :=
  if c.state = .done then c else if acknowledged then c.read bytes else c.finish .noAck

/-- The defaults flag at load completion: set for every outcome but ACCEPTED (R175). -/
def Cfl.judge (c : Cfl) : Cfl := { c with defaults := decide (c.outcome ≠ some .accepted) }

/-- The parameters handed out at load completion (R175). -/
def Cfl.params (c : Cfl) : Params := if c.defaults then Params.default else Params.ofImage c.image

/-- A floor lowered to its setpoint less 2.0 °C (R162, step 3). -/
def lowerFloor (setpoint floor : Int) : Int := if setpoint - 20 < floor then setpoint - 20 else floor

/-- The ORD takes the image's settings (R161, R162). -/
def OrderDecoder.load (p : Params) (o : OrderDecoder) : OrderDecoder :=
  { o with
    setpoint0 := p.setpoint0
    floor0 := lowerFloor p.setpoint0 p.floor0
    setpoint1 := p.setpoint1
    floor1 := lowerFloor p.setpoint1 p.floor1 }

/-- A timer that is running is loaded again with the image's values (R152). -/
def State.reloadRunning (id : TimerId) (s : State) : State :=
  if (s.timer id).running then s.setTimer id ((s.timer id).load (s.timerParams id)) else s

/-- The ten timers in the order of R151. -/
def allTimers : List TimerId := [.rot, .warm, .shed, .exer, .ice, .guard, .prot, .recov, .stag, .ord]

/-- The LSC's start: UNADDRESSED takes a slot position at 0.0 ms, LISTEN starts its listen window; the
idle line is counted from that instant (R14, R15, R16). -/
def Lsc.start (own : Nat) (l : Lsc) : Lsc :=
  match l.bus with
  | .unaddressed => { l with position := some 0, idle := 0 }
  | .listen | .joining | .active | .duplicate =>
    { l with window := some (windowUs own 0), extension := 0, idle := 0 }

/-- The parameters are handed out, and the LSC, the VDR, the ORD and the SSC take theirs or start
(R14, R44, R146, R161, R175). DESIGN CHOICE (log entry 30, unsafe): q keeps its after-reset 200 until the
first scan completion or change of the command, the events at which R149 recomputes it, although its formula
with the image's Kq could give another value. -/
def State.handOut (s : State) : State :=
  { s with
    loaded := true
    params := s.cfl.params
    lsc := s.lsc.start s.own
    vdr := s.vdr.startCheck
    ord := s.ord.load s.cfl.params
    ssc := { s.ssc with nextChannel := 0 } }

/-- The fans that are not fitted become ABSENT (R120). -/
def State.fitFans (s : State) : State := s.setFcc (s.fcc.fit s.params.nFit)

/-- Every running timer is loaded with the image's values (R152). -/
def State.reloadTimers (s : State) : State := allTimers.foldl (fun s id => s.reloadRunning id) s

/-- Qualifying is evaluated at load completion (R170). -/
def State.reevalAlerts (s : State) : State :=
  { s with aou := Aou.reeval s.enables s.params.selects s.aou }

/-- Configuration load completion in every block (R120, R138, R146, R152, R153, R161, R169, R175). -/
def State.completeLoad (s : State) : State :=
  ((s.handOut.fitFans.reportIce.reloadTimers).report .configDefault s.cfl.defaults).reevalAlerts

/-- The straps are latched, and the LSC takes its bus state and anchor from the address (R11, R14,
R173). -/
def State.latchStraps (address : BitVec 5) (loop : Bool) (s : State) : State :=
  { s with
    released := true
    straps := ⟨address, loop⟩
    lsc := { s.lsc with
      bus := if goodAddress address then .listen else .unaddressed
      anchor := ownAddressOf address } }

/-- RESET_RELEASE: the straps, the bus state and the anchor, T_ICE and T_ORD (R11, R14, R137, R152,
R161, R173). -/
def execResetRelease (address : BitVec 5) (loop : Bool) (s : State) :
    Host.Outcome State Fault Refusal :=
  if s.released then .next s else .next (((s.latchStraps address loop).startTimer .ice).startTimer .ord)

/-- SCL_HOLD_TIMEOUT: the bytes read before it stand, and a read that had not ended ends with NO_ACK
(R174). -/
def execSclHoldTimeout (bytes : List Byte) (s : State) : Host.Outcome State Fault Refusal :=
  if s.released ∧ s.cfl.state = .loading then
    let c := s.cfl.read bytes
    .next { s with cfl := if c.state = .done then c else c.finish .noAck }
  else .next s

/-- CONFIGURATION_LOAD_COMPLETION: the rest of the read, and, if it has ended, the completion in every
block (R174, R175; log entry 15). -/
def execConfigurationLoadCompletion (acknowledged : Bool) (bytes : List Byte) (s : State) :
    Host.Outcome State Fault Refusal :=
  if s.released ∧ ¬ s.loaded then
    let c := s.cfl.complete acknowledged bytes
    .next (if c.state = .done then State.completeLoad { s with cfl := c.judge } else { s with cfl := c })
  else .next s

/-- RESET_ASSERTED: every block at its after-reset values, whatever was in progress (R14, R31, R42,
R44, R45, R64, R85, R104, R120, R141, R152, R161, R167, R170, R171, R173, R177). -/
def execResetAsserted (s : State) : Host.Outcome State Fault Refusal :=
  .next { State.reset with
    pending := s.pending, freeCount := s.freeCount, cadenceFirst := s.cadenceFirst }

end Sys2Proof.Machine
end

