-- ==== Sys2Proof/Machine/Orders.lean ====
section
/-! DEFINITION. Machine/Orders.lean: what an order taken does (R100 to R102, R134, R139, R161 to R164). -/

namespace Sys2Proof.Machine

/-- The own station's bit of a mask (R160). -/
def State.ownBit (s : State) (m : StationMask) : Bool := m.getLsbD (s.straps.address.toNat - 1)

/-- A loop's setpoint and floor after the clamps of R162. -/
def clampSettings (setpoint floor : Int) : Int × Int :=
  let sp := clampInt 50 450 setpoint
  (sp, lowerFloor sp (clampInt (-100) 400 floor))

/-- The setpoint and floor items of an order (R162). -/
def OrderDecoder.applySettings (o : Order) (d : OrderDecoder) : OrderDecoder :=
  let l0 := if o.valid0 then clampSettings o.setpoint0 o.floor0 else (d.setpoint0, d.floor0)
  let l1 := if o.valid1 then clampSettings o.setpoint1 o.floor1 else (d.setpoint1, d.floor1)
  { d with setpoint0 := l0.1, floor0 := l0.2, setpoint1 := l1.1, floor1 := l1.2 }

/-- The role a withdrawn cell is restored to (R102). -/
def restoredRole (frost : FrostState) : Role :=
  if frost = .protect ∨ frost = .recover then .protect else .resting

/-- The drained attribute takes a value, the role staying WITHDRAWN (R101). -/
def State.putDrained (drained : Bool) (s : State) : State :=
  { s with fde := { s.fde with drained := drained } }

/-- The role machine takes the withdraw and drained levels of an order (R100 to R102, R163). -/
def State.takeLevels (withdraw drained : Bool) (s : State) : State :=
  if withdraw then
    if s.fde.role ≠ .withdrawn then s.changeRole .withdraw .withdrawn drained
    else if s.fde.drained ≠ drained then (s.putDrained drained).reportDrained
    else s
  else if s.fde.role = .withdrawn then s.changeRole .restore (restoredRole s.cfm.frost) false
  else s

/-- The fan-reset edge (R139). -/
def State.fanReset (s : State) : State := State.reportIce { s with fcc := s.fcc.fanReset }

/-- The exercise of R134, at a T_EXER expiry or an exercise edge. -/
def State.exercise (s : State) : State :=
  if s.fde.role = .resting then { s with fcc := s.fcc.exercise s.cfm.frost } else s

/-- Order taken since reset becomes yes (R161). -/
def State.markTaken (s : State) : State := { s with ord := { s.ord with taken := true } }

/-- Step 1 of R161: T_ORD, PANEL_SILENT, order taken since reset. -/
def State.noteOrder (s : State) : State := ((s.startTimer .ord).report .panelSilent false).markTaken

/-- Step 2 of R161: the setpoints and floors (R162). -/
def State.takeSettings (o : Order) (s : State) : State := { s with ord := s.ord.applySettings o }

/-- The levels of an order are held (R163). -/
def State.holdLevels (o : Order) (s : State) : State :=
  { s with ord := { s.ord with withdraw := s.ownBit o.withdraw, drainedLevel := s.ownBit o.drained } }

/-- Step 3 of R161: the own levels, and the role machine's part. -/
def State.takeWithdraw (o : Order) (s : State) : State :=
  (s.holdLevels o).takeLevels (s.ownBit o.withdraw) (s.ownBit o.drained)

/-- Whether an edge item is found: set in the order, clear in the previous mask (R164). -/
def State.edge (s : State) (mask previous : StationMask) : Bool := s.ownBit mask && !s.ownBit previous

/-- The fan-reset edge of an order, if it is found (R164). -/
def State.takeFanReset (o : Order) (s : State) : State :=
  if s.edge o.fanReset s.ord.prevFanReset then s.fanReset else s

/-- The exercise edge of an order, if it is found (R164). -/
def State.takeExercise (o : Order) (s : State) : State :=
  if s.edge o.exercise s.ord.prevExercise then s.exercise else s

/-- The clear-alerts edge of an order, if it is found (R164, R168). -/
def State.takeClear (o : Order) (s : State) : State :=
  if s.edge o.clearAlerts s.ord.prevClear then s.clearAlerts (BitVec.allOnes 12) else s

/-- Step 4 of R161: the edges, in the order of R164. -/
def State.takeEdges (o : Order) (s : State) : State := ((s.takeFanReset o).takeExercise o).takeClear o

/-- Step 5 of R161: the previous masks. -/
def State.takeMasks (o : Order) (s : State) : State :=
  { s with
    ord := { s.ord with
      prevClear := o.clearAlerts, prevFanReset := o.fanReset, prevExercise := o.exercise } }

/-- The event "order taken" (R161). -/
def State.takeOrder (o : Order) (s : State) : State :=
  ((((s.noteOrder).takeSettings o).takeWithdraw o).takeEdges o).takeMasks o

end Sys2Proof.Machine
end

