-- ==== Sys2Proof/Machine/Bus.lean ====
section
/-! DEFINITION. Machine/Bus.lean: the commands of the field bus: frames, the own slot, the listen
window, cycle end and ageing mark (chapters 1 and 2, R63, R146, R155, R171). -/

namespace Sys2Proof.Machine

/-- A bulletin's characters are stored, normalised, in row k (R27, R32, R33). -/
def State.storeRow (k : Nat) (cs : List Byte) (s : State) : State :=
  { s with btb := s.btb.modifyRow k (Row.arrive (bulletinOf cs)) }

/-- The LSC's part of an accepted bulletin from station k (R6, R23). -/
def Lsc.hearFrom (k : Nat) (l : Lsc) : Lsc := { l with heard := hear k l.heard, isolation := 0 }

/-- An accepted bulletin from station k: the arrival, the heard set, the isolation count
(R6, R23, R32). -/
def State.acceptBulletin (k : Nat) (cs : List Byte) (s : State) : State :=
  State.report .busIsolated false { s.storeRow k cs with lsc := s.lsc.hearFrom k }

/-- Whether the ORD takes an accepted order frame in a bus state (R161). -/
def BusState.takesOrders (b : BusState) : Bool := b.raisesCycleEnd

/-- An order frame is stored in row 0 (R35). -/
def State.storeOrder (cs : List Byte) (s : State) : State :=
  { s with btb := { s.btb with order := some cs } }

/-- An accepted order frame: row 0, and the ORD (R6, R35, R161). -/
def State.acceptOrder (cs : List Byte) (s : State) : State :=
  if s.lsc.bus.takesOrders then (s.storeOrder cs).takeOrder (orderOf cs) else s.storeOrder cs

/-- A jump of the slot position (R8, R12). -/
def State.jump (p : Nat) (s : State) : State := { s with lsc := s.lsc.jump s.own p }

/-- A malformed frame (R5). -/
def State.malformed (start : Option Nat) (s : State) : State :=
  match start with
  | some p => { s with btb := s.btb.countCrc (p / slotUs) }
  | none => s

/-- The entry to DUPLICATE (R22): BUS_ISOLATED cleared and DUP_ADDRESS raised. -/
def State.enterDuplicate (s : State) : State :=
  State.reportLive (putAlert (putAlert s.aou.live .busIsolated false) .dupAddress true)
    { s with lsc := s.lsc.enterDuplicate }

/-- An own-address bulletin (R22). -/
def State.ownAddressBulletin (s : State) : State :=
  match s.lsc.bus with
  | .listen | .joining | .active => s.enterDuplicate
  | .duplicate | .unaddressed => s

/-- Whether a bulletin from station k is an anchor frame (R12). -/
def State.isAnchor (k : Nat) (s : State) : Bool := k < s.own && k ≤ s.lsc.anchor

/-- JOINING, entered from a listen window (R17, R18). -/
def State.join (s : State) : State :=
  { s with lsc := { s.lsc with bus := .joining, window := none, joinCycleEnds := 0 } }

/-- The bulletin that ends a listen window (R17). -/
def State.endWindow (k : Nat) (elapsed : Nat) (cs : List Byte) (s : State) : State :=
  ((s.jump (realignedPosition k elapsed)).acceptBulletin k cs).join

/-- A candidate judged against the acceptance window of slot k (R13). -/
def State.windowed (k : Nat) (start : Option Nat) (accept : State → State) (s : State) : State :=
  match start with
  | some p => if inWindow k p then accept s else { s with btb := s.btb.countMisaligned k }
  | none => s

/-- A valid frame (R4, R12, R13, R17, R22). -/
def State.validFrame (r : RxFrame) (e : Envelope) (s : State) : State :=
  match e with
  | .order cs => s.windowed 0 r.start (State.acceptOrder cs)
  | .bulletin k cs =>
    if k = s.own then s.ownAddressBulletin
    else if s.lsc.bus = .listen then s.endWindow k r.elapsed cs
    else if s.isAnchor k then (s.jump (realignedPosition k r.elapsed)).acceptBulletin k cs
    else s.windowed k r.start (State.acceptBulletin k cs)

/-- The frame in progress ends 400 µs after its last stop bit; where the station's own DE was released after
that stop bit, the idle line is counted from the release (R2; log entry 20). -/
def State.endFrame (s : State) : State :=
  { s with lsc := { s.lsc with rx := none, idle := Nat.min frameEndUs s.lsc.idle } }

/-- The judgement at frame completion (R4, R5). -/
def State.completeFrame (r : RxFrame) (chars : List RxChar) (s : State) : State :=
  match judgeFrame chars with
  | none => s.endFrame.malformed r.start
  | some e => s.endFrame.validFrame r e

/-- The own bulletin's outlet temperature and outlet-valid (R28, R29). -/
def ownOutletField (scan : Option ScanSet) : Int × Bool :=
  match scan with
  | some s => (s.to.value, s.to.ok && !s.fault)
  | none => (0, false)

/-- The own bulletin as composed at own-slot start (R28, R29). -/
def State.ownBulletin (s : State) : Bulletin :=
  let a := s.straps.address.toNat
  let o := ownOutletField s.ssc.scanSet
  let base : Bulletin :=
    { slot := a, source := a, loop := s.straps.loop, dValid := false, outletValid := o.2, role := .init
      rotateDue := false, coldJoin := false, floorLimited := false, noBasis := false, drained := false
      outlet := o.1, q := s.vdr.q, h := 0, share := 0, d := 0, restAge := 0, frost := s.cfm.frost
      nFit := s.params.nFit, nAvail := s.fcc.nAvail, fanSpeed := 0, alerts := s.aou.latched }
  match s.fde.allotment with
  | none => base
  | some r =>
    { base with
      dValid := r.dValid, role := r.role, rotateDue := r.rotateDue, coldJoin := r.coldJoin
      floorLimited := r.floorLimited, noBasis := r.noBasis, drained := r.drained, q := r.q, h := r.h
      share := r.share, d := r.d, restAge := r.restAge, nAvail := r.nAvail
      fanSpeed := roundDivNat r.v 4 }

/-- Own-slot start: the bulletin is composed, and is held for the transmit instant (R8, R28). -/
def State.compose (s : State) : State :=
  { s with
    lsc := { s.lsc with
      composed := some (bulletinChars s.ownBulletin)
      ownSlotRaised := true
      ownSlotEntered := false } }

/-- The listen extension drawn from REF's most recent raw code (R16, R46). -/
def Ssc.extension (s : Ssc) : Nat := match s.refRaw with | some c => c.toNat % 8 | none => 0

/-- A transmit readback mismatch, or a busy line at the transmit instant (R20, R21). -/
def State.mismatch (s : State) : State :=
  { s with lsc := s.lsc.collide s.own s.ssc.extension }

/-- Whether the transmit instant has come: a bulletin is held in ACTIVE, and the position stands in the
own slot at or past 2.0 ms (R8). -/
def State.transmitDue (s : State) : Bool :=
  s.lsc.bus == .active && s.lsc.composed.isSome &&
    match s.lsc.position with
    | some p => inSlot s.own p && s.own * slotUs + transmitUs ≤ p
    | none => false

/-- The FDE latches its inputs at snapshot taken (R63), with the bus state of the cycle end. -/
def State.latch (bus : BusState) (s : State) : State :=
  { s with
    fde := { s.fde with
      latched := some
        { scan := s.ssc.scanSet
          tSet := if s.straps.loop then s.ord.setpoint1 else s.ord.setpoint0
          tFloor := if s.straps.loop then s.ord.floor1 else s.ord.floor0
          q := s.vdr.q
          valveAtMin := s.vdr.command == minOpening s.params s.vdr.frost
          nAvail := s.fcc.nAvail
          runningCount := s.fcc.runOrder.length
          anyTurning := s.fcc.anyTurning
          bus := bus
          role := s.fde.role } } }

/-- A timer counts a cycle end (R155). -/
def State.countTimer (id : TimerId) (s : State) : State :=
  s.setTimer id ((s.timer id).count id.minute (s.timerParams id))

/-- The ITB counts a cycle end (R155). -/
def State.countTimers (s : State) : State := allTimers.foldl (fun s id => s.countTimer id) s

/-- The LSC's isolation count at a cycle end (R23). -/
def State.stepIsolation (s : State) : State := { s with lsc := s.lsc.countIsolation s.own }

/-- The isolation count at a cycle end, and BUS_ISOLATED at 10 (R23). -/
def State.countIsolation (s : State) : State :=
  if s.stepIsolation.lsc.bus = .active ∧ s.stepIsolation.lsc.isolation = 10 then
    s.stepIsolation.report .busIsolated true
  else s.stepIsolation

/-- The LSC at a cycle end or ageing mark that is taken, and the anchor (R9, R10, R11). -/
def State.takeEnd (s : State) : State := { s with lsc := (s.lsc.takeEnd).recomputeAnchor s.own }

/-- The table at a cycle end (R36, R38). -/
def State.ageRows (s : State) : State := { s with btb := s.btb.cycleEnd s.params.holdLimit }

/-- The travel check at a cycle end (R146). -/
def State.countTravel (s : State) : State := { s with vdr := s.vdr.cycleEnd s.params }

/-- JOINING at a cycle end (R18). -/
def State.countJoining (s : State) : State := { s with lsc := s.lsc.countJoining }

/-- The order of the cadence's count among what one cycle end raises, kept for the events that come with it
(R171; log entry 4). -/
def State.chooseOrder (cadenceFirst : Bool) (s : State) : State := { s with cadenceFirst := cadenceFirst }

/-- The work of a cycle end (R9, R11, R18, R23, R36, R38, R63, R146, R155, R171). The FDE latches the bus
state as it stood before any change taken here (R63). -/
def State.endCycle (cadenceFirst : Bool) (s : State) : State :=
  let counted := ((s.chooseOrder cadenceFirst).countCadenceIf cadenceFirst).countIsolation
  let taken := ((counted.takeEnd.ageRows).latch s.lsc.bus).countTimers
  (taken.countTravel.countCadenceIf (!cadenceFirst)).countJoining

/-- The table at an ageing mark (R40). -/
def State.markRows (s : State) : State := { s with btb := s.btb.ageingMark s.params.holdLimit }

/-- The work of an ageing mark (R10, R11, R40). -/
def State.markAgeing (s : State) : State := s.takeEnd.markRows

/-- FRAME_START_DETECTED: after 1.0 ms of idle line, with DE released and no frame in progress, the
slot position is recorded (R2). -/
def execFrameStartDetected (elapsed : Nat) (s : State) : Host.Outcome State Fault Refusal :=
  let s := s.advance elapsed
  if s.loaded ∧ s.lsc.rx = none ∧ s.lsc.sending = none ∧ frameIdleUs ≤ s.lsc.idle then
    .next { s with lsc := { s.lsc with rx := some ⟨s.lsc.position, 0⟩ } }
  else .next s

/-- FRAME_COMPLETION of the frame in progress (R2, R4). -/
def execFrameCompletion (elapsed : Nat) (chars : List RxChar) (s : State) :
    Host.Outcome State Fault Refusal :=
  let s := s.advance elapsed
  match s.lsc.rx with
  | some r => .next (s.completeFrame r chars)
  | none => .next s

/-- STRAY_CHARACTER, taken at the end of its stop bit: a character whose start bit came before 1.0 ms of idle
line is dropped, and the idle count begins again (R2, R14; log entry 20). -/
def execStrayCharacter (elapsed : Nat) (s : State) : Host.Outcome State Fault Refusal :=
  let s := s.advance elapsed
  if s.loaded ∧ s.lsc.rx = none ∧ s.lsc.sending = none ∧ s.lsc.idle < frameIdleUs + characterUs then
    .next { s with lsc := { s.lsc with idle := 0 } }
  else .next s

/-- OWN_SLOT_START: in ACTIVE, when the running position has advanced into the own slot, at most once
between two cycle ends (R8). -/
def execOwnSlotStart (elapsed : Nat) (s : State) : Host.Outcome State Fault Refusal :=
  let s := s.advance elapsed
  if s.lsc.bus = .active ∧ s.lsc.ownSlotEntered ∧ ¬ s.lsc.ownSlotRaised then .next s.compose
  else .next s

/-- TRANSMIT_INSTANT: the composed bulletin begins to be sent, or a busy line counts as a mismatch
(R8, R20). DESIGN CHOICE (log entry 27, unsafe): another station's frame that is between two characters, on a
line at mark, stays in progress while the own bulletin is sent, and FRAME_COMPLETION judges it; R20 speaks
only of a frame found by a busy line. -/
def execTransmitInstant (elapsed : Nat) (lineBusy : Bool) (s : State) :
    Host.Outcome State Fault Refusal :=
  let s := s.advance elapsed
  if s.transmitDue then
    if lineBusy then .next s.mismatch
    else .next { s with lsc := { s.lsc with sending := s.lsc.composed, composed := none } }
  else .next s

/-- The end of a clean transmission: DE released, collision count 0, the bulletin as sent stored in the own
row (R21, R30, R33). -/
def State.endClean (cs : List Byte) (s : State) : State :=
  let s := s.storeRow s.straps.address.toNat cs
  { s with lsc := { s.lsc.releaseDriver with collisions := 0 } }

/-- TRANSMIT_READBACK_MISMATCH: while the station transmits, a position has come back other than as it was
sent (R20, R21). -/
def execTransmitReadbackMismatch (readback : Readback) (s : State) : Host.Outcome State Fault Refusal :=
  let s := s.advance readback.elapsed
  match s.lsc.sending with
  | some cs => if returnDiffers cs readback.returned then .next s.mismatch else .next s
  | none => .next s

/-- CLEAN_TRANSMISSION: all characters sent have come back equal (R20, R21, R33). -/
def execCleanTransmission (readback : Readback) (s : State) : Host.Outcome State Fault Refusal :=
  let s := s.advance readback.elapsed
  match s.lsc.sending with
  | some cs => if readback.returned = echoOf cs then .next (s.endClean cs) else .next s
  | none => .next s

/-- LISTEN_WINDOW_END_IN_SILENCE: the position at the own slot's start, ACTIVE, own-slot start (R16). -/
def execListenWindowEndInSilence (elapsed : Nat) (s : State) : Host.Outcome State Fault Refusal :=
  let s := s.advance elapsed
  if s.lsc.bus = .listen ∧ s.lsc.window = some 0 then
    let s := s.jump (s.own * slotUs)
    .next (State.compose { s with lsc := { s.lsc with bus := .active, window := none } })
  else .next s

/-- CYCLE_END: the running position has passed the end of slot 24, not too soon (R9). -/
def execCycleEnd (elapsed : Nat) (cadenceFirst : Bool) (s : State) : Host.Outcome State Fault Refusal :=
  let s := s.advance elapsed
  if s.lsc.bus.raisesCycleEnd ∧ s.lsc.endPassed then .next (s.endCycle cadenceFirst) else .next s

/-- AGEING_MARK: the same passing in UNADDRESSED (R10). -/
def execAgeingMark (elapsed : Nat) (s : State) : Host.Outcome State Fault Refusal :=
  let s := s.advance elapsed
  if s.lsc.bus = .unaddressed ∧ s.lsc.endPassed then .next s.markAgeing else .next s

end Sys2Proof.Machine
end

