-- ==== Sys2Proof/Machine/Expiries.lean ====
section
/-! DEFINITION. Machine/Expiries.lean: the ten timer expiries, each with its owner's action, and the
travel time of the Valve Drive (R94 to R96, R108, R110 to R112, R134, R137, R146, R156, R165). An
expiry is taken when its timer is due (log entry 7). -/

namespace Sys2Proof.Machine

/-- Rotate-due is set (R95). -/
def State.setRotateDue (s : State) : State := { s with fde := { s.fde with rotateDue := true } }

/-- The role machine at T_ROT expiry (R95). -/
def State.rotExpired (s : State) : State := if s.fde.role = .carrying then s.setRotateDue else s

/-- Cold-join is set (R94). -/
def State.setColdJoin (s : State) : State := { s with fde := { s.fde with coldJoin := true } }

/-- The role machine at T_WARM expiry (R94). -/
def State.warmExpired (s : State) : State :=
  if s.fde.role = .warming then ((s.enterRole .warmExpiry .carrying false).setColdJoin).reportRole else s

/-- The role machine at T_SHED expiry (R96). -/
def State.shedExpired (s : State) : State :=
  if s.fde.role = .warming then s.changeRole .shedExpiry .resting false
  else if s.fde.role = .carrying then s.changeRole .shedExpiry .shedding false
  else s

/-- Whether TA of the latest set permits an ice retry (R137). -/
def State.mildAir (s : State) : Bool :=
  match s.ssc.scanSet with
  | some set => !set.ta.ok || s.params.iceAmbient ≤ set.ta.value
  | none => false

/-- The roles in which an ice retry is made (R137). -/
def Role.retriesIce : Role → Bool
  | .resting | .carrying | .shedding => true
  | .init | .warming | .protect | .withdrawn => false

/-- The FCC at T_ICE expiry (R137, R138). -/
def State.iceExpired (s : State) : State :=
  if s.mildAir ∧ s.cfm.frost = .clear ∧ s.fde.role.retriesIce then
    State.reportIce { s with fcc := s.fcc.iceRetry }
  else s

/-- Whether a test holds of the latest published set (R105). -/
def State.latestSet (test : ScanSet → Bool) (s : State) : Bool :=
  match s.ssc.scanSet with
  | some set => test set
  | none => false

/-- The CFM at T_GUARD expiry (R108). -/
def State.guardExpired (s : State) : State :=
  if s.cfm.frost = .guard then
    if s.latestSet fun set => set.to.back then s.releaseGuard
    else s.putGuardPending true
  else s

/-- The CFM at T_PROT expiry (R110). -/
def State.protExpired (s : State) : State :=
  if s.cfm.frost = .protect then
    if s.latestSet ScanSet.allBack then s.enterRecover
    else s.putProtectPending true
  else s

/-- The CFM at T_RECOV expiry (R111). -/
def State.recovExpired (s : State) : State :=
  if s.cfm.frost = .recover then s.setFrost .clear else s

/-- The CFM at T_STAG expiry (R110 to R112). -/
def State.stagExpired (s : State) : State :=
  if s.cfm.frost = .protect ∨ s.cfm.suspended then s else s.enterProtect [.stagnation]

/-- The ORD at T_ORD expiry (R165). -/
def State.ordExpired (s : State) : State := if s.ord.taken then s.report .panelSilent true else s

/-- An expiry that is due: the timer's part, then the owner's (R156). -/
def State.takeExpiry (id : TimerId) (owner : State → State) (s : State) : State :=
  if (s.timer id).due then owner (s.expire id) else s

/-- T_ROT_EXPIRY (R95). -/
def execTRotExpiry (s : State) : Host.Outcome State Fault Refusal :=
  .next (s.takeExpiry .rot State.rotExpired)

/-- T_WARM_EXPIRY (R94). -/
def execTWarmExpiry (s : State) : Host.Outcome State Fault Refusal :=
  .next (s.takeExpiry .warm State.warmExpired)

/-- T_SHED_EXPIRY (R96). -/
def execTShedExpiry (s : State) : Host.Outcome State Fault Refusal :=
  .next (s.takeExpiry .shed State.shedExpired)

/-- T_EXER_EXPIRY (R134). -/
def execTExerExpiry (s : State) : Host.Outcome State Fault Refusal :=
  .next (s.takeExpiry .exer State.exercise)

/-- T_ICE_EXPIRY (R137). -/
def execTIceExpiry (s : State) : Host.Outcome State Fault Refusal :=
  .next (s.takeExpiry .ice State.iceExpired)

/-- T_GUARD_EXPIRY (R108). -/
def execTGuardExpiry (s : State) : Host.Outcome State Fault Refusal :=
  .next (s.takeExpiry .guard State.guardExpired)

/-- T_PROT_EXPIRY (R110). -/
def execTProtExpiry (s : State) : Host.Outcome State Fault Refusal :=
  .next (s.takeExpiry .prot State.protExpired)

/-- T_RECOV_EXPIRY (R111). -/
def execTRecovExpiry (s : State) : Host.Outcome State Fault Refusal :=
  .next (s.takeExpiry .recov State.recovExpired)

/-- T_STAG_EXPIRY (R112, R171). -/
def execTStagExpiry (s : State) : Host.Outcome State Fault Refusal :=
  .next (s.takeExpiry .stag (State.withCycleEnd State.stagExpired))

/-- T_ORD_EXPIRY (R165, R171). -/
def execTOrdExpiry (s : State) : Host.Outcome State Fault Refusal :=
  .next (s.takeExpiry .ord (State.withCycleEnd State.ordExpired))

/-- Stuck is set (R146). -/
def State.setStuck (s : State) : State := { s with vdr := { s.vdr with stuck := true } }

/-- The valve is declared stuck (R146, R148). -/
def State.declareStuck (s : State) : State := s.setStuck.reportStuck

/-- TRAVEL_TIME_REACHED: stuck is set, and VALVE_STUCK raised (R146, R148, R171; log entry 8). -/
def execTravelTimeReached (s : State) : Host.Outcome State Fault Refusal :=
  if s.vdr.travelDue s.params then .next (s.withCycleEnd State.declareStuck) else .next s

end Sys2Proof.Machine
end

