-- ==== Sys2Proof/Machine/FanEvents.lean ====
section
/-! DEFINITION. Machine/FanEvents.lean: the commands of the Fan Channel Controller's timebase and of its
tach inputs (R119, R127 to R132, R135). -/

namespace Sys2Proof.Machine

/-- Whether the holder of the permit is a channel in a state and phase whose phase count has reached a
time, with no measurement of that fan interval still to be judged (R129). -/
def Fcc.phaseEnded (state : FanState) (phase : Option KickPhase) (time : Nat) (f : Fcc) (i : Fin 6) : Bool :=
  (f.channel i).state == state && (f.channel i).phase == phase && time ≤ (f.channel i).phaseCount
    && !f.tachDue

/-- The permit's holder acts at the end of its phase (R130, R131). -/
def Fcc.endPhase (state : FanState) (phase : Option KickPhase) (time : Nat)
    (act : Fin 6 → Fcc → Fcc) (f : Fcc) : Fcc :=
  match f.permit with
  | some i => if f.phaseEnded state phase time i then act i f else f
  | none => f

/-- The measured speed of R129 for an edge count, in rpm; exact for 1 to 4 pulses. -/
def measuredSpeed (pulses edges : Nat) : Nat := edges * 60 / pulses

/-- What the item of R120 stores of a measured speed: beyond its 65 535 rpm a free value (log entry
12). -/
def storedSpeed (free channel speed : Nat) : Nat :=
  if speed ≤ 65535 then speed else (Config.speedOutOfRange free channel).toNat

/-- FAN_INTERVAL: the phase counts, the count of ten, the grant (R119, R127). -/
def execFanInterval (s : State) : Host.Outcome State Fault Refusal :=
  if s.loaded then .next (s.setFcc (s.fcc.interval s.params.pairOrder s.params.startSpeed)) else .next s

/-- SPIN_UP_WINDOW_END: STARTING becomes KICK (R130). -/
def execSpinUpWindowEnd (s : State) : Host.Outcome State Fault Refusal :=
  .next (s.setFcc (s.fcc.endPhase .starting none s.params.spinUpWindow Fcc.startKick))

/-- KICK_PHASE_END: the check phase begins (R131). -/
def execKickPhaseEnd (s : State) : Host.Outcome State Fault Refusal :=
  .next (s.setFcc
    (s.fcc.endPhase .kick (some .kick) s.params.kickTime (Fcc.startCheck s.params.startSpeed)))

/-- A failed check window, and at the icing the grant of the permit it frees, in the same fan interval
(R127, R128, R131; log entry 9). -/
def Fcc.failWindow (order startSpeed : Nat) (i : Fin 6) (f : Fcc) : Fcc :=
  (f.failCheck i).grant order startSpeed

/-- CHECK_WINDOW_END: a new kick, or ICED with FAN_ICE (R131, R138). -/
def execCheckWindowEnd (s : State) : Host.Outcome State Fault Refusal :=
  .next (State.reportIce (s.setFcc
    (s.fcc.endPhase .kick (some .check) s.params.checkWindow
      (Fcc.failWindow s.params.pairOrder s.params.startSpeed))))

/-- The end of an exercise run at a channel (R135). -/
def Fcc.endExercise (time : Nat) (i : Fin 6) (f : Fcc) : Fcc :=
  if (f.channel i).runningAs .exercise ∧ time ≤ (f.channel i).phaseCount ∧ ¬ f.tachDue then f.off i else f

/-- EXERCISE_RUN_END of a channel (R135). -/
def execExerciseRunEnd (channel : Fin 6) (s : State) : Host.Outcome State Fault Refusal :=
  .next (s.setFcc (s.fcc.endExercise s.params.exerciseTime channel))

/-- TACH_MEASUREMENT_COMPLETION: the measured speeds, judged for turning and for stall (R129 to R132). -/
def execTachMeasurementCompletion (edges : Vector Nat 6) (s : State) : Host.Outcome State Fault Refusal :=
  if s.fcc.tachDue then
    let measured := fun i : Fin 6 => measuredSpeed s.params.tachPulses edges[i]
    let stored := fun i : Fin 6 => storedSpeed s.freeCount i.val (measured i)
    let s := s.setFcc (s.fcc.tach s.params.ratedSpeed s.params.exerciseSpeed measured stored)
    .next { s with freeCount := s.freeCount + 1 }
  else .next s

end Sys2Proof.Machine
end

