-- ==== Sys2Proof/Machine/Sensors.lean ====
section
/-! DEFINITION. Machine/Sensors.lean: conversion, filter, health and window comparator of the Sensor
Scanner's channels, the reference check, and the scan set (R47, R50 to R59). -/

namespace Sys2Proof.Machine

/-- The engineering value of a raw code, clamped to the channel's range (R47). -/
def engineering (p : ChannelParams) (range : Int × Int) (code : Nat) : Int :=
  clampInt range.1 range.2 (p.offset + Int.fdiv (code * p.span + 2048) 4096)

/-- The filter's step from y toward x, halves away from zero (R56). -/
def filterStep (shift : Nat) (x y : Int) : Int :=
  let size : Int := ((2 * (x - y).natAbs + 2 ^ shift) / 2 ^ (shift + 1) : Nat)
  if x < y then -size else size

/-- The table of R57, for a low limit, a high limit and a hysteresis. -/
def compare (low high hyst : Int) (c : Comparator) (y : Int) : Comparator :=
  match c with
  | .inside => if y < low then .below else if high < y then .above else .inside
  | .below => if y < low + hyst then .below else if high < y then .above else .inside
  | .above => if high - hyst < y then .above else if y < low then .below else .inside

/-- The high limit in force: the low limit where the image's high limit is below it (R48). -/
def ChannelParams.highInForce (p : ChannelParams) : Int := if p.high < p.low then p.low else p.high

/-- A channel's comparator evaluated on a new filtered value (R57). -/
def Channel.settle (p : ChannelParams) (c : Channel) (y : Int) : Channel :=
  { c with y := some y, comparator := compare p.low p.highInForce p.hysteresis c.comparator y }

/-- Whether a raw code is a faulty reading (R52). -/
def faultyCode (code : Nat) : Bool := code ≤ 15 || 4080 ≤ code

/-- A good reading of engineering value x (R53 to R56). -/
def Channel.good (p : ChannelParams) (c : Channel) (x : Int) : Channel :=
  if c.failed then
    if 8 ≤ c.goodRun + 1 then Channel.settle p { c with failed := false, goodRun := 0 } x
    else { c with goodRun := c.goodRun + 1 }
  else
    let c := { c with faultRun := 0 }
    match c.y with
    | none => c.settle p x
    | some y => c.settle p (y + filterStep p.shift x y)

/-- A faulty reading (R53, R54). -/
def Channel.faulty (c : Channel) : Channel :=
  if c.failed then { c with goodRun := 0 }
  else if 3 ≤ c.faultRun + 1 then { c with failed := true, faultRun := 0 }
  else { c with faultRun := c.faultRun + 1 }

/-- A measurement channel's part of a scan completion: its engineering value, then its reading unless
the converter fault flag discards it (R47, R49, R51). -/
def Channel.scan (p : ChannelParams) (range : Int × Int) (fault : Bool) (c : Channel) : Channel :=
  let code := (c.raw.getD 0).toNat
  let x := engineering p range code
  let c := { c with x := some x }
  if fault then c else if faultyCode code then c.faulty else c.good p x

/-- Whether a REF code is good: 1950 … 2146 (R50). -/
def refGood (code : Nat) : Bool := 1950 ≤ code && code ≤ 2146

/-- The reference check: converter fault flag, bad run, good run (R50). -/
def refCheck (code : Nat) (fault : Bool) (bad good : Nat) : Bool × Nat × Nat :=
  if fault then
    if refGood code then (if 8 ≤ good + 1 then (false, bad, 0) else (true, bad, good + 1))
    else (true, bad, 0)
  else if refGood code then (false, 0, good)
  else if 3 ≤ bad + 1 then (true, 0, 0) else (false, bad + 1, good)

/-- What the scan set publishes of a measurement channel (R59). -/
def Channel.publish (fault : Bool) (c : Channel) : Published :=
  { value := c.y.getD 0
    ok := !(c.failed || fault || c.y.isNone)
    comparator := c.comparator }

/-- The work of R49 at a scan completion, steps 1 to 3 and 5, on the codes of the scan just ended. -/
def Ssc.complete (p : Vector ChannelParams 7) (s : Ssc) : Ssc :=
  let code := (s.refRaw.getD 0).toNat
  let r := refCheck code s.fault s.badRun s.refGoodRun
  let run (i : Nat) (h : i < 7 := by decide) : Channel :=
    s.channels[i].scan p[i] (channelRange i) r.1
  let cs : Vector Channel 7 := #v[run 0, run 1, run 2, run 3, run 4, run 5, run 6]
  let refComparator := compare 1950 2146 0 s.refComparator code
  let pub (i : Nat) (h : i < 7 := by decide) : Published := cs[i].publish r.1
  { s with
    channels := cs
    refValue := some code
    refComparator := refComparator
    fault := r.1
    badRun := r.2.1
    refGoodRun := r.2.2
    nextChannel := 0
    scanSet := some
      { channels := #v[pub 0, pub 1, pub 2, pub 3, pub 4, pub 5, pub 6, ⟨code, !r.1, refComparator⟩]
        fault := r.1 } }

/-- Whether SENSOR_FAIL is live: the own health of a measurement channel is FAILED (R61). -/
def Ssc.anyFailed (s : Ssc) : Bool := s.channels.toList.any Channel.failed

/-- The stored raw code of channel k is replaced (R46). -/
def Ssc.convert (k : Fin 8) (code : BitVec 12) (s : Ssc) : Ssc :=
  let s := { s with nextChannel := s.nextChannel + 1 }
  if h : k.val < 7 then
    { s with channels := s.channels.set k.val { s.channels[k.val] with raw := some code } }
  else { s with refRaw := some code }

end Sys2Proof.Machine
end

