-- ==== Sys2Proof/Machine/Scanning.lean ====
section
/-! DEFINITION. Machine/Scanning.lean: the commands of the Sensor Scanner, with what the Coil Frost
Monitor and the Valve Drive do at a scan completion (chapter 3, R104 to R112, R146 to R149). -/

namespace Sys2Proof.Machine

/-- The causes that trip the monitor in a frost state at a scan completion (R106, R107, R111). -/
def tripCauses (f : FrostState) (set : ScanSet) : List TripCause :=
  match f with
  | .clear => set.surfaceCauses
  | .guard | .recover => set.causes
  | .protect => []

/-- A scan completion in GUARD without a trip cause (R107, tests 2 to 4). -/
def State.watchGuard (set : ScanSet) (s : State) : State :=
  if set.to.comparator = .below then
    (s.putGuardPending false).startTimer .guard
  else if s.cfm.guardPending ∧ set.to.back then s.releaseGuard
  else s

/-- The evaluation of a set at a scan completion (R106, R107, R110, R111). -/
def State.evaluate (set : ScanSet) (s : State) : State :=
  if tripCauses s.cfm.frost set ≠ [] then s.enterProtect (tripCauses s.cfm.frost set)
  else
    match s.cfm.frost with
    | .clear => if set.cold then s.enterGuard else s
    | .guard => s.watchGuard set
    | .protect => if s.cfm.protectPending ∧ set.allBack then s.enterRecover else s
    | .recover => s

/-- The stagnation watch after an evaluation: a flowing coil starts T_STAG whether it runs or not, one
that does not flow starts it only if it is IDLE (R112). -/
def State.watchFlow (set : ScanSet) (s : State) : State :=
  if (s.params.stagnationOpening : Int) ≤ set.flowFigure s.vdr.command then s.startTimer .stag
  else s.startIf (!(s.timer .stag).running) .stag

/-- The CFM at a scan completion, unless it is suspended (R106 to R112, R116). -/
def State.frostScan (set : ScanSet) (s : State) : State :=
  if s.cfm.suspended then s else (s.evaluate set).watchFlow set

/-- The VDR's travel check and flow weight at a scan completion (R146, R147, R149). -/
def State.checkValve (set : ScanSet) (s : State) : State :=
  { s with vdr := s.vdr.scan s.params set.vf }

/-- The VDR at a scan completion, with VALVE_STUCK (R146 to R149). -/
def State.valveScan (set : ScanSet) (s : State) : State := (s.checkValve set).reportStuck

/-- The SSC's alerts at a scan completion, reported together (R61). -/
def State.reportSensors (s : State) : State :=
  s.reportLive (putAlert (putAlert s.aou.live .sensorFail s.ssc.anyFailed) .converterFault s.ssc.fault)

/-- The blocks that a scan completion is raised to (R60). -/
def State.raiseScan (valveFirst : Bool) (set : ScanSet) (s : State) : State :=
  if valveFirst then (s.valveScan set).frostScan set else (s.frostScan set).valveScan set

/-- The SSC at a scan completion (R49). -/
def State.judgeScan (s : State) : State := { s with ssc := s.ssc.complete s.params.channels }

/-- The work of a scan completion (R49, R60): the SSC, its alerts, and the blocks that take the set just
published. -/
def State.completeScan (valveFirst : Bool) (s : State) : State :=
  match s.judgeScan.ssc.scanSet with
  | some set => (s.judgeScan.reportSensors).raiseScan valveFirst set
  | none => s.judgeScan.reportSensors

/-- CHANNEL_CONVERSION: the end of the conversion period of the channel that is next in the scan
(R44, R46). -/
def execChannelConversion (channel : Fin 8) (code : BitVec 12) (s : State) :
    Host.Outcome State Fault Refusal :=
  if s.loaded ∧ channel.val = s.ssc.nextChannel then .next { s with ssc := s.ssc.convert channel code }
  else .next s

/-- SCAN_COMPLETION: the end of a scan that has run whole (R44, R49). -/
def execScanCompletion (valveFirst : Bool) (s : State) : Host.Outcome State Fault Refusal :=
  if s.loaded ∧ s.ssc.nextChannel = 8 then .next (s.completeScan valveFirst) else .next s

end Sys2Proof.Machine
end

