-- ==== Sys2Proof/Machine/Views.lean ====
section
/-! DEFINITION. Machine/Views.lean: the records of the service port's views (R178), built from what each
chapter lists (R24, R41, R62, R84, R103, R118, R140, R150, R159, R166, R172). Layout points that the spec
leaves open are in log entry 13. -/

namespace Sys2Proof.Machine

/-- An item of one byte (R178). -/
def u8 (n : Nat) : List Byte := [BitVec.ofNat 8 n]

/-- An unsigned item of two bytes, high byte first (R178). -/
def u16 (n : Nat) : List Byte := bytes16 (BitVec.ofNat 16 n)

/-- A signed item of two bytes (R178). -/
def s16 (n : Int) : List Byte := bytes16 (BitVec.ofInt 16 n)

/-- A word of four bytes, high byte first. -/
def bytes32 (w : BitVec 32) : List Byte :=
  [w.extractLsb' 24 8, w.extractLsb' 16 8, w.extractLsb' 8 8, w.extractLsb' 0 8]

/-- A signed item of four bytes (R178). -/
def s32 (n : Int) : List Byte := bytes32 (BitVec.ofInt 32 n)

/-- A station mask, four bytes (R178). -/
def mask32 (m : StationMask) : List Byte := bytes32 (m.zeroExtend 32)

/-- An alert mask as one item of two bytes, bit n the category of R26's bit n. DESIGN CHOICE (log entry 13,
unsafe): R25 lists twelve yes/no and R178 gives no width for them. -/
def mask16 (m : AlertMask) : List Byte := bytes16 (m.zeroExtend 16)

/-- A yes is 1 and a no 0 (R178). -/
def yn (b : Bool) : List Byte := u8 b.toNat

/-- An item that may be none: the presence byte, then the item, or zeros of its width (R178). -/
def optional {α : Type} (width : Nat) (f : α → List Byte) : Option α → List Byte
  | some a => u8 1 ++ f a
  | none => u8 0 ++ List.replicate width 0

/-- A list: its length, then its entries (R178). -/
def listed {α : Type} (f : α → List Byte) (as : List α) : List Byte := u8 as.length ++ as.flatMap f

/-- A state's position in its chapter's list of states (R178). -/
def BusState.position : BusState → Nat
  | .unaddressed => 0 | .listen => 1 | .joining => 2 | .active => 3 | .duplicate => 4
@[inherit_doc BusState.position] def RowState.position : RowState → Nat
  | .absent => 0 | .fresh => 1 | .held => 2
@[inherit_doc BusState.position] def Role.position : Role → Nat
  | .init => 0 | .resting => 1 | .warming => 2 | .carrying => 3 | .shedding => 4 | .protect => 5
  | .withdrawn => 6
@[inherit_doc BusState.position] def RoleCause.position : RoleCause → Nat
  | .allotment => 0 | .warmExpiry => 1 | .shedExpiry => 2 | .frostProtect => 3 | .frostClear => 4
  | .withdraw => 5 | .restore => 6
@[inherit_doc BusState.position] def FrostState.position : FrostState → Nat
  | .clear => 0 | .guard => 1 | .protect => 2 | .recover => 3
@[inherit_doc BusState.position] def TripCause.position : TripCause → Nat
  | .lowerSurface => 0 | .upperSurface => 1 | .pressure => 2 | .stagnation => 3
@[inherit_doc BusState.position] def Comparator.position : Comparator → Nat
  | .below => 0 | .inside => 1 | .above => 2
@[inherit_doc BusState.position] def FanState.position : FanState → Nat
  | .absent => 0 | .off => 1 | .queued => 2 | .starting => 3 | .kick => 4 | .running => 5 | .iced => 6
@[inherit_doc BusState.position] def FanClass.position : FanClass → Nat
  | .duty => 0 | .exercise => 1
@[inherit_doc BusState.position] def KickPhase.position : KickPhase → Nat
  | .kick => 0 | .check => 1
@[inherit_doc BusState.position] def CheckState.position : CheckState → Nat
  | .idle => 0 | .timing => 1 | .suspended => 2
@[inherit_doc BusState.position] def Cadence.position : Cadence → Nat
  | .idle => 0 | .report => 1 | .space => 2
@[inherit_doc BusState.position] def LoadOutcome.position : LoadOutcome → Nat
  | .accepted => 0 | .noAck => 1 | .marker => 2 | .length => 3 | .sum => 4

/-- The image version: the byte at offset 1 where the read reached it (R174, R178; log entry 12). -/
def State.imageVersion (s : State) : Byte :=
  if 2 ≤ s.cfl.image.length then byteAt s.cfl.image 1 else Config.versionUnread s.freeCount

/-- View 0: the image, the straps, the LSC items of R24. DESIGN CHOICE (log entry 13, unsafe): R24's yes or
no, whether a slot position exists, serves as the presence byte of the current slot number, which is sent as 0
where there is none; there is no second presence byte. -/
def State.view0 (s : State) : List (List Byte) :=
  [[s.imageVersion]
    ++ optional 1 (fun o : LoadOutcome => u8 o.position) s.cfl.outcome ++ yn s.cfl.defaults
    ++ u8 s.straps.address.toNat ++ yn s.straps.loop
    ++ u8 s.straps.address.toNat ++ u8 s.lsc.bus.position ++ yn s.lsc.position.isSome
    ++ u8 (match s.lsc.position with | some p => p / slotUs | none => 0)
    ++ u8 s.lsc.anchor ++ u8 s.lsc.collisions ++ u8 s.lsc.extension ++ u8 s.lsc.isolation]

/-- The allotment record, in the order of R80. -/
def allotmentItems (a : Allotment) : List Byte :=
  u8 a.role.position ++ yn a.rotateDue ++ yn a.coldJoin ++ yn a.drained ++ yn a.floorLimited
  ++ yn a.noBasis ++ u16 a.share ++ u16 a.h ++ u16 a.d ++ yn a.dValid ++ optional 2 s16 a.tMix
  ++ u8 a.m ++ u16 a.v ++ u16 a.restAge ++ u8 a.q ++ u8 a.nAvail

/-- The figures of the last computation, in the order of R84. -/
def figureItems (f : Figures) : List Byte :=
  u8 f.members ++ u8 f.eligible ++ u16 f.qSum ++ s32 f.n ++ u16 f.dAvg ++ s16 f.e ++ s16 f.step
  ++ u16 f.dCap ++ u8 f.tier ++ u8 f.position ++ u16 f.cBefore ++ u16 f.share

/-- A timer's state and remaining prescaler and main counts (R103, R140, R159). -/
def timerCounts (t : Timer) : List Byte := yn t.running ++ u8 t.prescaler ++ u16 t.main

/-- The FDE items of R84: the record, the pair and the figures. DESIGN CHOICE (log entry 13, unsafe): the role,
the flags, the rest age and the timers, which R84 lists as well, are sent once, with `State.roleItems`. -/
def fdeItems (f : Fde) : List Byte :=
  optional 23 allotmentItems f.allotment ++ u16 f.d ++ yn f.dValid ++ optional 2 s16 f.tMix
  ++ u16 f.floorCeiling ++ u8 f.overcool ++ optional 22 figureItems f.figures

/-- A recorded role change (R103). -/
def roleChangeItems (c : RoleChange) : List Byte :=
  u8 c.previous.position ++ u8 c.new.position ++ u8 c.cause.position

/-- The role machine items of R103. -/
def State.roleItems (s : State) : List Byte :=
  u8 s.fde.role.position ++ u16 s.fde.restAge ++ yn s.fde.rotateDue ++ yn s.fde.coldJoin
  ++ yn s.fde.drained ++ optional 2 s16 s.fde.warmTarget ++ optional 3 roleChangeItems s.fde.lastChange
  ++ timerCounts (s.timer .warm) ++ timerCounts (s.timer .shed) ++ timerCounts (s.timer .rot)

/-- The ORD items of R166. DESIGN CHOICE (log entry 13, unsafe): the settings go loop by loop (setpoint 0,
floor 0, setpoint 1, floor 1), where R166 says the setpoint and floor in force for loop 0 and loop 1. -/
def orderItems (o : OrderDecoder) : List Byte :=
  u16 o.setpoint0.toNat ++ s16 o.floor0 ++ u16 o.setpoint1.toNat ++ s16 o.floor1
  ++ yn o.withdraw ++ yn o.drainedLevel
  ++ mask32 o.prevClear ++ mask32 o.prevFanReset ++ mask32 o.prevExercise ++ yn o.taken

/-- View 1: the FDE items, the role machine's, the ORD's, in the order of R178's table. DESIGN CHOICE (log
entry 13, unsafe): what R84 and R103 (or R178) both list is sent once, so the figures of R84 stand before the
role items, although R84 lists them after. -/
def State.view1 (s : State) : List (List Byte) := [fdeItems s.fde ++ s.roleItems ++ orderItems s.ord]

/-- A bulletin record, in the order of R25; the latched alerts as one `mask16` in views 2 and 3 (DESIGN CHOICE,
log entry 13). -/
def bulletinItems (b : Bulletin) : List Byte :=
  u8 b.slot ++ u8 b.source ++ yn b.loop ++ yn b.dValid ++ yn b.outletValid ++ u8 b.role.position
  ++ yn b.rotateDue ++ yn b.coldJoin ++ yn b.floorLimited ++ yn b.noBasis ++ yn b.drained
  ++ s16 b.outlet ++ u8 b.q ++ u16 b.h ++ u16 b.share ++ u16 b.d ++ u16 b.restAge
  ++ u8 b.frost.position ++ u8 b.nFit ++ u8 b.nAvail ++ u8 b.fanSpeed ++ mask16 b.alerts

/-- A row's copy: its fields, or zeros of their width where it is empty. DESIGN CHOICE (log entry 13, unsafe):
no presence byte stands before it; the row state shows an empty copy. -/
def copyItems : Option Bulletin → List Byte
  | some b => bulletinItems b
  | none => List.replicate 28 0

/-- View 2: row 0, then the live rows (R41). DESIGN CHOICE (log entry 13, unsafe): row 0's order frame goes as
its 28 bare characters, zeros while row 0 is empty, with neither the length byte of a list nor a presence byte
before them; whether it is filled (R41) follows them. R35, R41 and R178 do not say which. -/
def State.view2 (s : State) : List (List Byte) :=
  ((match s.btb.order with | some cs => cs | none => List.replicate 28 0) ++ yn s.btb.order.isSome)
  :: s.btb.rows.toList.map fun r => copyItems r.live ++ u8 r.state.position ++ u8 r.age ++ yn r.heard

/-- View 3: the snapshot rows (R41). -/
def State.view3 (s : State) : List (List Byte) :=
  s.btb.rows.toList.map fun r => copyItems r.snapCopy ++ u8 r.snapState.position ++ u8 r.snapAge

/-- View 4: the row counters (R41). -/
def State.view4 (s : State) : List (List Byte) :=
  (u16 s.btb.crcErrors0 ++ u16 s.btb.misaligned0)
  :: s.btb.rows.toList.map fun r => u16 r.crcErrors ++ u16 r.misaligned

/-- What the latest set shows of channel i, or zeros before the first (R62). -/
def publishedItems (set : Option ScanSet) (i : Fin 8) : List Byte :=
  match set with
  | some set =>
    let c := set.channels[i]
    s16 c.value ++ yn (!c.ok) ++ u8 c.comparator.position
  | none => List.replicate 4 0

/-- A code or value as shown: 0 before the first scan completion (R62). DESIGN CHOICE (log entry 13, unsafe):
the two bare bytes alone, without the presence byte of an item that may be none (R45, R178), since R62 has
none shown as 0. -/
def shown (published : Bool) (v : List Byte) : List Byte := if published then v else [0, 0]

/-- A measurement channel's record (R62). -/
def Ssc.channelItems (s : Ssc) (i : Fin 7) : List Byte :=
  let c := s.channels[i]
  publishedItems s.scanSet (i.castSucc)
  ++ shown s.scanSet.isSome (u16 (c.raw.getD 0).toNat) ++ shown s.scanSet.isSome (s16 (c.x.getD 0))
  ++ yn c.failed ++ u8 c.faultRun ++ u8 c.goodRun ++ yn c.y.isSome

/-- REF's record; the reference check's runs stand in place of its own (R58, R62). -/
def Ssc.refItems (s : Ssc) : List Byte :=
  publishedItems s.scanSet 7
  ++ shown s.scanSet.isSome (u16 (s.refRaw.getD 0).toNat) ++ shown s.scanSet.isSome (u16 (s.refValue.getD 0))
  ++ yn s.fault ++ u8 s.badRun ++ u8 s.refGoodRun ++ yn s.refValue.isSome

/-- The set-wide record of view 5 (R62). DESIGN CHOICE (log entry 13, unsafe): before the first set its fault
flag is shown as no. -/
def Ssc.setItems (s : Ssc) : List Byte :=
  yn (match s.scanSet with | some set => set.fault | none => false)
  ++ u8 s.badRun ++ u8 s.refGoodRun ++ yn s.scanSet.isSome

/-- View 5: the set-wide items, then the eight channels (R62). -/
def State.view5 (s : State) : List (List Byte) :=
  [s.ssc.setItems, s.ssc.channelItems 0, s.ssc.channelItems 1, s.ssc.channelItems 2,
    s.ssc.channelItems 3, s.ssc.channelItems 4, s.ssc.channelItems 5, s.ssc.channelItems 6,
    s.ssc.refItems]

/-- A fan channel's record (R140). -/
def fanItems (c : FanChannel) : List Byte :=
  u8 c.state.position ++ optional 1 (fun k : FanClass => u8 k.position) c.cls ++ u16 c.command
  ++ optional 1 (fun k : KickPhase => u8 k.position) c.phase ++ u16 c.phaseCount
  ++ u8 c.retries ++ u8 c.stallRun ++ u8 c.deferrals ++ yn c.iceSuspect ++ u16 c.speed

/-- A minute-based timer's state and remaining counts (R140, R159). DESIGN CHOICE (log entry 13, unsafe): the
"remaining counts" that R140 gives T_EXER and T_ICE in view 6 are those of R159, the sub-minute count among
them, which view 1 leaves out for T_ROT (R103). -/
def minuteCounts (t : Timer) : List Byte := timerCounts t ++ u8 t.sub

/-- View 6: the fan channels, then the list, the permit, the bits, n_avail and the timers (R140). -/
def State.view6 (s : State) : List (List Byte) :=
  (fanChannels.map fun i => fanItems (s.fcc.channel i))
  ++ [listed (fun i : Fin 6 => u8 i.val) s.fcc.runOrder
      ++ optional 1 (fun i : Fin 6 => u8 i.val) s.fcc.permit
      ++ yn s.fcc.bits[0] ++ yn s.fcc.bits[1] ++ yn s.fcc.bits[2] ++ u8 s.fcc.nAvail
      ++ minuteCounts (s.timer .exer) ++ minuteCounts (s.timer .ice)]

/-- Which ramp the command is on: warm, shed or neither (R150). DESIGN CHOICE (log entry 13, unsafe): it goes by
the role, the frost state and the fans alone, so a ramp that has reached its end (1000 in WARMING, the minimum
opening in SHEDDING) still counts as the ramp the command is on. -/
def Vdr.ramp (v : Vdr) : Nat :=
  match v.frost with
  | .protect | .recover => 2
  | .clear | .guard =>
    match v.role with
    | .warming => 0
    | .shedding => if v.fansAtRest then 1 else 2
    | .init | .resting | .carrying | .protect | .withdrawn => 2

/-- View 7: the valve drive (R150). -/
def State.view7 (s : State) : List (List Byte) :=
  let v := s.vdr
  [u16 v.command ++ u16 (v.target s.params) ++ u16 (minOpening s.params v.frost) ++ u8 v.ramp
    ++ u16 (dacCode v.command) ++ yn v.fansAtRest ++ yn v.allotmentReceived
    ++ u8 v.check.position ++ u16 v.travelCount ++ yn v.stuck ++ u8 v.q ++ yn (!v.fromVF)]

/-- A timer's record (R159). -/
def State.timerItems (s : State) (id : TimerId) : List Byte :=
  let t := s.timer id
  timerCounts t ++ (if id.minute then u8 t.sub else []) ++ u8 (s.timerParams id).p
  ++ u16 (s.timerParams id).c ++ u16 t.expiries

/-- View 8: the ten timers (R159). -/
def State.view8 (s : State) : List (List Byte) := allTimers.map s.timerItems

/-- The twelve categories, in the order of the bulletin's mask (R26). -/
def allCategories : List Category :=
  [.frostGuard, .frostTrip, .fanIce, .valveStuck, .sensorFail, .converterFault, .busIsolated,
    .dupAddress, .fieldShort, .fieldOvercool, .panelSilent, .configDefault]

/-- A category's record (R172). -/
def State.categoryItems (s : State) (c : Category) : List Byte :=
  yn (hasAlert s.aou.live c) ++ yn (hasAlert s.aou.latched c) ++ yn (hasAlert s.enables c)
  ++ yn (hasAlert s.params.selects c)

/-- The line and cadence items of R172. -/
def State.lineItems (s : State) : List Byte :=
  yn (s.aou.qualifies s.enables s.params.selects) ++ yn (!s.aou.line) ++ yn s.params.assertedReleased
  ++ u8 s.params.reportInterval ++ u8 s.params.spaceInterval ++ u8 s.aou.cadence.position ++ u8 s.aou.count

/-- The frost monitor record of R118. DESIGN CHOICE (log entry 13, unsafe): a last trip that is none is the
presence byte 0 and one more 0, as an empty list. -/
def frostItems (c : Cfm) : List Byte :=
  u8 c.frost.position ++ yn c.suspended ++ yn c.guardPending ++ yn c.protectPending
  ++ optional 1 (listed fun t : TripCause => u8 t.position) c.lastTrip ++ u16 c.tripCount

/-- View 9: the categories, the line and cadence, the frost monitor (R118, R172). -/
def State.view9 (s : State) : List (List Byte) :=
  allCategories.map s.categoryItems ++ [s.lineItems, frostItems s.cfm]

/-- View 10: the image as read, one byte per record (R178). -/
def State.view10 (s : State) : List (List Byte) := s.cfl.image.map fun b => [b]

/-- The records of a view; none for an unknown view number (R178). -/
def State.view (n : Nat) (s : State) : Option (List (List Byte)) :=
  match n with
  | 0 => some s.view0 | 1 => some s.view1 | 2 => some s.view2 | 3 => some s.view3
  | 4 => some s.view4 | 5 => some s.view5 | 6 => some s.view6 | 7 => some s.view7
  | 8 => some s.view8 | 9 => some s.view9 | 10 => some s.view10
  | _ => none

/-- The span of a request: from the start index, the count's number of records, clipped (R178). -/
def span (start count : Nat) (records : List (List Byte)) : List (List Byte) :=
  (records.drop start).take count

/-- The response copy: the view number, the number of records, the records' bytes (R178). -/
def responseCopy (view : Byte) (records : List (List Byte)) : List Byte :=
  [view] ++ u8 records.length ++ records.flatten

/-- A response: the copy and the sum of all its bytes, modulo 256 (R178). -/
def response (copy : List Byte) : List Byte := copy ++ u8 (byteSum copy % 256)

end Sys2Proof.Machine
end

