-- ==== Sys2Proof/Machine/Service.lean ====
section
/-! DEFINITION. Machine/Service.lean: the commands of the Service Port (R177 to R179). The port answers
from reset release. -/

namespace Sys2Proof.Machine

/-- Whether a character begins a request (R177). -/
def beginsRequest (c : Byte) : Bool := c == 0x52 || c == 0x43

/-- The length of the request that a first character begins (R177). -/
def requestLength (first : Byte) : Nat := if first = 0x52 then 4 else 3

/-- Whether the request in hand has its last character (R177). -/
def requestWhole : List Byte → Bool
  | [] => false
  | c :: cs => requestLength c ≤ (c :: cs).length

/-- A character without a framing error (R177; log entry 17). -/
def Svp.take (c : Byte) (p : Svp) : Svp :=
  match p.port with
  | .idle =>
    if beginsRequest c then { p with port := .receiving, request := [c] } else { p with port := .quiet }
  | .receiving => if requestWhole p.request then p else { p with request := p.request ++ [c] }
  | .sending | .quiet => p

/-- A dropped character (R177). -/
def Svp.drop (c : Byte) (framingError : Bool) (p : Svp) : Svp :=
  match p.port with
  | .idle => if framingError || !beginsRequest c then { p with port := .quiet, request := [] } else p
  | .receiving => if framingError then { p with port := .quiet, request := [] } else p
  | .sending | .quiet => p

/-- An answer of a single character, after which the port is QUIET (R178, R179; log entry 16). DESIGN CHOICE
(log entry 31, unsafe): the copy, the read pointer and the limit count of the last response stand. -/
def Svp.answerOne (c : Byte) (p : Svp) : Svp := { p with port := .quiet, request := [], answer := [c] }

/-- The start of a response (R178). -/
def Svp.send (copy : List Byte) (p : Svp) : Svp :=
  { p with
    port := .sending
    request := []
    readPointer := 0
    limitCount := copy.length
    copy := copy
    answer := response copy }

/-- A read request that is taken: the refusal, or the copy and its sending (R178). -/
def State.serve (view start count : Byte) (s : State) : State :=
  match s.view view.toNat with
  | none => { s with svp := s.svp.answerOne 0x15 }
  | some records =>
    let copy := responseCopy view (span start.toNat (clampNat 1 64 count.toNat) records)
    { s with svp := s.svp.send copy }

/-- SERVICE_REQUEST_CHARACTER (R177). -/
def execServiceRequestCharacter (c : Byte) (s : State) : Host.Outcome State Fault Refusal :=
  if s.released then .next { s with svp := s.svp.take c } else .next s

/-- SERVICE_CHARACTER_DROPPED (R177). -/
def execServiceCharacterDropped (c : Byte) (framingError : Bool) (s : State) :
    Host.Outcome State Fault Refusal :=
  if s.released then .next { s with svp := s.svp.drop c framingError } else .next s

/-- SERVICE_REQUEST_TIMEOUT: a partial request is dropped (R177). -/
def execServiceRequestTimeout (s : State) : Host.Outcome State Fault Refusal :=
  if s.svp.port = .receiving ∧ ¬ requestWhole s.svp.request then
    .next { s with svp := { s.svp with port := .idle, request := [] } }
  else .next s

/-- SERVICE_QUIET_END: SRX has been at mark for 10 ms (R177). -/
def execServiceQuietEnd (s : State) : Host.Outcome State Fault Refusal :=
  if s.svp.port = .quiet then .next { s with svp := { s.svp with port := .idle } } else .next s

/-- SERVICE_RESPONSE_END: every byte of the copy and the sum are sent (R177, R178; log entry 16). DESIGN CHOICE
(log entry 31, unsafe): the copy stands after the response, with the read pointer past its last byte and the
limit count at 0. -/
def execServiceResponseEnd (s : State) : Host.Outcome State Fault Refusal :=
  if s.svp.port = .sending then
    .next { s with
      svp := { s.svp with port := .quiet, readPointer := s.svp.copy.length, limitCount := 0 } }
  else .next s

/-- READ_REQUEST: the read request in hand is taken (R178). -/
def execReadRequest (elapsed : Nat) (s : State) : Host.Outcome State Fault Refusal :=
  let s := s.advance elapsed
  match s.svp.port, s.svp.request with
  | .receiving, [0x52, view, start, count] =>
    let s := s.serve view start count
    .next { s with freeCount := s.freeCount + 1 }
  | _, _ => .next s

/-- CLEAR_REQUEST: the clear request in hand is taken (R168, R179). -/
def execClearRequest (s : State) : Host.Outcome State Fault Refusal :=
  match s.svp.port, s.svp.request with
  | .receiving, [0x43, high, low] =>
    let s := s.clearAlerts ((word16 high low).extractLsb' 0 12)
    .next { s with svp := s.svp.answerOne 0x06 }
  | _, _ => .next s

end Sys2Proof.Machine
end

