-- ==== Sys2Proof/Machine/Dispatch.lean ====
section
/-! DEFINITION. Machine/Dispatch.lean: one arm per command, one direct call of its meaning. -/

namespace Sys2Proof.Machine

/-- The effect of a command on everything but the queue. -/
def exec (i : Instr) (s : State) : Host.Outcome State Fault Refusal :=
  match i with
  | .resetRelease address loop => Sys2Proof.Machine.execResetRelease address loop s
  | .sclHoldTimeout bytes => Sys2Proof.Machine.execSclHoldTimeout bytes s
  | .configurationLoadCompletion acknowledged bytes => Sys2Proof.Machine.execConfigurationLoadCompletion acknowledged bytes s
  | .frameStartDetected elapsed => Sys2Proof.Machine.execFrameStartDetected elapsed s
  | .frameCompletion elapsed chars => Sys2Proof.Machine.execFrameCompletion elapsed chars s
  | .ownSlotStart elapsed => Sys2Proof.Machine.execOwnSlotStart elapsed s
  | .transmitInstant elapsed lineBusy => Sys2Proof.Machine.execTransmitInstant elapsed lineBusy s
  | .transmitReadbackMismatch readback => Sys2Proof.Machine.execTransmitReadbackMismatch readback s
  | .cleanTransmission readback => Sys2Proof.Machine.execCleanTransmission readback s
  | .listenWindowEndInSilence elapsed => Sys2Proof.Machine.execListenWindowEndInSilence elapsed s
  | .cycleEnd elapsed cadenceFirst => Sys2Proof.Machine.execCycleEnd elapsed cadenceFirst s
  | .travelTimeReached => Sys2Proof.Machine.execTravelTimeReached s
  | .ageingMark elapsed => Sys2Proof.Machine.execAgeingMark elapsed s
  | .allotmentIssued valveFirst => Sys2Proof.Machine.execAllotmentIssued valveFirst s
  | .channelConversion channel code => Sys2Proof.Machine.execChannelConversion channel code s
  | .scanCompletion valveFirst => Sys2Proof.Machine.execScanCompletion valveFirst s
  | .tRotExpiry => Sys2Proof.Machine.execTRotExpiry s
  | .tWarmExpiry => Sys2Proof.Machine.execTWarmExpiry s
  | .tShedExpiry => Sys2Proof.Machine.execTShedExpiry s
  | .tExerExpiry => Sys2Proof.Machine.execTExerExpiry s
  | .tIceExpiry => Sys2Proof.Machine.execTIceExpiry s
  | .tGuardExpiry => Sys2Proof.Machine.execTGuardExpiry s
  | .tProtExpiry => Sys2Proof.Machine.execTProtExpiry s
  | .tRecovExpiry => Sys2Proof.Machine.execTRecovExpiry s
  | .tStagExpiry => Sys2Proof.Machine.execTStagExpiry s
  | .tOrdExpiry => Sys2Proof.Machine.execTOrdExpiry s
  | .fanInterval => Sys2Proof.Machine.execFanInterval s
  | .spinUpWindowEnd => Sys2Proof.Machine.execSpinUpWindowEnd s
  | .kickPhaseEnd => Sys2Proof.Machine.execKickPhaseEnd s
  | .checkWindowEnd => Sys2Proof.Machine.execCheckWindowEnd s
  | .exerciseRunEnd channel => Sys2Proof.Machine.execExerciseRunEnd channel s
  | .tachMeasurementCompletion edges => Sys2Proof.Machine.execTachMeasurementCompletion edges s
  | .readRequest elapsed => Sys2Proof.Machine.execReadRequest elapsed s
  | .clearRequest => Sys2Proof.Machine.execClearRequest s
  | .serviceCharacterDropped char framingError => Sys2Proof.Machine.execServiceCharacterDropped char framingError s
  | .serviceRequestTimeout => Sys2Proof.Machine.execServiceRequestTimeout s
  | .serviceQuietEnd => Sys2Proof.Machine.execServiceQuietEnd s
  | .serviceResponseEnd => Sys2Proof.Machine.execServiceResponseEnd s
  | .resetAsserted => Sys2Proof.Machine.execResetAsserted s
  | .strayCharacter elapsed => Sys2Proof.Machine.execStrayCharacter elapsed s
  | .serviceRequestCharacter char => Sys2Proof.Machine.execServiceRequestCharacter char s

end Sys2Proof.Machine
end

