-- ==== Sys2Proof/Machine/Pins.lean ====
section
/-! DEFINITION. Machine/Pins.lean: the output pins, as functions of the state (R1, R20, R120, R145,
R170, R177). -/

namespace Sys2Proof.Machine

/-- DE is asserted while the station transmits (R1, R20). -/
def State.de (s : State) : Bool := s.lsc.sending.isSome

/-- The ten bits of a character on the line, mark as true: the start bit at space, eight data bits with
the least significant first, the stop bit at mark (R1). -/
def charBits (b : Byte) : List Bool := false :: (List.range 8).map b.getLsbD ++ [true]

/-- TXD, mark as true, in bit time `n` since the transmission began: the characters back to back, and
mark after them and whenever DE is released (R1). -/
def State.txd (n : Nat) (s : State) : Bool :=
  match s.lsc.sending with
  | some cs => (cs.flatMap charBits).getD n true
  | none => true

/-- STX, mark as true, in bit time `n` since the response began: the characters of the response back to back
in SENDING, and mark while the port is not sending, after a reset among others (R177, R178). PRESUMED (log
entry 28, unsafe): the bits of a character stand on the UART as R1 gives them for the bus. -/
def State.stx (n : Nat) (s : State) : Bool :=
  match s.svp.port with
  | .sending => (s.svp.answer.flatMap charBits).getD n true
  | .idle | .receiving | .quiet => true

/-- Whether the open-drain ALERT pin is driven low; it is off, high impedance, otherwise (R169, R170). -/
def State.alertLow (s : State) : Bool :=
  s.loaded && (if s.params.assertedReleased then !s.aou.line else s.aou.line)

/-- The 10-bit code on VOUT (R145). -/
def State.vout (s : State) : Nat := dacCode s.vdr.command

/-- The duty cycle of PWMn in ‰ (R120). -/
def State.pwm (n : Fin 6) (s : State) : Nat := (s.fcc.channel n).command

end Sys2Proof.Machine
end

