-- ==== Sys2Proof/Safety.lean ====
section
/-! DEFINITION. Safety.lean: what the spec promises of every state, block by block (each of those
predicates holds at reset and is to be kept by every step), and then the spec's tables that statements
share, written out again from the spec as data. -/

namespace Sys2Proof.Machine

/-- PROTECT or RECOVER: the frost states that force the valve open and the fans off (R114, R115). -/
def FrostState.forces : FrostState → Bool
  | .protect | .recover => true
  | .clear | .guard => false

/-- A latched flag is set whenever its live condition is true (R167). -/
def LatchesLive (s : State) : Prop := s.aou.live &&& ~~~s.aou.latched = 0

/-- The cadence is IDLE exactly while the line does not qualify, and the line is asserted exactly in
REPORT (R170, R171). -/
def LineFollowsCadence (s : State) : Prop :=
  (s.aou.cadence = .idle ↔ s.aou.qualifies s.enables s.params.selects = false)
    ∧ s.aou.line = (s.aou.cadence == .report)

/-- The flags and the rest age stand only in the roles that have them (R85). -/
def FlagsOfRole (s : State) : Prop :=
  (s.fde.role ≠ .resting → s.fde.restAge = 0)
    ∧ (s.fde.role ≠ .carrying → s.fde.rotateDue = false ∧ s.fde.coldJoin = false)
    ∧ (s.fde.role ≠ .withdrawn → s.fde.drained = false)

/-- A channel holds the permit exactly while it is STARTING or in KICK (R127, the table of 7.1). -/
def PermitExact (f : Fcc) : Prop :=
  ∀ i, ((f.channel i).state = .starting ∨ (f.channel i).state = .kick) ↔ f.permit = some i

/-- The run-order list holds the RUNNING duty channels, each once (R122). -/
def RunOrderExact (f : Fcc) : Prop :=
  f.runOrder.Nodup ∧ ∀ i, i ∈ f.runOrder ↔ (f.channel i).runningAs .duty = true

/-- A channel's class, phase and command stand as its state allows (R120, the table of 7.1). -/
def FanChannel.Sound (c : FanChannel) : Prop :=
  (c.inHand = true ↔ c.cls ≠ none) ∧ (c.state = .kick ↔ c.phase ≠ none)
    ∧ (c.turning = false → c.command = 0)

/-- What the FCC keeps (R120, R122, R127). -/
def FansSound (s : State) : Prop :=
  PermitExact s.fcc ∧ RunOrderExact s.fcc ∧ ∀ i, (s.fcc.channel i).Sound

/-- A channel is in hand only in CARRYING, in SHEDDING or, in exercise class, in RESTING, and in exercise
class only in CLEAR (R115, R133 to R137). -/
def FansOfRole (s : State) : Prop :=
  ∀ i, (s.fcc.channel i).inHand = true →
    (s.fde.role = .carrying ∨ s.fde.role = .shedding
        ∨ (s.fde.role = .resting ∧ (s.fcc.channel i).cls = some .exercise))
      ∧ ((s.fcc.channel i).cls = some .exercise → s.cfm.frost = .clear)

/-- A snapshot latched with no fan starting or running counted none running (R63, R121, R122). -/
def LatchedFans (s : State) : Prop :=
  ∀ l ∈ s.fde.latched, l.anyTurning = false → l.runningCount = 0

/-- What the VDR was last told is so (R86, R113, R141). -/
def ReportsCurrent (s : State) : Prop :=
  s.vdr.role = s.fde.role ∧ s.vdr.drained = s.fde.drained ∧ s.vdr.frost = s.cfm.frost
    ∧ s.vdr.fansAtRest = !s.fcc.anyTurning

/-- The monitor is suspended exactly in a drained withdrawal, and then in CLEAR (R116, R117). -/
def SuspensionExact (s : State) : Prop :=
  (s.cfm.suspended = true ↔ s.fde.role = .withdrawn ∧ s.fde.drained = true)
    ∧ (s.cfm.suspended = true → s.cfm.frost = .clear)

/-- In PROTECT and RECOVER the valve command is 1000 ‰, no channel is queued or turning, and the role is
PROTECT or WITHDRAWN; before the first allotment the command is 1000 ‰ (R98, R114, R115, R141, R142). -/
def FrostForced (s : State) : Prop :=
  (s.cfm.frost.forces = true →
      (∀ i, (s.fcc.channel i).inHand = false) ∧ (s.fde.role = .protect ∨ s.fde.role = .withdrawn))
    ∧ (s.cfm.frost.forces = true ∨ s.vdr.allotmentReceived = false → s.vdr.command = 1000)

/-- The minimum opening: the trickle opening, or in GUARD the larger of the guard opening and it (R142). -/
def State.leastOpening (s : State) : Nat :=
  if s.cfm.frost = .guard then max s.params.guardOpening s.params.trickleOpening
  else s.params.trickleOpening

/-- Before configuration load completion there is no slot position, frame, transmission, listen window or
cycle end, and so no computation and no allotment (R14, R16, R44, R63). -/
def NothingBeforeLoad (s : State) : Prop :=
  s.loaded = false →
    s.lsc.position = none ∧ s.lsc.rx = none ∧ s.lsc.sending = none ∧ s.lsc.window = none
      ∧ s.lsc.endPassed = false
      ∧ s.fde.latched = none ∧ s.vdr.allotmentReceived = false

/-- Once an allotment has been received the command stands where the table of R142 puts it, a warming or
shedding one never below the minimum opening; outside a drained withdrawal it is at least the trickle
opening (R142, R143). -/
def CommandHeld (s : State) : Prop :=
  s.params.trickleOpening ≤ 500
    ∧ (s.vdr.allotmentReceived = true → s.cfm.frost.forces = false →
        (s.fde.role = .init ∨ s.fde.role = .carrying ∨ s.fde.role = .protect → s.vdr.command = 1000)
          ∧ (s.fde.role = .warming ∨ s.fde.role = .shedding → s.leastOpening ≤ s.vdr.command)
          ∧ (s.fde.role = .resting → s.vdr.command = s.leastOpening)
          ∧ (s.fde.role = .withdrawn → s.vdr.command = if s.fde.drained then 0 else s.leastOpening))
    ∧ (s.vdr.allotmentReceived = true → ¬ (s.fde.role = .withdrawn ∧ s.fde.drained = true) →
        s.params.trickleOpening ≤ s.vdr.command)

/-- The timers of the role machine and of the frost monitor run only in the roles and frost states that have
them, the release-pending marks stand only in their states, after their timer's expiry, and T_STAG does not
run while the monitor is suspended (R94, R95, R96, R104, R108 to R111, R116). -/
def TimersOfState (s : State) : Prop :=
  let running := fun id => (s.timer id).running = true
  (running .warm → s.fde.role = .warming) ∧ (running .rot → s.fde.role = .carrying)
    ∧ (running .shed → s.fde.role = .warming ∨ s.fde.role = .carrying)
    ∧ (running .guard → s.cfm.frost = .guard) ∧ (running .prot → s.cfm.frost = .protect)
    ∧ (running .recov → s.cfm.frost = .recover)
    ∧ (s.cfm.guardPending = true → s.cfm.frost = .guard ∧ ¬ running .guard)
    ∧ (s.cfm.protectPending = true → s.cfm.frost = .protect ∧ ¬ running .prot)
    ∧ (s.cfm.suspended = true → ¬ running .stag)

/-- What the frost state, the valve, the fans and the role keep between them. -/
def CoilProtected (s : State) : Prop := ReportsCurrent s ∧ SuspensionExact s ∧ FrostForced s

/-- A bulletin's fields lie in the ranges of R25, and its outlet, share and fan count as R27 stores
them. -/
def Bulletin.InRange (b : Bulletin) : Prop :=
  (1 ≤ b.source ∧ b.source ≤ 24 ∧ b.slot = b.source) ∧ (-600 ≤ b.outlet ∧ b.outlet ≤ 900)
    ∧ b.q ≤ 255 ∧ b.h ≤ 256 ∧ b.share ≤ b.h ∧ b.d ≤ 6144 ∧ b.restAge ≤ 65535
    ∧ (1 ≤ b.nFit ∧ b.nFit ≤ 6) ∧ b.nAvail ≤ b.nFit ∧ b.fanSpeed ≤ 250

/-- The parameters lie in the ranges of the table of R176. -/
def Params.InRange (p : Params) : Prop :=
  (1 ≤ p.holdLimit ∧ p.holdLimit ≤ 8) ∧ (1 ≤ p.nFit ∧ p.nFit ≤ 6) ∧ p.pairOrder ≤ 5
    ∧ (1 ≤ p.tachPulses ∧ p.tachPulses ≤ 4) ∧ p.deadband ≤ 50 ∧ p.gain ≤ 255
    ∧ (1 ≤ p.floorStep ∧ p.floorStep ≤ 64) ∧ (5 ≤ p.overcoolMargin ∧ p.overcoolMargin ≤ 200)
    ∧ p.warmMargin ≤ 200 ∧ (1 ≤ p.flowClass ∧ p.flowClass ≤ 255)
    ∧ (1 ≤ p.reportInterval ∧ p.reportInterval ≤ 255) ∧ p.spaceInterval ≤ 255
    ∧ (20 ≤ p.spinUpWindow ∧ p.spinUpWindow ≤ 200) ∧ (5 ≤ p.kickTime ∧ p.kickTime ≤ 100)
    ∧ (20 ≤ p.checkWindow ∧ p.checkWindow ≤ 100) ∧ (1 ≤ p.slew ∧ p.slew ≤ 512) ∧ p.vMin ≤ 1000
    ∧ (1 ≤ p.shedRamp ∧ p.shedRamp ≤ 1000) ∧ (100 ≤ p.startSpeed ∧ p.startSpeed ≤ 1000)
    ∧ (1 ≤ p.fanRamp ∧ p.fanRamp ≤ 1000) ∧ (300 ≤ p.ratedSpeed ∧ p.ratedSpeed ≤ 3000)
    ∧ (100 ≤ p.exerciseSpeed ∧ p.exerciseSpeed ≤ 1000)
    ∧ (50 ≤ p.exerciseTime ∧ p.exerciseTime ≤ 3000) ∧ (-300 ≤ p.iceAmbient ∧ p.iceAmbient ≤ 100)
    ∧ p.stagnationOpening ≤ 500 ∧ p.guardOpening ≤ 1000
    ∧ (10 ≤ p.trickleOpening ∧ p.trickleOpening ≤ 500) ∧ (1 ≤ p.warmRate ∧ p.warmRate ≤ 1000)
    ∧ (1 ≤ p.shedRate ∧ p.shedRate ≤ 1000) ∧ (10 ≤ p.travelTime ∧ p.travelTime ≤ 600)
    ∧ (50 ≤ p.setpoint0 ∧ p.setpoint0 ≤ 450) ∧ (-100 ≤ p.floor0 ∧ p.floor0 ≤ 400)
    ∧ (50 ≤ p.setpoint1 ∧ p.setpoint1 ≤ 450) ∧ (-100 ≤ p.floor1 ∧ p.floor1 ≤ 400)
    ∧ (∀ i : Fin 7, (-32768 ≤ p.channels[i].offset ∧ p.channels[i].offset ≤ 32767)
        ∧ (-32768 ≤ p.channels[i].span ∧ p.channels[i].span ≤ 32767)
        ∧ p.channels[i].shift ≤ 3 ∧ p.channels[i].hysteresis ≤ 255
        ∧ ((channelRange i).1 ≤ p.channels[i].low ∧ p.channels[i].low ≤ (channelRange i).2)
        ∧ ((channelRange i).1 ≤ p.channels[i].high ∧ p.channels[i].high ≤ (channelRange i).2))
    ∧ (∀ i : Fin 10, (1 ≤ p.timers[i].p ∧ p.timers[i].p ≤ 64) ∧ (1 ≤ p.timers[i].c ∧ p.timers[i].c ≤ 256))

/-- The parameters in force and the valve command lie in their ranges (R141, R175, R176). -/
def RangesSound (s : State) : Prop := s.params.InRange ∧ s.vdr.command ≤ 1000

/-- The CRC error count of row k, 0 … 24 (R34). -/
def Btb.crcCount (k : Nat) (b : Btb) : Nat := if k = 0 then b.crcErrors0 else (b.row k).crcErrors

/-- The misaligned count of row k, 0 … 24 (R34). -/
def Btb.misalignedCount (k : Nat) (b : Btb) : Nat := if k = 0 then b.misaligned0 else (b.row k).misaligned

/-- A timer as an expiry of a single-pass one leaves it (R156). -/
def Timer.expired (t : Timer) : Timer :=
  { t with running := false, prescaler := 0, main := 0, expiries := satInc 65535 t.expiries }

/-- Row k's copies and ages stand as its states allow, and its copies hold bulletins of station k in the
ranges of R25 (R27, R31, R32, R36, R38). -/
def Row.Sound (k : Nat) (r : Row) : Prop :=
  (r.state = .absent ↔ r.live = none) ∧ (r.snapState = .absent ↔ r.snapCopy = none)
    ∧ (r.state ≠ .held → r.age = 0) ∧ (r.state = .held → 1 ≤ r.age ∧ r.age ≤ 8)
    ∧ (∀ b ∈ r.live, b.InRange ∧ b.source = k) ∧ ∀ b ∈ r.snapCopy, b.InRange ∧ b.source = k

/-- Every station row is sound, and the hold limits in use and to come are 1 … 8 (R31, R36, R176). -/
def RowsSound (s : State) : Prop :=
  s.params.holdLimit ≤ 8 ∧ ∀ i : Fin 24, (s.btb.rows[i]).Sound (i.val + 1)

/-- What is held for the transmit instant or being sent are 21 characters that name the own address as slot
and source (R26, R28, R30). -/
def OwnFramesSound (s : State) : Prop :=
  let own := fun cs : List Byte => cs.length = 21
    ∧ (cs.getD 2 0).toNat = s.straps.address.toNat ∧ (cs.getD 3 0).toNat = s.straps.address.toNat
  (∀ cs ∈ s.lsc.composed, own cs) ∧ ∀ cs ∈ s.lsc.sending, own cs

/-- A station holds or sends a bulletin only in ACTIVE, is UNADDRESSED with a bad address, and keeps its
position and counts in range (R7, R14, R16, R19, R21, R23). That it is UNADDRESSED before reset release is
the model's choice (log entry 5): R14 speaks only from reset release on. -/
def BusSound (s : State) : Prop :=
  (s.released = false → s.lsc.bus = .unaddressed)
    ∧ (goodAddress s.straps.address = false → s.lsc.bus = .unaddressed)
    ∧ (s.lsc.bus ≠ .active → s.lsc.composed = none ∧ s.lsc.sending = none)
    ∧ (∀ p, s.lsc.position = some p → p < cycleUs)
    ∧ s.lsc.collisions ≤ 2 ∧ s.lsc.isolation ≤ 10 ∧ s.lsc.extension ≤ 7

/-- The port is RECEIVING exactly while a request is in hand, which is never longer than its kind
(R177). -/
def RequestSound (s : State) : Prop :=
  (s.svp.port = .receiving ↔ s.svp.request ≠ [])
    ∧ ∀ c cs, s.svp.request = c :: cs → cs.length < requestLength c ∧ beginsRequest c = true

/-- Each live condition stands as its owner's state says: FROST_GUARD and FROST_TRIP (R113), FAN_ICE
(R138), VALVE_STUCK (R148), SENSOR_FAIL and CONVERTER_FAULT (R61), BUS_ISOLATED (R23), DUP_ADDRESS (R22),
FIELD_OVERCOOL (R83), PANEL_SILENT (R165) and CONFIG_DEFAULT (R175). FIELD_SHORT is of the last computation
alone. -/
def LiveFollowsOwners (s : State) : Prop :=
  let live := fun c => hasAlert s.aou.live c = true
  (live .frostGuard ↔ s.cfm.frost = .guard)
    ∧ (live .frostTrip ↔ s.cfm.frost = .protect ∨ s.cfm.frost = .recover)
    ∧ (live .fanIce ↔ ∃ i, (s.fcc.channel i).state = .iced)
    ∧ (live .valveStuck ↔ s.vdr.stuck = true)
    ∧ (live .sensorFail ↔ ∃ i : Fin 7, s.ssc.channels[i].failed = true)
    ∧ (live .converterFault ↔ s.ssc.fault = true)
    ∧ (live .busIsolated ↔ s.lsc.isolation = 10)
    ∧ (live .dupAddress ↔ s.lsc.bus = .duplicate)
    ∧ (live .fieldOvercool ↔ 30 ≤ s.fde.overcool)
    ∧ (live .panelSilent → s.ord.taken = true)
    ∧ (live .configDefault ↔ s.cfl.defaults = true)

/-! ### Tables of the spec -/

/-- The register of R3 over covered characters, bit by bit from 0xFFFF. -/
def crcRegister (covered : List Byte) : Nat :=
  let bits := covered.flatMap fun c => (List.range 8).map fun i => c.toNat / 2 ^ (7 - i) % 2
  bits.foldl
    (fun r bit =>
      let shifted := 2 * r % 65536
      if (r / 32768 + bit) % 2 = 1 then shifted ^^^ 0x1021 else shifted)
    0xFFFF

/-- The tests of R4 that both kinds of frame share, for a kind and its length. -/
def FrameOfKind (kind : Byte) (length : Nat) (chars : List RxChar) : Prop :=
  let c := fun i => ((chars.map RxChar.byte).getD i 0).toNat
  (∀ x ∈ chars, x.framingError = false) ∧ c 0 = 0xB4 ∧ c 1 = kind.toNat ∧ chars.length = length
    ∧ 256 * c (length - 2) + c (length - 1)
      = crcRegister (((chars.map RxChar.byte).drop 1).take (length - 3))

/-- A valid bulletin (R4). -/
def ValidBulletin (chars : List RxChar) : Prop :=
  let c := fun i => ((chars.map RxChar.byte).getD i 0).toNat
  FrameOfKind 0x31 21 chars ∧ c 3 = c 2 ∧ 1 ≤ c 3 ∧ c 3 ≤ 24

/-- A valid order frame (R4). -/
def ValidOrder (chars : List RxChar) : Prop :=
  FrameOfKind 0x32 28 chars ∧ ((chars.map RxChar.byte).getD 2 0).toNat = 0

/-- A live copy as the layout of R26 and the normalisation of R27 make it of 21 characters. -/
def Bulletin.StoredFrom (cs : List Byte) (b : Bulletin) : Prop :=
  let c := fun i => (cs.getD i 0).toNat
  let word := fun i => 256 * c i + c (i + 1)
  let bit := fun i n => decide (c i / 2 ^ n % 2 = 1)
  let outlet : Int := if word 8 < 32768 then word 8 else word 8 - 65536
  let fit := c 16 % 8
  (b.slot = c 2 ∧ b.source = c 3 ∧ b.loop = bit 4 0 ∧ b.dValid = bit 4 1 ∧ b.outletValid = bit 4 2)
    ∧ b.role = [Role.init, .resting, .warming, .carrying, .shedding, .protect, .withdrawn,
        .init].getD (c 4 / 8 % 8) .init
    ∧ b.frost = [FrostState.clear, .guard, .protect, .recover].getD (c 4 / 64) .clear
    ∧ (b.rotateDue = bit 5 0 ∧ b.coldJoin = bit 5 1 ∧ b.floorLimited = bit 5 2 ∧ b.noBasis = bit 5 3
        ∧ b.drained = bit 5 4)
    ∧ b.h = min 256 (256 * (c 5 / 32 % 2) + c 6) ∧ b.share = min b.h (256 * (c 5 / 64 % 2) + c 7)
    ∧ b.outlet = max (-600) (min 900 outlet) ∧ b.q = c 10 ∧ b.d = min 6144 (word 11)
    ∧ b.restAge = word 13 ∧ b.fanSpeed = min 250 (c 15)
    ∧ b.nFit = (if fit = 0 then 1 else if fit = 7 then 6 else fit) ∧ b.nAvail = min b.nFit (c 16 / 8 % 8)
    ∧ b.alerts.toNat = 256 * (c 17 % 16) + c 18

/-- An order's items as the layout of R160 gives them in 28 characters. -/
def Order.ReadFrom (cs : List Byte) (o : Order) : Prop :=
  let c := fun i => (cs.getD i 0).toNat
  let word := fun i => 256 * c i + c (i + 1)
  let signed := fun (half n : Nat) => if n < half then (n : Int) else (n : Int) - 2 * half
  let mask := fun i => 65536 * c i + 256 * c (i + 1) + c (i + 2)
  o.valid0 = decide (32768 ≤ word 3) ∧ o.setpoint0 = signed 16384 (word 3 % 32768)
    ∧ o.floor0 = signed 32768 (word 5)
    ∧ o.valid1 = decide (32768 ≤ word 7) ∧ o.setpoint1 = signed 16384 (word 7 % 32768)
    ∧ o.floor1 = signed 32768 (word 9)
    ∧ o.withdraw.toNat = mask 11 ∧ o.drained.toNat = mask 14 ∧ o.clearAlerts.toNat = mask 17
    ∧ o.fanReset.toNat = mask 20 ∧ o.exercise.toNat = mask 23

/-- The command at a report of a changed role, drained attribute or frost state that does not bring a cell
into WARMING or SHEDDING, once an allotment has been received: at once to the target of R142, and for a
warming or shedding cell up to a minimum opening that overtakes it (R114, R142, R143). -/
def CommandAtReport (s t : State) : Prop :=
  let least := t.leastOpening
  (t.cfm.frost.forces = true → t.vdr.command = 1000)
    ∧ (t.cfm.frost.forces = false →
      (t.fde.role = .init ∨ t.fde.role = .carrying ∨ t.fde.role = .protect → t.vdr.command = 1000)
        ∧ (t.fde.role = .warming ∨ t.fde.role = .shedding →
            t.vdr.command = max s.vdr.command least)
        ∧ (t.fde.role = .resting → t.vdr.command = least)
        ∧ (t.fde.role = .withdrawn → t.vdr.command = if t.fde.drained then 0 else least))

/-- T_WARM, T_SHED and T_ROT at an event that brings the cell into neither WARMING nor CARRYING: stopped where
the cell left a role that they run in, else as they were (R93). -/
def RoleTimersLeft (s t : State) : Prop :=
  let left := fun r => s.fde.role = r ∧ t.fde.role ≠ r
  let stopped := fun id => { s.timer id with running := false }
  t.timer .warm = (if left .warming then stopped .warm else s.timer .warm)
    ∧ t.timer .rot = (if left .carrying then stopped .rot else s.timer .rot)
    ∧ t.timer .shed = (if left .warming ∨ left .carrying then stopped .shed else s.timer .shed)

/-- An entry to PROTECT with its causes: the monitor's record and its timers (R109), and the role machine with
the role that is left (R85, R93, R98). -/
def EntersProtect (causes : List TripCause) (s t : State) : Prop :=
  t.cfm = { s.cfm with
      frost := .protect, guardPending := false, protectPending := false, lastTrip := some causes
      tripCount := if s.cfm.tripCount < 65535 then s.cfm.tripCount + 1 else s.cfm.tripCount }
    ∧ t.timer .guard = { s.timer .guard with running := false }
    ∧ t.timer .recov = { s.timer .recov with running := false }
    ∧ (t.timer .prot).running = true
    ∧ ((s.timer .prot).running = false → t.timer .prot = { s.timer .prot with
        running := true, prescaler := (s.timerParams .prot).p, main := (s.timerParams .prot).c, sub := 0 })
    ∧ (s.fde.role = .protect ∨ s.fde.role = .withdrawn → t.fde = s.fde)
    ∧ (s.fde.role ≠ .protect → s.fde.role ≠ .withdrawn → t.fde = { s.fde with
        role := .protect, restAge := 0, rotateDue := false, coldJoin := false, drained := false
        lastChange := some ⟨s.fde.role, .protect, .frostProtect⟩ })
    ∧ RoleTimersLeft s t

/-- Pair order, from the table of R126 and the alternation bits as they stand. -/
def Fcc.pairTable (p : Params) (f : Fcc) : List (Fin 6) :=
  let sequences : List (List (Fin 3)) :=
    [[0, 1, 2], [0, 2, 1], [1, 0, 2], [1, 2, 0], [2, 0, 1], [2, 1, 0]]
  (sequences.getD p.pairOrder [2, 1, 0]).flatMap fun i : Fin 3 =>
    let even : Fin 6 := ⟨2 * i.val, by omega⟩
    let odd : Fin 6 := ⟨2 * i.val + 1, by omega⟩
    if f.bits[i] then [odd, even] else [even, odd]

/-- The table of R176 with the defaults of R48 and R151: `field off width signed lo hi dflt` is what a
number gives, `mask off dflt` what a mask gives. -/
def Params.FollowTable (field : Nat → Nat → Bool → Int → Int → Int → Int)
    (mask : Nat → AlertMask → AlertMask) (p : Params) : Prop :=
  let ranges : List (Int × Int) :=
    [(-600, 900), (-600, 900), (-600, 900), (-600, 900), (-600, 900), (0, 2000), (0, 1000)]
  let channels : List (List Int) :=
    [[-600, 1500, 50, 600, 1, 10], [-600, 1500, -50, 900, 1, 10], [-600, 1500, -450, 400, 3, 10],
      [-600, 1500, -150, 900, 1, 10], [-600, 1500, -150, 900, 1, 10], [0, 2000, 0, 600, 2, 20],
      [0, 1000, 0, 1000, 0, 10]]
  let timers : List (Int × Int) :=
    [(6, 240), (5, 120), (1, 120), (3, 120), (1, 120), (2, 150), (4, 225), (5, 120), (1, 180), (1, 60)]
  [(p.holdLimit : Int), p.nFit, p.pairOrder, p.tachPulses, p.deadband, p.gain, p.floorStep]
      = [field 3 1 false 1 8 3, field 4 1 false 1 6 6, field 5 1 false 0 5 0, field 6 1 false 1 4 2,
        field 7 1 false 0 50 3, field 8 1 false 0 255 24, field 9 1 false 1 64 16]
    ∧ [(p.overcoolMargin : Int), p.warmMargin, p.flowClass, p.reportInterval, p.spaceInterval,
        p.assertedReleased.toNat, p.spinUpWindow, p.kickTime, p.checkWindow]
      = [field 10 1 false 5 200 30, field 11 1 false 0 200 50, field 12 1 false 1 255 200,
        field 13 1 false 1 255 30, field 14 1 false 0 255 0, field 15 1 false 0 1 0,
        field 16 1 false 20 200 50, field 17 1 false 5 100 20, field 18 1 false 20 100 30]
    ∧ [(p.slew : Int), p.vMin, p.shedRamp, p.startSpeed, p.fanRamp, p.ratedSpeed, p.exerciseSpeed,
        p.exerciseTime]
      = [field 19 2 false 1 512 64, field 21 2 false 0 1000 200, field 23 2 false 1 1000 100,
        field 25 2 false 100 1000 300, field 27 2 false 1 1000 100, field 29 2 false 300 3000 1200,
        field 31 2 false 100 1000 300, field 33 2 false 50 3000 300]
    ∧ [p.iceAmbient, p.stagnationOpening, p.guardOpening, p.trickleOpening, p.warmRate, p.shedRate,
        p.travelTime]
      = [field 35 2 true (-300) 100 (-20), field 37 2 false 0 500 40, field 39 2 false 0 1000 250,
        field 41 2 false 10 500 80, field 43 2 false 1 1000 50, field 45 2 false 1 1000 50,
        field 47 2 false 10 600 90]
    ∧ [p.setpoint0, p.floor0, p.setpoint1, p.floor1]
      = [field 49 2 true 50 450 250, field 51 2 true (-100) 400 180, field 53 2 true 50 450 250,
        field 55 2 true (-100) 400 180]
    ∧ p.enables = mask 57 0x0FFE ∧ p.selects = mask 59 0x0CFE
    ∧ (∀ i : Fin 7,
        let c := p.channels[i]
        let at0 := 61 + 10 * i.val
        let r := ranges.getD i (0, 0)
        let d := fun n => (channels.getD i []).getD n 0
        [c.offset, c.span, c.low, c.high, (c.shift : Int), c.hysteresis]
          = [field at0 2 true (-32768) 32767 (d 0), field (at0 + 2) 2 true (-32768) 32767 (d 1),
            field (at0 + 4) 2 true r.1 r.2 (d 2), field (at0 + 6) 2 true r.1 r.2 (d 3),
            field (at0 + 8) 1 false 0 3 (d 4), field (at0 + 9) 1 false 0 255 (d 5)])
    ∧ ∀ i : Fin 10,
        let d := timers.getD i (0, 0)
        [(p.timers[i].p : Int), p.timers[i].c]
          = [field (131 + 3 * i.val) 1 false 1 64 d.1, field (132 + 3 * i.val) 2 false 1 256 d.2]

/-- The own bulletin as the table of R28 gives it: the latest record or, before the first allotment, INIT
with nothing offered (R29); the latest scan set; the frost state and the latched flags as they stand. -/
def Bulletin.ComposedFrom (s : State) (b : Bulletin) : Prop :=
  (b.slot = s.straps.address.toNat ∧ b.source = s.straps.address.toNat ∧ b.loop = s.straps.loop
      ∧ b.frost = s.cfm.frost ∧ b.nFit = s.params.nFit ∧ b.alerts = s.aou.latched)
    ∧ (∀ set, s.ssc.scanSet = some set →
        b.outlet = set.to.value ∧ b.outletValid = (set.to.ok && !set.fault))
    ∧ (s.ssc.scanSet = none → b.outlet = 0 ∧ b.outletValid = false)
    ∧ (∀ a, s.fde.allotment = some a →
        b.role = a.role ∧ b.rotateDue = a.rotateDue ∧ b.coldJoin = a.coldJoin
          ∧ b.floorLimited = a.floorLimited ∧ b.noBasis = a.noBasis ∧ b.drained = a.drained
          ∧ b.dValid = a.dValid ∧ b.d = a.d ∧ b.share = a.share ∧ b.h = a.h ∧ b.restAge = a.restAge
          ∧ b.q = a.q ∧ b.nAvail = a.nAvail ∧ b.fanSpeed = (2 * a.v + 4) / 8)
    ∧ (s.fde.allotment = none →
        b.role = .init ∧ b.rotateDue = false ∧ b.coldJoin = false ∧ b.floorLimited = false
          ∧ b.noBasis = false ∧ b.drained = false ∧ b.dValid = false ∧ b.d = 0 ∧ b.share = 0
          ∧ b.h = 0 ∧ b.restAge = 0 ∧ b.fanSpeed = 0 ∧ b.q = s.vdr.q ∧ b.nAvail = s.fcc.nAvail)

/-- Qualifying that begins between two states, in an event that comes with a cycle end: where that cycle end
had the cadence count first it is REPORT with count 0, otherwise that cycle end counts 1 (R171). -/
def BeginsWithCycleEnd (s t : State) : Prop :=
  s.aou.cadence = .idle → t.aou.cadence ≠ .idle →
    let counted : Cadence × Nat × Bool :=
      if 0 < s.params.spaceInterval ∧ s.params.reportInterval ≤ 1 then (.space, 0, false)
      else (.report, min 1 s.params.reportInterval, true)
    (t.aou.cadence, t.aou.count, t.aou.line) = if s.cadenceFirst then (.report, 0, true) else counted

/-! ### The records of the service views (R178)

A record is a list of items, each a width in bytes and a value. -/

/-- The bytes of a record: each item high byte first, a negative value as two's complement (R178). -/
def bytesOf (items : List (Nat × Int)) : List Byte :=
  items.flatMap fun i => (List.range i.1).reverse.map fun k => BitVec.ofInt 8 (i.2 / 256 ^ k)

/-- An item of one byte, of two bytes, of four bytes (R178). -/
def byte1 (v : Int) : Nat × Int := (1, v)
@[inherit_doc byte1] def byte2 (v : Int) : Nat × Int := (2, v)
@[inherit_doc byte1] def byte4 (v : Int) : Nat × Int := (4, v)

/-- A yes-or-no item (R178). -/
def yesNo (b : Bool) : Nat × Int := byte1 b.toNat

/-- A state by its position in a list of states (R178). -/
def placeIn {α : Type} [BEq α] (states : List α) (a : α) : Nat × Int := byte1 (states.idxOf a)

/-- An item that may be none: the presence byte, then the item's items, or zeros of its width (R178). -/
def mayBe {α : Type} (width : Nat) (items : α → List (Nat × Int)) : Option α → List (Nat × Int)
  | some a => byte1 1 :: items a
  | none => [byte1 0, (width, 0)]

/-- The roles in the order of R85. -/
def roles : List Role := [.init, .resting, .warming, .carrying, .shedding, .protect, .withdrawn]

/-- The frost states in the order of R104. -/
def frostStates : List FrostState := [.clear, .guard, .protect, .recover]

/-- The record of R80. -/
def Allotment.table (a : Allotment) : List (Nat × Int) :=
  [placeIn roles a.role, yesNo a.rotateDue, yesNo a.coldJoin, yesNo a.drained, yesNo a.floorLimited,
    yesNo a.noBasis, byte2 a.share, byte2 a.h, byte2 a.d, yesNo a.dValid]
  ++ mayBe 2 (fun x => [byte2 x]) a.tMix
  ++ [byte1 a.m, byte2 a.v, byte2 a.restAge, byte1 a.q, byte1 a.nAvail]

/-- The figures of R84. -/
def Figures.table (g : Figures) : List (Nat × Int) :=
  [byte1 g.members, byte1 g.eligible, byte2 g.qSum, byte4 g.n, byte2 g.dAvg, byte2 g.e, byte2 g.step,
    byte2 g.dCap, byte1 g.tier, byte1 g.position, byte2 g.cBefore, byte2 g.share]

/-- A bulletin record of R25, with its mask as one item of two bytes (log entry 13). -/
def Bulletin.table (b : Bulletin) : List (Nat × Int) :=
  [byte1 b.slot, byte1 b.source, yesNo b.loop, yesNo b.dValid, yesNo b.outletValid, placeIn roles b.role,
    yesNo b.rotateDue, yesNo b.coldJoin, yesNo b.floorLimited, yesNo b.noBasis, yesNo b.drained,
    byte2 b.outlet, byte1 b.q, byte2 b.h, byte2 b.share, byte2 b.d, byte2 b.restAge,
    placeIn frostStates b.frost, byte1 b.nFit, byte1 b.nAvail, byte1 b.fanSpeed, byte2 b.alerts.toNat]

/-- A row copy, or zeros of its width where it is empty (log entry 13). -/
def copyTable : Option Bulletin → List (Nat × Int)
  | some b => b.table
  | none => [(28, 0)]

/-- A timer's state and remaining counts, with the sub-minute count of a minute base (R159). -/
def Timer.table (minute : Bool) (t : Timer) : List (Nat × Int) :=
  [yesNo t.running, byte1 t.prescaler, byte2 t.main] ++ if minute then [byte1 t.sub] else []

/-- View 0 (R24, R178). The version is the byte at offset 1, once the read has reached it; before, a free
value (log entry 12). The current slot number without a slot position is 0, with no presence byte but R24's yes or
no (log entry 13). -/
def State.table0 (s : State) : List (Nat × Int) :=
  let outcomes : List LoadOutcome := [.accepted, .noAck, .marker, .length, .sum]
  let slot := match s.lsc.position with | some p => p / 40000 | none => 0
  let version :=
    if 2 ≤ s.cfl.image.length then s.cfl.image.getD 1 0 else Config.versionUnread s.freeCount
  [byte1 version.toNat] ++ mayBe 1 (fun o => [placeIn outcomes o]) s.cfl.outcome
  ++ [yesNo s.cfl.defaults, byte1 s.straps.address.toNat, yesNo s.straps.loop,
    byte1 s.straps.address.toNat,
    placeIn [BusState.unaddressed, .listen, .joining, .active, .duplicate] s.lsc.bus,
    yesNo s.lsc.position.isSome, byte1 slot, byte1 s.lsc.anchor, byte1 s.lsc.collisions,
    byte1 s.lsc.extension, byte1 s.lsc.isolation]

/-- View 1 (R80, R84, R103, R166), each item once and the figures before the role items (log entry 13). -/
def State.table1 (s : State) : List (Nat × Int) :=
  let causes : List RoleCause :=
    [.allotment, .warmExpiry, .shedExpiry, .frostProtect, .frostClear, .withdraw, .restore]
  let change := fun c : RoleChange => [placeIn roles c.previous, placeIn roles c.new, placeIn causes c.cause]
  mayBe 23 Allotment.table s.fde.allotment
  ++ [byte2 s.fde.d, yesNo s.fde.dValid] ++ mayBe 2 (fun x => [byte2 x]) s.fde.tMix
  ++ [byte2 s.fde.floorCeiling, byte1 s.fde.overcool] ++ mayBe 22 Figures.table s.fde.figures
  ++ [placeIn roles s.fde.role, byte2 s.fde.restAge, yesNo s.fde.rotateDue, yesNo s.fde.coldJoin,
    yesNo s.fde.drained]
  ++ mayBe 2 (fun x => [byte2 x]) s.fde.warmTarget ++ mayBe 3 change s.fde.lastChange
  ++ (s.timer .warm).table false ++ (s.timer .shed).table false ++ (s.timer .rot).table false
  ++ [byte2 s.ord.setpoint0.toNat, byte2 s.ord.floor0, byte2 s.ord.setpoint1.toNat, byte2 s.ord.floor1,
    yesNo s.ord.withdraw, yesNo s.ord.drainedLevel, byte4 s.ord.prevClear.toNat,
    byte4 s.ord.prevFanReset.toNat, byte4 s.ord.prevExercise.toNat, yesNo s.ord.taken]

/-- The row states in the order of R31. -/
def rowStates : List RowState := [.absent, .fresh, .held]

/-- View 2 (R41). Row 0's frame is its 28 characters, or zeros, without a length or presence byte before them,
and whether it is filled follows (log entry 13). -/
def State.table2 (s : State) : List (List (Nat × Int)) :=
  let frame := match s.btb.order with
    | some cs => cs.map fun c => byte1 c.toNat
    | none => [(28, 0)]
  (frame ++ [yesNo s.btb.order.isSome])
  :: s.btb.rows.toList.map fun r =>
    copyTable r.live ++ [placeIn rowStates r.state, byte1 r.age, yesNo r.heard]

/-- View 3 (R41). -/
def State.table3 (s : State) : List (List (Nat × Int)) :=
  s.btb.rows.toList.map fun r => copyTable r.snapCopy ++ [placeIn rowStates r.snapState, byte1 r.snapAge]

/-- View 4 (R34, R41). -/
def State.table4 (s : State) : List (List (Nat × Int)) :=
  (List.range 25).map fun k => [byte2 (s.btb.crcCount k), byte2 (s.btb.misalignedCount k)]

/-- View 5 (R58, R62): the set-wide items, the seven measurement channels, REF. -/
def State.table5 (s : State) : List (List (Nat × Int)) :=
  let published := fun i : Fin 8 => match s.ssc.scanSet with
    | some set =>
      let c := set.channels[i]
      [byte2 c.value, yesNo (!c.ok), placeIn [Comparator.below, .inside, .above] c.comparator]
    | none => [byte4 0]
  let shown := fun x : Int => if s.ssc.scanSet.isSome then byte2 x else byte2 0
  let fault := match s.ssc.scanSet with | some set => set.fault | none => false
  let channel := fun i : Fin 7 =>
    let c := s.ssc.channels[i]
    published i.castSucc ++ [shown (c.raw.getD 0).toNat, shown (c.x.getD 0), yesNo c.failed,
      byte1 c.faultRun, byte1 c.goodRun, yesNo c.y.isSome]
  [yesNo fault, byte1 s.ssc.badRun, byte1 s.ssc.refGoodRun, yesNo s.ssc.scanSet.isSome]
  :: ([0, 1, 2, 3, 4, 5, 6].map channel
    ++ [published 7 ++ [shown (s.ssc.refRaw.getD 0).toNat, shown (s.ssc.refValue.getD 0),
      yesNo s.ssc.fault, byte1 s.ssc.badRun, byte1 s.ssc.refGoodRun, yesNo s.ssc.refValue.isSome]])

/-- View 6 (R140). -/
def State.table6 (s : State) : List (List (Nat × Int)) :=
  let states : List FanState := [.absent, .off, .queued, .starting, .kick, .running, .iced]
  let record := fun i : Fin 6 =>
    let c := s.fcc.channel i
    [placeIn states c.state] ++ mayBe 1 (fun k => [placeIn [FanClass.duty, .exercise] k]) c.cls
    ++ [byte2 c.command] ++ mayBe 1 (fun k => [placeIn [KickPhase.kick, .check] k]) c.phase
    ++ [byte2 c.phaseCount, byte1 c.retries, byte1 c.stallRun, byte1 c.deferrals,
      yesNo c.iceSuspect, byte2 c.speed]
  [0, 1, 2, 3, 4, 5].map record
  ++ [[byte1 s.fcc.runOrder.length] ++ s.fcc.runOrder.map (fun i => byte1 i.val)
    ++ mayBe 1 (fun i : Fin 6 => [byte1 i.val]) s.fcc.permit
    ++ [yesNo s.fcc.bits[0], yesNo s.fcc.bits[1], yesNo s.fcc.bits[2], byte1 s.fcc.nAvail]
    ++ (s.timer .exer).table true ++ (s.timer .ice).table true]

/-- View 7 (R142, R145, R150); a drained withdrawal has the target 0 in GUARD too (log entry 22). -/
def State.table7 (s : State) : List (Nat × Int) :=
  let v := s.vdr
  let p := s.params
  let forced := v.frost = .protect ∨ v.frost = .recover
  let least := if v.frost = .guard then max p.guardOpening p.trickleOpening else p.trickleOpening
  let atLeast := v.role = .resting ∨ (v.role = .withdrawn ∧ v.drained = false)
    ∨ (v.role = .shedding ∧ v.fansAtRest = true)
  let target : Nat := if forced then 1000 else if atLeast then least else if v.role = .withdrawn then 0 else 1000
  let ramp := if forced then 2 else if v.role = .warming then 0
    else if v.role = .shedding ∧ v.fansAtRest = true then 1 else 2
  [byte2 v.command, byte2 target, byte2 least, byte1 ramp,
    byte2 ((2 * v.command * 1023 + 1000) / 2000), yesNo v.fansAtRest, yesNo v.allotmentReceived,
    placeIn [CheckState.idle, .timing, .suspended] v.check, byte2 v.travelCount, yesNo v.stuck, byte1 v.q,
    yesNo (!v.fromVF)]

/-- View 8 (R151, R159). -/
def State.table8 (s : State) : List (List (Nat × Int)) :=
  let timers : List (TimerId × Bool) :=
    [(.rot, true), (.warm, false), (.shed, false), (.exer, true), (.ice, true), (.guard, false),
      (.prot, false), (.recov, false), (.stag, false), (.ord, false)]
  timers.map fun x =>
    (s.timer x.1).table x.2
      ++ [byte1 (s.timerParams x.1).p, byte2 (s.timerParams x.1).c, byte2 (s.timer x.1).expiries]

/-- View 9 (R26, R118, R170, R172). -/
def State.table9 (s : State) : List (List (Nat × Int)) :=
  let a := s.aou
  let p := s.params
  let on := fun n =>
    s.enables.getLsbD n && if p.selects.getLsbD n then a.latched.getLsbD n else a.live.getLsbD n
  let causes : List TripCause := [.lowerSurface, .upperSurface, .pressure, .stagnation]
  let trip := fun cs : List TripCause => byte1 cs.length :: cs.map (placeIn causes)
  ((List.range 12).map fun n =>
    [yesNo (a.live.getLsbD n), yesNo (a.latched.getLsbD n), yesNo (s.enables.getLsbD n),
      yesNo (p.selects.getLsbD n)])
  ++ [[yesNo ((List.range 12).any on), yesNo (!a.line), yesNo p.assertedReleased,
      byte1 p.reportInterval, byte1 p.spaceInterval,
      placeIn [Cadence.idle, .report, .space] a.cadence, byte1 a.count],
    [placeIn frostStates s.cfm.frost, yesNo s.cfm.suspended, yesNo s.cfm.guardPending,
      yesNo s.cfm.protectPending] ++ mayBe 1 trip s.cfm.lastTrip ++ [byte2 s.cfm.tripCount]]

/-- The records of view n (the table of R178). -/
def State.viewTable (n : Nat) (s : State) : List (List (Nat × Int)) :=
  ([[s.table0], [s.table1], s.table2, s.table3, s.table4, s.table5, s.table6, [s.table7], s.table8,
    s.table9, s.cfl.image.map fun b => [byte1 b.toNat]] : List (List (List (Nat × Int)))).getD n []

end Sys2Proof.Machine
end

