-- ==== Sys2Proof/Certificates/Slice0/Obligations.lean ====
section
/-! DEFINITION. Certificates/Slice0/Obligations.lean: the statements for the provers. `u` is everywhere the
state once the command's crystal time has run on, and `base` what the end of a frame leaves of it. -/

open Sys2Proof Sys2Proof.Machine

/-! ### The queue and reset -/

/-- A step is the front command's effect with the rest of the queue. An empty queue idles (the model's
choice, log entry 2). -/
def Obligations.StepTakesTheFrontCommand : Prop :=
  ∀ (c : Instr) (cs : List Instr) (s : State),
    step { s with pending := c :: cs } = exec c { s with pending := cs }
      ∧ step { s with pending := [] } = .next { s with pending := [] }

/-- No command stops the part, and none touches the queue. The spec gives the part no event at which it
stops; that an event whose condition does not hold still answers next, and that the queue stands, is the
model's choice (log entry 1). -/
def Obligations.EveryCommandAnswersNext : Prop :=
  ∀ (c : Instr) (s : State), ∃ t, exec c s = .next t ∧ t.pending = s.pending

/-- Every block's after-reset values (the tables of R31, R35, R45, R64, R85, R104, R120, R141, R152, R161,
R167, R171, R173, R177), and the pins they give (R1, R145, R170, R177). The queue, the counter of the free
values and the order chosen at the last cycle end are the model's own and stand (log entries 1, 4, 12).
The straps, the bus state, the anchor, the settings and the parameters, for which the spec gives no value
before reset release or load completion, take the model's choices (log entry 5). -/
def Obligations.ResetGivesTheAfterResetValues : Prop :=
  ∀ s : State, ∃ t, exec .resetAsserted s = .next t
    ∧ t = { State.reset with
        pending := s.pending, freeCount := s.freeCount, cadenceFirst := s.cadenceFirst }
    ∧ t.cfl = ⟨.loading, 0, 0, [], false, none⟩ ∧ t.loaded = false
    ∧ (t.lsc.position = none ∧ t.lsc.heard = [] ∧ t.lsc.collisions = 0 ∧ t.lsc.extension = 0
        ∧ t.lsc.isolation = 0 ∧ t.lsc.composed = none)
    ∧ (∀ k, t.btb.row k = ⟨none, none, .absent, 0, .absent, 0, false, 0, 0⟩)
    ∧ (t.btb.order = none ∧ t.btb.crcErrors0 = 0 ∧ t.btb.misaligned0 = 0)
    ∧ (∀ i : Fin 7, t.ssc.channels[i] = ⟨none, none, none, false, 0, 0, .inside⟩)
    ∧ (t.ssc.refRaw = none ∧ t.ssc.refComparator = .inside ∧ t.ssc.fault = false ∧ t.ssc.badRun = 0
        ∧ t.ssc.refGoodRun = 0 ∧ t.ssc.scanSet = none)
    ∧ (t.fde.d = 0 ∧ t.fde.dValid = false ∧ t.fde.tMix = none ∧ t.fde.floorCeiling = 256
        ∧ t.fde.overcool = 0 ∧ t.fde.allotment = none ∧ t.fde.figures = none ∧ t.fde.latched = none)
    ∧ (t.fde.role = .init ∧ t.fde.restAge = 0 ∧ t.fde.rotateDue = false ∧ t.fde.coldJoin = false
        ∧ t.fde.drained = false ∧ t.fde.warmTarget = none ∧ t.fde.lastChange = none)
    ∧ t.cfm = ⟨.clear, false, false, false, none, 0⟩
    ∧ (∀ i : Fin 6, t.fcc.channel i = ⟨.off, none, 0, 0, none, 0, 0, 0, false, 0⟩)
    ∧ (t.fcc.runOrder = [] ∧ t.fcc.permit = none ∧ ∀ p : Fin 3, t.fcc.bits[p] = false)
    ∧ t.vdr = ⟨1000, .init, false, .clear, true, false, .idle, 0, false, 200, false⟩
    ∧ (∀ id, t.timer id = ⟨false, 0, 0, 0, 0⟩)
    ∧ (t.ord.withdraw = false ∧ t.ord.drainedLevel = false ∧ t.ord.prevClear = 0 ∧ t.ord.prevFanReset = 0
        ∧ t.ord.prevExercise = 0 ∧ t.ord.taken = false)
    ∧ t.aou = ⟨0, 0, false, .idle, 0⟩
    ∧ (t.svp.port = .idle ∧ t.svp.request = [] ∧ t.svp.readPointer = 0 ∧ t.svp.limitCount = 0
        ∧ t.svp.copy = [])
    ∧ (t.de = false ∧ (∀ n, t.txd n = true) ∧ (∀ n, t.stx n = true) ∧ t.vout = 1023 ∧ t.alertLow = false ∧ ∀ n, t.pwm n = 0)

/-! ### Start-up -/

/-- Reset release latches the straps, gives the LSC its bus state and anchor, and starts T_ICE and T_ORD
(R11, R14, R137, R152, R161, R173). Later strap values have no effect. -/
def Obligations.ResetReleaseLatchesTheStraps : Prop :=
  ∀ (a : BitVec 5) (loop : Bool) (s : State),
    (s.released = false → (s.timer .ice).running = false →
      ∃ t, exec (.resetRelease a loop) s = .next t
        ∧ t = { s with
            released := true
            straps := ⟨a, loop⟩
            lsc := { s.lsc with bus := t.lsc.bus, anchor := t.lsc.anchor }
            itb := t.itb }
        ∧ (1 ≤ a.toNat ∧ a.toNat ≤ 24 → t.lsc.bus = .listen ∧ t.lsc.anchor = a.toNat)
        ∧ (a.toNat = 0 ∨ 25 ≤ a.toNat → t.lsc.bus = .unaddressed ∧ t.lsc.anchor = 25)
        ∧ (∀ id, id = .ice ∨ id = .ord → t.timer id = { s.timer id with
            running := true, prescaler := (s.timerParams id).p, main := (s.timerParams id).c, sub := 0 })
        ∧ ∀ id, id ≠ .ice → id ≠ .ord → t.timer id = s.timer id)
    ∧ (s.released = true → exec (.resetRelease a loop) s = .next s)

/-- SCL held low ends a read in progress with NO_ACK and load state DONE; the bytes read before it stand in
the image, and the defaults flag is left to load completion (R174, R175). Bytes that end the read
themselves leave the outcome that they give. -/
def Obligations.SclHeldLowEndsTheReadWithNoAck : Prop :=
  ∀ (bytes : List Byte) (s : State),
    s.released = true → s.cfl.state = .loading →
      ((s.cfl.read bytes).state = .loading → ∃ t, exec (.sclHoldTimeout bytes) s = .next t
        ∧ t = { s with cfl := { s.cfl.read bytes with state := .done, outcome := some .noAck } }
        ∧ t.cfl.image = s.cfl.image ++ bytes ∧ t.cfl.pointer = s.cfl.pointer + bytes.length
        ∧ t.cfl.defaults = s.cfl.defaults)
      ∧ ((s.cfl.read bytes).state = .done →
          exec (.sclHoldTimeout bytes) s = .next { s with cfl := s.cfl.read bytes })

/-- A whole image with its marker, length and sum right is ACCEPTED: the image stands as read, CONFIG_DEFAULT
is not live, and every parameter of R176 whose bytes lie at offsets 3 to length − 3 is the number they
give, high byte first, a signed one as two's complement, clamped to its range; every other parameter has
its default (R48, R151, R174 to R176). -/
def Obligations.GoodImageIsAccepted : Prop :=
  ∀ (bytes : List Byte) (s : State),
    s.released = true → s.loaded = false → s.cfl = Cfl.reset →
    48 ≤ bytes.length → bytes.length ≤ 240 → byteAt bytes 0 = 0x4E →
    (byteAt bytes 2).toNat = bytes.length →
    byteSum (bytes.take (bytes.length - 2)) % 65536 = (wordAt bytes (bytes.length - 2)).toNat →
      let at0 := fun i : Nat => bytes.getD i 0
      let field := fun (off width : Nat) (signed : Bool) (lo hi dflt : Int) =>
        let u : Int := if width = 1 then (at0 off).toNat else 256 * (at0 off).toNat + (at0 (off + 1)).toNat
        let v := if signed = true ∧ 32768 ≤ u then u - 65536 else u
        if off + width + 2 ≤ bytes.length then max lo (min hi v) else dflt
      let mask := fun (off : Nat) (dflt : AlertMask) =>
        if off + 4 ≤ bytes.length then (at0 off ++ at0 (off + 1)).setWidth 12 else dflt
      ∃ t, exec (.configurationLoadCompletion true bytes) s = .next t
        ∧ t.loaded = true ∧ t.params.FollowTable field mask
        ∧ t.cfl = ⟨.done, bytes.length, 0, bytes, false, some .accepted⟩
        ∧ hasAlert t.aou.live .configDefault = false

/-- An image that is not accepted: each outcome of R174, whether the completion brings the read or a read
that had ended before it, as SCL held low ends one, with every parameter at the default of R176 and
CONFIG_DEFAULT raised (R48, R151, R175). -/
def Obligations.BadImageTakesTheDefaults : Prop :=
  ∀ (acknowledged : Bool) (bytes : List Byte) (outcome : LoadOutcome) (s : State),
    s.released = true → s.loaded = false → LatchesLive s →
    ((s.cfl.state = .done ∧ s.cfl.outcome = some outcome ∧ outcome ≠ .accepted)
      ∨ (s.cfl = Cfl.reset ∧
        ((acknowledged = false ∧ outcome = .noAck)
          ∨ (acknowledged = true ∧ bytes ≠ [] ∧ byteAt bytes 0 ≠ 0x4E ∧ outcome = .marker)
          ∨ (acknowledged = true ∧ 3 ≤ bytes.length ∧ byteAt bytes 0 = 0x4E
              ∧ ((byteAt bytes 2).toNat < 48 ∨ 240 < (byteAt bytes 2).toNat) ∧ outcome = .length)
          ∨ (acknowledged = true ∧ 48 ≤ bytes.length ∧ bytes.length ≤ 240 ∧ byteAt bytes 0 = 0x4E
              ∧ (byteAt bytes 2).toNat = bytes.length
              ∧ byteSum (bytes.take (bytes.length - 2)) % 65536 ≠ (wordAt bytes (bytes.length - 2)).toNat
              ∧ outcome = .sum)))) →
      ∃ t, exec (.configurationLoadCompletion acknowledged bytes) s = .next t
        ∧ t.loaded = true ∧ t.params.FollowTable (fun _ _ _ _ _ dflt => dflt) (fun _ dflt => dflt)
        ∧ t.params = Params.default ∧ t.cfl.state = .done
        ∧ t.cfl.outcome = some outcome ∧ t.cfl.defaults = true
        ∧ hasAlert t.aou.live .configDefault = true ∧ hasAlert t.aou.latched .configDefault = true

/-- Configuration load completion in every block: the defaults flag with CONFIG_DEFAULT (R175), the LSC's
start (R14, R15, R16), the fans not fitted (R120), the travel check (R146), the running timers (R152), the
ORD's settings (R161, R162), the scan (R44), the flags, the cadence and the ALERT pin from then on (R138,
R167, R169 to R171), and everything else as it was. That a channel not fitted loses its permit and its place
in the list, and FAN_ICE follows, is deduced (log entry 25). That the flow weight stands until the first scan
or change of the command, although the image's Kq could give another, is the model's choice (log entry 30).
-/
def Obligations.LoadCompletionStartsTheBlocks : Prop :=
  ∀ (acknowledged : Bool) (bytes : List Byte) (s : State),
    s.released = true → s.loaded = false → (s.cfl.complete acknowledged bytes).state = .done →
      ∃ t, exec (.configurationLoadCompletion acknowledged bytes) s = .next t
        ∧ t = { s with
            loaded := true
            cfl := { s.cfl.complete acknowledged bytes with defaults := t.cfl.defaults }
            params := t.params, lsc := t.lsc, fcc := t.fcc, vdr := t.vdr, itb := t.itb, ord := t.ord
            aou := t.aou
            ssc := { s.ssc with nextChannel := 0 } }
        ∧ (t.cfl.defaults = true ↔ t.cfl.outcome ≠ some .accepted)
        ∧ hasAlert t.aou.live .configDefault = t.cfl.defaults
        ∧ (hasAlert t.aou.live .fanIce = true ↔ ∃ i, (t.fcc.channel i).state = .iced)
        ∧ (∀ c, c ≠ .configDefault → c ≠ .fanIce → hasAlert t.aou.live c = hasAlert s.aou.live c)
        ∧ (LatchesLive s → t.aou.latched = s.aou.latched ||| t.aou.live)
        ∧ (let qualifies := ∃ c, hasAlert t.params.enables c = true ∧
            (if hasAlert t.params.selects c then hasAlert t.aou.latched c else hasAlert t.aou.live c) = true
          s.aou.cadence = .idle → s.aou.count = 0 → s.aou.line = false →
            t.aou.count = 0 ∧ (qualifies → t.aou.cadence = .report ∧ t.aou.line = true)
              ∧ (¬ qualifies → t.aou.cadence = .idle ∧ t.aou.line = false))
        ∧ (t.alertLow = true ↔ (t.aou.line = true ↔ t.params.assertedReleased = false))
        ∧ t.fcc = { s.fcc with
            channels := t.fcc.channels
            runOrder := s.fcc.runOrder.filter fun i => decide (i.val < t.params.nFit)
            permit := t.fcc.permit }
        ∧ (∀ i, t.fcc.permit = some i ↔ s.fcc.permit = some i ∧ i.val < t.params.nFit)
        ∧ t.vdr = { s.vdr with
            check := t.vdr.check, travelCount := t.vdr.travelCount, fansAtRest := !t.fcc.anyTurning }
        ∧ (s.vdr.check = .suspended →
            t.vdr.check = .suspended ∧ t.vdr.travelCount = s.vdr.travelCount)
        ∧ (s.lsc.bus = .unaddressed → t.lsc = { s.lsc with position := some 0, idle := 0 })
        ∧ (s.lsc.bus = .listen → t.lsc = { s.lsc with
            window := some ((25 + s.own) * 40000), extension := 0, idle := 0 })
        ∧ (∀ i : Fin 6, t.params.nFit ≤ i.val →
            (t.fcc.channel i).state = .absent ∧ (t.fcc.channel i).command = 0)
        ∧ (∀ i : Fin 6, i.val < t.params.nFit → t.fcc.channel i = s.fcc.channel i)
        ∧ (s.vdr.check ≠ .suspended → t.vdr.check = .timing ∧ t.vdr.travelCount = 0)
        ∧ t.vdr.command = s.vdr.command
        ∧ (∀ id, (s.timer id).running = true → t.timer id = { s.timer id with
            prescaler := (t.timerParams id).p, main := (t.timerParams id).c, sub := 0 })
        ∧ (∀ id, (s.timer id).running = false → t.timer id = s.timer id)
        ∧ t.ord = { s.ord with
            setpoint0 := t.params.setpoint0, floor0 := min t.params.floor0 (t.params.setpoint0 - 20)
            setpoint1 := t.params.setpoint1, floor1 := min t.params.floor1 (t.params.setpoint1 - 20) }

/-! ### The slot clock and the line -/

/-- Crystal time moves the slot position round the cycle, the listen window down and the idle line up, marks
a passing of the end of slot 24 unless it comes less than 500.0 ms after the cycle end or ageing mark before
it, marks an entry into the own slot in ACTIVE and no other (R8), and touches nothing else (R2, R7, R8, R9,
R10, R16). Crystal time as the operand `elapsed`, and the marks `endPassed` and `ownSlotEntered` that stand
until their commands take them, are the model's (log entries 2, 3). -/
def Obligations.CrystalTimeRunsTheSlotClock : Prop :=
  ∀ (e : Nat) (s : State),
    (s.loaded = false → s.advance e = s)
    ∧ (s.loaded = true →
        let l := (s.advance e).lsc
        s.advance e = { s with lsc := l }
        ∧ l = { s.lsc with
            position := s.lsc.position.map fun p => (p + e) % 1000000
            endPassed := l.endPassed, ownSlotEntered := l.ownSlotEntered
            sinceCycleEnd := l.sinceCycleEnd
            window := s.lsc.window.map (· - e)
            idle := s.lsc.idle + e
            rx := s.lsc.rx.map fun r => { r with elapsed := r.elapsed + e } }
        ∧ (∀ p, s.lsc.position = some p →
            let soon := ∃ x, s.lsc.sinceCycleEnd = some x ∧ x + (1000000 - p) < 500000
            let raised := 1000000 ≤ p + e ∧ (¬ soon ∨ 2000000 ≤ p + e)
            (l.endPassed = true ↔ s.lsc.endPassed = true ∨ raised)
              ∧ (raised → l.sinceCycleEnd = some ((p + e) % 1000000))
              ∧ (¬ raised → l.sinceCycleEnd = s.lsc.sinceCycleEnd.map (· + e)))
        ∧ (s.lsc.position = none →
            l.endPassed = s.lsc.endPassed ∧ l.sinceCycleEnd = s.lsc.sinceCycleEnd.map (· + e)
              ∧ l.ownSlotEntered = false)
        ∧ ∀ p, s.lsc.position = some p →
            let q := (p + e) % 1000000
            let entered := s.lsc.bus = .active ∧ q < s.own * 40000 + e
            l.ownSlotEntered = true ↔ s.own * 40000 ≤ q ∧ q < (s.own + 1) * 40000
              ∧ (s.lsc.ownSlotEntered = true ∨ entered))

/-- A start bit after 1.0 ms of idle line begins a frame and records the slot position; a character of no
frame, its start bit before that, is dropped and restarts the idle count (R2). That the command of a stray
character comes at the end of its stop bit, 200 µs after its start bit, is deduced (log entry 20), and that
an event that does not occur changes nothing is the model's choice (log entry 1). -/
def Obligations.IdleLineBeginsFrames : Prop :=
  ∀ (e : Nat) (s : State),
    let u := s.advance e
    s.loaded = true → u.lsc.rx = none → u.lsc.sending = none →
      (1000 ≤ u.lsc.idle → exec (.frameStartDetected e) s
          = .next { u with lsc := { u.lsc with rx := some ⟨u.lsc.position, 0⟩ } })
      ∧ (u.lsc.idle < 1000 → exec (.frameStartDetected e) s = .next u)
      ∧ (u.lsc.idle < 1200 → exec (.strayCharacter e) s = .next { u with lsc := { u.lsc with idle := 0 } })
      ∧ (1200 ≤ u.lsc.idle → exec (.strayCharacter e) s = .next u)

/-! ### Frames received -/

/-- Which frames are valid and which malformed, test by test with the register of the CRC (R3, R4). A
malformed frame and a misaligned one are counted in their rows, saturating at 65 535, and change nothing
else; a frame that began without a slot position, malformed or a candidate for a window, is discarded
uncounted (R5, R13, R16, R34). That a frame in progress is judged while the station itself sends, too, is the
model's choice (log entry 27). That the idle line stands at 400 µs at a frame's end, or at the count since
DE's release where that is shorter, is deduced (log entry 20). -/
def Obligations.RejectedFramesAreCounted : Prop :=
  (∀ chars : List RxChar,
    let cs := chars.map RxChar.byte
    (∀ n, judgeFrame chars = some (.bulletin n cs) ↔ ValidBulletin chars ∧ n = (cs.getD 3 0).toNat)
      ∧ (judgeFrame chars = some (.order cs) ↔ ValidOrder chars)
      ∧ (judgeFrame chars = none ↔ ¬ ValidBulletin chars ∧ ¬ ValidOrder chars)
      ∧ (∀ n ds, judgeFrame chars = some (.bulletin n ds) → ds = cs)
      ∧ ∀ ds, judgeFrame chars = some (.order ds) → ds = cs)
  ∧ ∀ (e : Nat) (chars : List RxChar) (r : RxFrame) (s : State),
    let u := s.advance e
    let base := { u with lsc := { u.lsc with rx := none, idle := min 400 u.lsc.idle } }
    u.lsc.rx = some r →
      (r.start = none →
          (judgeFrame chars = none ∨ (∃ cs, judgeFrame chars = some (.order cs))
            ∨ ∃ n cs, judgeFrame chars = some (.bulletin n cs) ∧ n ≠ u.own ∧ u.lsc.bus ≠ .listen
                ∧ ¬ (n < u.own ∧ n ≤ u.lsc.anchor)) →
          exec (.frameCompletion e chars) s = .next base)
      ∧ (∀ p, r.start = some p → judgeFrame chars = none →
          ∃ t, exec (.frameCompletion e chars) s = .next t ∧ t = { base with btb := t.btb }
            ∧ t.btb.order = u.btb.order
            ∧ (∀ k, k ≤ 24 → t.btb.misalignedCount k = u.btb.misalignedCount k)
            ∧ (∀ k, k ≤ 24 → t.btb.crcCount k
                = if k = p / 40000 ∧ u.btb.crcCount k < 65535 then u.btb.crcCount k + 1
                  else u.btb.crcCount k)
            ∧ ∀ k, 1 ≤ k → k ≤ 24 →
                t.btb.row k = { u.btb.row k with crcErrors := (t.btb.row k).crcErrors })
      ∧ (∀ p n, r.start = some p → ¬ (n * 40000 + 1000 ≤ p ∧ p ≤ n * 40000 + 5000) →
          ((n = 0 ∧ ∃ cs, judgeFrame chars = some (.order cs))
            ∨ (n ≠ u.own ∧ u.lsc.bus ≠ .listen ∧ ¬ (n < u.own ∧ n ≤ u.lsc.anchor)
                ∧ ∃ cs, judgeFrame chars = some (.bulletin n cs))) →
          ∃ t, exec (.frameCompletion e chars) s = .next t ∧ t = { base with btb := t.btb }
            ∧ t.btb.order = u.btb.order
            ∧ (∀ k, k ≤ 24 → t.btb.crcCount k = u.btb.crcCount k)
            ∧ (∀ k, k ≤ 24 → t.btb.misalignedCount k
                = if k = n ∧ u.btb.misalignedCount k < 65535 then u.btb.misalignedCount k + 1
                  else u.btb.misalignedCount k)
            ∧ ∀ k, 1 ≤ k → k ≤ 24 →
                t.btb.row k = { u.btb.row k with misaligned := (t.btb.row k).misaligned })

/-- An accepted bulletin of station k refreshes row k alone, joins the heard set, and ends isolation; an
anchor frame is accepted whatever its start, and moves the slot position; a pending transmission survives
that jump only where it leaves the position in the own slot ahead of the transmit instant (R6, R8, R12, R13,
R23, R32). That the jump leaves a cycle end still to be taken standing, as R39 lets it be taken after the
arrival, and clears the own-slot mark, is deduced (log entry 3). What is stored is the normalised bulletin of
R27 (its table is in `BulletinSurvivesItsCharacters`). That a frame in progress is judged while the station
itself sends, too, is the model's choice (log entry 27). That a transmission under way goes on across the
jump is the model's choice (log entry 29). That the idle line stands at 400 µs at a frame's end, or at the
count since DE's release where that is shorter, is deduced (log entry 20). -/
def Obligations.AcceptedBulletinRefreshesItsRow : Prop :=
  ∀ (e : Nat) (chars : List RxChar) (r : RxFrame) (k : Nat) (cs : List Byte) (s : State),
    let u := s.advance e
    let base := { u with lsc := { u.lsc with rx := none, idle := min 400 u.lsc.idle } }
    u.lsc.rx = some r → judgeFrame chars = some (.bulletin k cs) → k ≠ u.own → u.lsc.bus ≠ .listen →
    ((k < u.own ∧ k ≤ u.lsc.anchor)
      ∨ ∃ p, r.start = some p ∧ k * 40000 + 1000 ≤ p ∧ p ≤ k * 40000 + 5000) →
      ∃ t, exec (.frameCompletion e chars) s = .next t
        ∧ t = { base with
            btb := { u.btb with rows := t.btb.rows }, aou := t.aou
            lsc := { base.lsc with
              heard := t.lsc.heard, isolation := 0, position := t.lsc.position
              ownSlotEntered := t.lsc.ownSlotEntered, composed := t.lsc.composed } }
        ∧ t.btb.row k = { u.btb.row k with
            live := some (bulletinOf cs), state := .fresh, age := 0, heard := true }
        ∧ (∀ j, 1 ≤ j → j ≤ 24 → j ≠ k → t.btb.row j = u.btb.row j)
        ∧ (∀ a, a ∈ t.lsc.heard ↔ a = k ∨ a ∈ u.lsc.heard)
        ∧ t.aou.live = putAlert u.aou.live .busIsolated false
        ∧ (¬ (k < u.own ∧ k ≤ u.lsc.anchor) →
            t.lsc.position = u.lsc.position ∧ t.lsc.composed = u.lsc.composed
              ∧ t.lsc.ownSlotEntered = u.lsc.ownSlotEntered)
        ∧ (k < u.own ∧ k ≤ u.lsc.anchor →
            let p := (k * 40000 + 2000 + r.elapsed) % 1000000
            t.lsc.position = some p ∧ t.lsc.ownSlotEntered = false
              ∧ t.lsc.composed
                = if u.own * 40000 ≤ p ∧ p < u.own * 40000 + 2000 then u.lsc.composed else none)

/-- In LISTEN a bulletin from any other address ends the listen window, whatever its start position: the
position is set as for an anchor frame, the bulletin is accepted, the isolation count and BUS_ISOLATED are
cleared, and the bus state is JOINING; R8's rule holds for a bulletin held (R8, R12, R17, R23, R32). That a
cycle end still to be taken stands and that the own-slot mark is cleared is deduced (log entry 3). That a
frame in progress is judged while the station itself sends, too, is the model's choice (log entry 27). That a
transmission under way goes on across the jump is the model's choice (log entry 29). That the idle line
stands at 400 µs at a frame's end, or at the count since DE's release where that is shorter, is deduced (log
entry 20). -/
def Obligations.BulletinEndsTheListenWindow : Prop :=
  ∀ (e : Nat) (chars : List RxChar) (r : RxFrame) (k : Nat) (cs : List Byte) (s : State),
    let u := s.advance e
    u.lsc.rx = some r → judgeFrame chars = some (.bulletin k cs) → k ≠ u.own → u.lsc.bus = .listen →
      ∃ t, exec (.frameCompletion e chars) s = .next t
        ∧ (let p := (k * 40000 + 2000 + r.elapsed) % 1000000
          t = { u with
            btb := { u.btb with rows := t.btb.rows }, aou := t.aou
            lsc := { u.lsc with
              bus := .joining, window := none, joinCycleEnds := 0, isolation := 0
              rx := none, idle := min 400 u.lsc.idle, position := some p, ownSlotEntered := false, heard := t.lsc.heard
              composed := if u.own * 40000 ≤ p ∧ p < u.own * 40000 + 2000 then u.lsc.composed else none } })
        ∧ t.aou.live = putAlert u.aou.live .busIsolated false
        ∧ (∀ a, a ∈ t.lsc.heard ↔ a = k ∨ a ∈ u.lsc.heard)
        ∧ t.btb.row k = { u.btb.row k with
            live := some (bulletinOf cs), state := .fresh, age := 0, heard := true }
        ∧ ∀ j, 1 ≤ j → j ≤ 24 → j ≠ k → t.btb.row j = u.btb.row j

/-- An own-address bulletin sends LISTEN, JOINING and ACTIVE to DUPLICATE, with DE released and DUP_ADDRESS
live; in DUPLICATE it is discarded (R22). That the slot position stands, so that a station in LISTEN without
one enters DUPLICATE without one, is deduced (log entry 11). That a frame in progress is judged while the
station itself sends, too, is the model's choice (log entry 27). That the idle line stands at 400 µs at a
frame's end, or at the count since DE's release where that is shorter, and is counted from 0 where this
release of DE ends a transmission, is deduced (log entry 20). -/
def Obligations.OwnAddressBulletinLeadsToDuplicate : Prop :=
  ∀ (e : Nat) (chars : List RxChar) (r : RxFrame) (cs : List Byte) (s : State),
    let u := s.advance e
    let base := { u with lsc := { u.lsc with rx := none, idle := min 400 u.lsc.idle } }
    u.lsc.rx = some r → judgeFrame chars = some (.bulletin u.own cs) →
      (u.lsc.bus = .listen ∨ u.lsc.bus = .joining ∨ u.lsc.bus = .active →
        ∃ t, exec (.frameCompletion e chars) s = .next t
          ∧ t = { base with
              aou := t.aou
              lsc := { base.lsc with
                bus := .duplicate, composed := none, sending := none, collisions := 0, isolation := 0
                idle := if u.lsc.sending = none then min 400 u.lsc.idle else 0
                window := none, ownSlotEntered := false } }
          ∧ t.de = false
          ∧ t.aou.live = putAlert (putAlert u.aou.live .busIsolated false) .dupAddress true
          ∧ hasAlert t.aou.live .dupAddress = true)
      ∧ (u.lsc.bus = .duplicate → exec (.frameCompletion e chars) s = .next base)

/-- An accepted order frame: row 0 keeps it; outside UNADDRESSED it is taken: T_ORD reloaded, PANEL_SILENT
cleared, the settings clamped step by step, the levels and the masks replaced (R35, R161, R162, R163). The
order's items are those that the layout of R160 gives. That a frame in progress is judged while the station
itself sends, too, is the model's choice (log entry 27). That the idle line stands at 400 µs at a frame's
end, or at the count since DE's release where that is shorter, is deduced (log entry 20). -/
def Obligations.OrderFrameIsStoredAndTaken : Prop :=
  (∀ cs : List Byte, (orderOf cs).ReadFrom cs)
  ∧ ∀ (e : Nat) (chars : List RxChar) (r : RxFrame) (p : Nat) (cs : List Byte) (s : State),
    let u := s.advance e
    let base := { u with lsc := { u.lsc with rx := none, idle := min 400 u.lsc.idle } }
    let o := orderOf cs
    u.lsc.rx = some r → r.start = some p → 1000 ≤ p → p ≤ 5000 →
    judgeFrame chars = some (.order cs) →
      (u.lsc.bus = .unaddressed → exec (.frameCompletion e chars) s
          = .next { base with btb := { u.btb with order := some cs } })
      ∧ (u.lsc.bus ≠ .unaddressed →
        ∃ t, exec (.frameCompletion e chars) s = .next t
          ∧ t = { base with
              btb := { u.btb with order := some cs }
              ord := t.ord, fde := t.fde, cfm := t.cfm, fcc := t.fcc, vdr := t.vdr, itb := t.itb
              aou := t.aou }
          ∧ t.timer .ord = { u.timer .ord with
              running := true, prescaler := (u.timerParams .ord).p, main := (u.timerParams .ord).c
              sub := 0 }
          ∧ hasAlert t.aou.live .panelSilent = false
          ∧ t.ord.taken = true
          ∧ (o.valid0 = true → t.ord.setpoint0 = max 50 (min 450 o.setpoint0)
              ∧ t.ord.floor0 = min (max (-100) (min 400 o.floor0)) (t.ord.setpoint0 - 20))
          ∧ (o.valid0 = false → t.ord.setpoint0 = u.ord.setpoint0 ∧ t.ord.floor0 = u.ord.floor0)
          ∧ (o.valid1 = true → t.ord.setpoint1 = max 50 (min 450 o.setpoint1)
              ∧ t.ord.floor1 = min (max (-100) (min 400 o.floor1)) (t.ord.setpoint1 - 20))
          ∧ (o.valid1 = false → t.ord.setpoint1 = u.ord.setpoint1 ∧ t.ord.floor1 = u.ord.floor1)
          ∧ t.ord.withdraw = o.withdraw.getLsbD (u.straps.address.toNat - 1)
          ∧ t.ord.drainedLevel = o.drained.getLsbD (u.straps.address.toNat - 1)
          ∧ t.ord.prevClear = o.clearAlerts ∧ t.ord.prevFanReset = o.fanReset
          ∧ t.ord.prevExercise = o.exercise)

/-- What an order taken does to the role and the drained attribute (the table of R163; R100 to R102), with
the last change of role (R85), the timers of the role left (R93), T_EXER started at a rest (R136), and the
suspension of the frost monitor and its end (R116, R117); and its edges in the order of R164: every fan
channel after the forcing of a changed role, then the fan reset with the counts it sets to 0, then the
exercise; and the clear of the alerts (R133, R134, R139, R168). The valve takes the report of a changed role
or drained attribute at once (R101, R102, R142, R143). The order's items are those of R160. That a channel
set OFF keeps its stall run is the model's choice (log entry 24). That a frame in progress is judged while
the station itself sends, too, is the model's choice (log entry 27). -/
def Obligations.OrderLevelsMoveTheRole : Prop :=
  (∀ cs : List Byte, (orderOf cs).ReadFrom cs)
  ∧ ∀ (e : Nat) (chars : List RxChar) (r : RxFrame) (p : Nat) (cs : List Byte) (s : State),
    let u := s.advance e
    let o := orderOf cs
    let own := fun m : StationMask => m.getLsbD (u.straps.address.toNat - 1)
    u.lsc.rx = some r → r.start = some p → 1000 ≤ p → p ≤ 5000 →
    judgeFrame chars = some (.order cs) → u.lsc.bus ≠ .unaddressed →
      ∃ t, exec (.frameCompletion e chars) s = .next t
        ∧ (let entered := fun (r : Role) (cause : RoleCause) => { u.fde with
            role := r, restAge := 0, rotateDue := false, coldJoin := false
            drained := own o.withdraw && own o.drained, lastChange := some ⟨u.fde.role, r, cause⟩ }
          (own o.withdraw = true → u.fde.role ≠ .withdrawn →
            t.fde = entered .withdrawn .withdraw ∧ ∀ i, (t.fcc.channel i).inHand = false)
          ∧ (own o.withdraw = true → u.fde.role = .withdrawn →
            t.fde = { u.fde with drained := own o.drained })
          ∧ (own o.withdraw = false → u.fde.role = .withdrawn → t.fde = entered
              (if u.cfm.frost = .protect ∨ u.cfm.frost = .recover then .protect else .resting) .restore)
          ∧ (own o.withdraw = false → u.fde.role ≠ .withdrawn → t.fde = u.fde))
        ∧ (let reported := t.fde.role ≠ u.fde.role ∨ t.fde.drained ≠ u.fde.drained
          let drained := t.fde.role = .withdrawn ∧ t.fde.drained = true
          let suspends := reported ∧ drained ∧ u.cfm.suspended = false
          (suspends → t.cfm = { u.cfm with
              frost := .clear, guardPending := false, protectPending := false, suspended := true })
          ∧ (reported → ¬ drained → t.cfm = { u.cfm with suspended := false })
          ∧ (¬ reported ∨ (drained ∧ u.cfm.suspended = true) → t.cfm = u.cfm)
          ∧ (∀ c, c = .frostGuard ∨ c = .frostTrip → hasAlert t.aou.live c
              = if suspends then false else hasAlert u.aou.live c)
          ∧ (∀ id, id = .guard ∨ id = .prot ∨ id = .recov ∨ id = .stag → t.timer id
              = if suspends then { u.timer id with running := false } else u.timer id)
          ∧ RoleTimersLeft u t ∧ t.timer .ice = u.timer .ice
          ∧ t.timer .exer = if u.fde.role ≠ .resting ∧ t.fde.role = .resting
                ∧ (u.timer .exer).running = false then
              { u.timer .exer with
                running := true, prescaler := (u.timerParams .exer).p, main := (u.timerParams .exer).c
                sub := 0 }
            else u.timer .exer)
        ∧ (own o.fanReset = true → own u.ord.prevFanReset = false →
            (∀ i, (t.fcc.channel i).state ≠ .iced) ∧ hasAlert t.aou.live .fanIce = false)
        ∧ (let changed := t.fde.role ≠ u.fde.role
          let stands := t.fde.role = .carrying ∨ t.fde.role = .shedding
          let forced := fun c : FanChannel => changed ∧ ¬ stands ∧ c.inHand = true
            ∧ (t.fde.role = .resting → c.cls = some .duty)
          let afterRole := fun c : FanChannel => if forced c then
              { c with state := .off, cls := none, command := 0, phaseCount := 0, phase := none }
            else c
          let reset := fun c : FanChannel => own o.fanReset = true ∧ own u.ord.prevFanReset = false
            ∧ (c.state = .iced ∨ c.state = .off)
          let afterReset := fun c : FanChannel => if reset c then
              { c with
                state := .off, cls := none, command := 0, retries := 0, deferrals := 0
                iceSuspect := false }
            else c
          let exercised := fun c : FanChannel => own o.exercise = true ∧ own u.ord.prevExercise = false
            ∧ t.fde.role = .resting ∧ c.state = .off
          let afterExercise := fun c : FanChannel => if exercised c then
              (if t.cfm.frost = .clear then { c with state := .queued, cls := some .exercise }
              else { c with
                deferrals := if c.deferrals < 4 then c.deferrals + 1 else c.deferrals
                iceSuspect := c.iceSuspect || 3 ≤ c.deferrals })
            else c
          ∀ i, t.fcc.channel i = afterExercise (afterReset (afterRole (u.fcc.channel i))))
        ∧ (t.fcc.bits = u.fcc.bits ∧ t.fcc.intervals = u.fcc.intervals ∧ t.fcc.tachDue = u.fcc.tachDue)
        ∧ (let reported := t.fde.role ≠ u.fde.role ∨ t.fde.drained ≠ u.fde.drained
          (reported → ReportsCurrent u → u.vdr.allotmentReceived = true → CommandAtReport u t)
            ∧ (¬ reported ∨ u.vdr.allotmentReceived = false → t.vdr.command = u.vdr.command))
        ∧ (own o.clearAlerts = true → own u.ord.prevClear = false →
            ∀ c, hasAlert t.aou.live c = false → hasAlert t.aou.latched c = false)

/-! ### The own slot -/

/-- Own-slot start composes the own bulletin: the latest record or, before the first allotment, INIT with
nothing offered; the latest scan set; the frost state and the latched flags as they stand (R8, R28, R29).
Outside ACTIVE, without an entry into the own slot, or raised already since the last cycle end, it composes
nothing; and no command but a cycle end (or ageing mark) and a reset lets it be raised again (R8). The mark
of the entry is deduced (log entry 3), and that an event that does not occur changes nothing is the model's
choice (log entry 1). -/
def Obligations.OwnSlotStartComposesTheBulletin : Prop :=
  (∀ (e : Nat) (s : State),
    let u := s.advance e
    (u.lsc.bus = .active → u.lsc.ownSlotEntered = true → u.lsc.ownSlotRaised = false →
      ∃ b : Bulletin, exec (.ownSlotStart e) s = .next { u with
          lsc := { u.lsc with
            composed := some (bulletinChars b), ownSlotRaised := true, ownSlotEntered := false } }
        ∧ b.ComposedFrom u)
    ∧ (u.lsc.bus ≠ .active ∨ u.lsc.ownSlotEntered = false ∨ u.lsc.ownSlotRaised = true →
        exec (.ownSlotStart e) s = .next u))
  ∧ ∀ (c : Instr) (s t : State), s.lsc.ownSlotRaised = true → exec c s = .next t →
    (∀ e f, c ≠ .cycleEnd e f) → (∀ e, c ≠ .ageingMark e) → c ≠ .resetAsserted →
      t.lsc.ownSlotRaised = true

/-- The transmit instant sends the composed bulletin: DE is asserted, and TXD carries its characters, each a
start bit at space, eight data bits with the least significant first and a stop bit at mark (R1). Outside
ACTIVE, outside the own slot, ahead of its 2.0 ms, or with nothing composed, nothing is sent (R8, R19). A
busy line there, and a position that has come back other than as it was sent (another character, a framing
error, none in time), are collisions: the first two count, and the third returns the station to LISTEN with a
window of 25 + a + E slots, E from REF's latest code, keeping the position (R16, R20, R21). That the idle
line is counted from 0 where a collision ends a transmission is deduced (log entry 20); that a frame still in
progress at the transmit instant stays so on a line that is not busy (log entry 27), and that an event that
does not occur changes nothing (log entry 1), are the model's choices. -/
def Obligations.TransmissionOrCollision : Prop :=
  ∀ (e : Nat) (cs : List Byte) (returned : List (Option RxChar)) (s : State),
    let u := s.advance e
    let ext := match u.ssc.refRaw with | some c => c.toNat % 8 | none => 0
    let collided := fun l : Lsc =>
      let idle := if l.sending = none then l.idle else 0
      if l.collisions + 1 < 3 then
        { l with sending := none, idle := idle, composed := none, collisions := l.collisions + 1 }
      else
        { l with
          sending := none, idle := idle, composed := none, collisions := 0, bus := .listen, extension := ext
          window := some ((25 + u.own + ext) * 40000) }
    (∀ p, u.lsc.bus = .active → u.lsc.composed = some cs → u.lsc.position = some p →
        u.own * 40000 + 2000 ≤ p → p < (u.own + 1) * 40000 →
          (∃ t, exec (.transmitInstant e false) s = .next t
            ∧ t = { u with lsc := { u.lsc with sending := some cs, composed := none } }
            ∧ t.de = true
            ∧ (∀ i c, cs[i]? = some c → t.txd (10 * i) = false ∧ t.txd (10 * i + 9) = true
                ∧ ∀ j < 8, t.txd (10 * i + 1 + j) = c.getLsbD j)
            ∧ ∀ n, 10 * cs.length ≤ n → t.txd n = true)
            ∧ exec (.transmitInstant e true) s = .next { u with lsc := collided u.lsc })
    ∧ (u.lsc.bus ≠ .active ∨ u.lsc.composed = none ∨ (∀ p, u.lsc.position = some p →
          p < u.own * 40000 + 2000 ∨ (u.own + 1) * 40000 ≤ p) →
        ∀ busy, exec (.transmitInstant e busy) s = .next u)
    ∧ (u.lsc.sending = some cs →
        ((∃ (i : Nat) (c : Byte) (x : Option RxChar), cs[i]? = some c ∧ returned[i]? = some x
            ∧ x ≠ some (⟨c, false⟩ : RxChar)) →
          exec (.transmitReadbackMismatch ⟨e, returned⟩) s = .next { u with lsc := collided u.lsc })
        ∧ ((∀ (i : Nat) (c : Byte) (x : Option RxChar), cs[i]? = some c → returned[i]? = some x →
            x = some (⟨c, false⟩ : RxChar)) →
          exec (.transmitReadbackMismatch ⟨e, returned⟩) s = .next u))

/-- A transmission of which every character has come back equal is clean: it releases DE, sets the collision
count to 0 and stores the bulletin as sent in the own row (R20, R21, R30, R33). That the idle line of R2 is
counted from 0 after it is deduced (log entry 20), and that otherwise nothing changes is the model's choice
(log entry 1). -/
def Obligations.CleanTransmissionStoresTheOwnRow : Prop :=
  ∀ (e : Nat) (cs : List Byte) (returned : List (Option RxChar)) (s : State),
    let u := s.advance e
    let echo := cs.map fun c => some (⟨c, false⟩ : RxChar)
    u.lsc.sending = some cs → 1 ≤ u.straps.address.toNat → u.straps.address.toNat ≤ 24 →
      (returned ≠ echo → exec (.cleanTransmission ⟨e, returned⟩) s = .next u)
      ∧ ∃ t, exec (.cleanTransmission ⟨e, echo⟩) s = .next t
        ∧ t = { u with
            btb := { u.btb with rows := t.btb.rows }
            lsc := { u.lsc with sending := none, collisions := 0, idle := 0 } }
        ∧ t.btb.row u.straps.address.toNat = { u.btb.row u.straps.address.toNat with
            live := some (bulletinOf cs), state := .fresh, age := 0, heard := true }
        ∧ (∀ j, 1 ≤ j → j ≤ 24 → j ≠ u.straps.address.toNat → t.btb.row j = u.btb.row j)
        ∧ t.de = false ∧ ∀ n, t.txd n = true

/-- A listen window that runs out puts the position at the own slot's start, enters ACTIVE, and raises
own-slot start at once, which composes the own bulletin from the table of R28 (R16, R28, R29). -/
def Obligations.SilentListenWindowEntersActive : Prop :=
  ∀ (e : Nat) (s : State),
    let u := s.advance e
    u.lsc.bus = .listen → u.lsc.window = some 0 →
      ∃ b : Bulletin, exec (.listenWindowEndInSilence e) s = .next { u with
          lsc := { u.lsc with
            bus := .active, window := none, position := some (u.own * 40000)
            ownSlotEntered := false, ownSlotRaised := true, composed := some (bulletinChars b) } }
        ∧ b.ComposedFrom u

/-! ### Cycle end -/

/-- A cycle end ages each row whose heard mark is clear by the table of R36, snapshots every row as aged
and clears the marks (R36, R38). -/
def Obligations.CycleEndAgesAndSnapshotsTheRows : Prop :=
  ∀ (e : Nat) (cadenceFirst : Bool) (s : State),
    let u := s.advance e
    u.lsc.bus ≠ .unaddressed → u.lsc.endPassed = true →
      ∃ t, exec (.cycleEnd e cadenceFirst) s = .next t
        ∧ t.btb = { u.btb with rows := t.btb.rows }
        ∧ ∀ k, 1 ≤ k → k ≤ 24 →
          let r := u.btb.row k
          let r' := t.btb.row k
          (r.heard = true → r' = { r with
              snapCopy := r.live, snapState := r.state, snapAge := r.age, heard := false })
          ∧ (r.heard = false → r.state = .fresh → r' = { r with
              state := .held, age := 1, snapCopy := r.live, snapState := .held, snapAge := 1 })
          ∧ (r.heard = false → r.state = .held → r.age < u.params.holdLimit → r' = { r with
              age := r.age + 1, snapCopy := r.live, snapState := .held, snapAge := r.age + 1 })
          ∧ (r.heard = false → r.state = .held → u.params.holdLimit ≤ r.age →
              r' = ⟨none, none, .absent, 0, .absent, 0, false, r.crcErrors, r.misaligned⟩)
          ∧ (r.heard = false → r.state = .absent → r' = { r with
              snapCopy := r.live, snapState := .absent, snapAge := r.age })

/-- A cycle end in the LSC, the timers, the travel check and the Alert Output: the anchor, the heard set,
the isolation count, JOINING, one count of every timer, one of the cadence by the table of R171, and the
ALERT pin; the FDE latches its inputs with the bus state from before (R9, R11, R18, R23, R63, R146, R155,
R170, R171). Which of the cadence's count and the beginning of BUS_ISOLATED is taken first is the
command's operand, kept for the events that come with the cycle end (log entry 4). -/
def Obligations.CycleEndCountsAndLatches : Prop :=
  ∀ (e : Nat) (cadenceFirst : Bool) (s : State),
    let u := s.advance e
    u.lsc.bus ≠ .unaddressed → u.lsc.endPassed = true →
      let p := u.params
      let counted := fun a : Aou => match a.cadence with
        | .idle => a
        | .report => if 0 < p.spaceInterval ∧ p.reportInterval ≤ a.count + 1 then
            { a with cadence := .space, count := 0, line := false }
          else { a with count := if a.count < p.reportInterval then a.count + 1 else a.count }
        | .space => if p.spaceInterval ≤ a.count + 1 then
            { a with cadence := .report, count := 0, line := true }
          else { a with count := a.count + 1 }
      ∃ t l, exec (.cycleEnd e cadenceFirst) s = .next t
        ∧ t = { u with
            btb := t.btb, itb := t.itb, vdr := t.vdr, aou := t.aou, cadenceFirst := cadenceFirst
            fde := { u.fde with latched := some l }
            lsc := { u.lsc with
              endPassed := false, ownSlotRaised := false, heard := []
              anchor := t.lsc.anchor, isolation := t.lsc.isolation, bus := t.lsc.bus
              joinCycleEnds := t.lsc.joinCycleEnds } }
        ∧ (t.lsc.anchor = u.own ∨ t.lsc.anchor ∈ u.lsc.heard) ∧ t.lsc.anchor ≤ u.own
        ∧ (∀ a, a ∈ u.lsc.heard → t.lsc.anchor ≤ a)
        ∧ (u.lsc.bus = .active → (∀ a, a ∈ u.lsc.heard → a = u.own) →
            t.lsc.isolation = if u.lsc.isolation < 10 then u.lsc.isolation + 1 else u.lsc.isolation)
        ∧ (u.lsc.bus ≠ .active ∨ (∃ a, a ∈ u.lsc.heard ∧ a ≠ u.own) →
            t.lsc.isolation = u.lsc.isolation)
        ∧ t.aou.live = (if u.lsc.bus = .active ∧ t.lsc.isolation = 10 then
            putAlert u.aou.live .busIsolated true else u.aou.live)
        ∧ (t.aou.live = u.aou.live → t.aou = counted u.aou)
        ∧ (t.aou.live ≠ u.aou.live →
            let qualifies := ∃ c, hasAlert u.enables c = true ∧
              (if hasAlert p.selects c then hasAlert t.aou.latched c else hasAlert t.aou.live c) = true
            let kept := fun a : Aou => { a with live := t.aou.live, latched := t.aou.latched }
            let begun := kept { u.aou with cadence := .report, count := 0, line := true }
            t.aou.latched = u.aou.latched ||| t.aou.live
              ∧ (u.aou.cadence = .idle → ¬ qualifies → t.aou = kept u.aou)
              ∧ (u.aou.cadence = .idle → qualifies → t.aou = if cadenceFirst then begun else counted begun)
              ∧ (u.aou.cadence ≠ .idle → qualifies → t.aou = kept (counted u.aou))
              ∧ (u.aou.cadence ≠ .idle → ¬ qualifies →
                  t.aou = kept { u.aou with cadence := .idle, count := 0, line := false }))
        ∧ (t.alertLow = true ↔ u.loaded = true ∧ (t.aou.line = true ↔ p.assertedReleased = false))
        ∧ (u.lsc.bus = .joining → u.lsc.joinCycleEnds = 0 → t.lsc.bus = .joining ∧ t.lsc.joinCycleEnds = 1)
        ∧ (u.lsc.bus = .joining → u.lsc.joinCycleEnds = 1 → t.lsc.bus = .active)
        ∧ (u.lsc.bus ≠ .joining →
            t.lsc.bus = u.lsc.bus ∧ t.lsc.joinCycleEnds = u.lsc.joinCycleEnds)
        ∧ (∀ id, t.timer id = Timer.count id.minute (u.timerParams id) (u.timer id))
        ∧ (u.vdr.check ≠ .timing → t.vdr = u.vdr)
        ∧ (u.vdr.check = .timing → t.vdr = { u.vdr with
            travelCount := if u.vdr.travelCount < u.params.travelTime then u.vdr.travelCount + 1
              else u.vdr.travelCount })
        ∧ l.bus = u.lsc.bus ∧ l.role = u.fde.role ∧ l.scan = u.ssc.scanSet ∧ l.q = u.vdr.q
        ∧ l.nAvail = u.fcc.nAvail ∧ l.runningCount = u.fcc.runOrder.length
        ∧ l.anyTurning = u.fcc.anyTurning
        ∧ l.tSet = (if u.straps.loop then u.ord.setpoint1 else u.ord.setpoint0)
        ∧ l.tFloor = (if u.straps.loop then u.ord.floor1 else u.ord.floor0)
        ∧ (l.valveAtMin = true ↔ u.vdr.command = minOpening u.params u.vdr.frost)

/-- The ageing mark of R10, in place of the cycle end in UNADDRESSED: raised by each passing of the end of
slot 24 at least 500.0 ms after the one before; the BTB ages its rows as R36 states without a snapshot, the
LSC recomputes the anchor and empties the heard set, and no other block receives it. A passing that comes
sooner is skipped, as R9 says of a cycle end. The mark `endPassed` is deduced (log entry 3), and that an
event that does not occur changes nothing is the model's choice (log entry 1). -/
def Obligations.AgeingMarkReachesOnlyTheTableAndTheAnchor : Prop :=
  ∀ (e : Nat) (s : State),
    let u := s.advance e
    (∀ p, s.loaded = true → s.lsc.endPassed = false → s.lsc.position = some p → p + e < 2000000 →
        (u.lsc.endPassed = true
          ↔ 1000000 ≤ p + e ∧ ∀ x, s.lsc.sinceCycleEnd = some x → 500000 ≤ x + (1000000 - p)))
      ∧ (u.lsc.bus = .unaddressed → ∀ f, exec (.cycleEnd e f) s = .next u)
      ∧ (u.lsc.bus ≠ .unaddressed ∨ u.lsc.endPassed = false → exec (.ageingMark e) s = .next u)
      ∧ (u.lsc.bus = .unaddressed → u.lsc.endPassed = true →
        ∃ t, exec (.ageingMark e) s = .next t
          ∧ t = { u with
              btb := { u.btb with rows := t.btb.rows }
              lsc := { u.lsc with
                endPassed := false, ownSlotRaised := false, heard := []
                anchor := t.lsc.anchor } }
          ∧ (t.lsc.anchor = u.own ∨ t.lsc.anchor ∈ u.lsc.heard) ∧ t.lsc.anchor ≤ u.own
          ∧ (∀ a, a ∈ u.lsc.heard → t.lsc.anchor ≤ a)
          ∧ ∀ k, 1 ≤ k → k ≤ 24 →
            let r := u.btb.row k
            let r' := t.btb.row k
            (r.heard = true → r' = { r with heard := false })
            ∧ (r.heard = false → r.state = .fresh → r' = { r with state := .held, age := 1 })
            ∧ (r.heard = false → r.state = .held → r.age < u.params.holdLimit →
                r' = { r with age := r.age + 1 })
            ∧ (r.heard = false → r.state = .held → u.params.holdLimit ≤ r.age →
                r' = ⟨none, none, .absent, 0, .absent, 0, false, r.crcErrors, r.misaligned⟩)
            ∧ (r.heard = false → r.state = .absent → r' = r))

/-! ### Scanning -/

/-- The end of a conversion period stores the code of the channel next in the scan (R44, R46). -/
def Obligations.ConversionStoresTheRawCode : Prop :=
  ∀ (code : BitVec 12) (s : State), s.loaded = true →
    (∀ k : Fin 7, s.ssc.nextChannel = k.val →
      ∃ t, exec (.channelConversion k.castSucc code) s = .next t
        ∧ t = { s with ssc := { s.ssc with channels := t.ssc.channels, nextChannel := k.val + 1 } }
        ∧ t.ssc.channels[k] = { s.ssc.channels[k] with raw := some code }
        ∧ ∀ j : Fin 7, j ≠ k → t.ssc.channels[j] = s.ssc.channels[j])
    ∧ (s.ssc.nextChannel = 7 →
      exec (.channelConversion 7 code) s
        = .next { s with ssc := { s.ssc with refRaw := some code, nextChannel := 8 } })

/-- The work of a scan completion on a measurement channel: conversion, then by the fault flag, the raw
code and the health, and what the scan set publishes of it; and REF, whose value is its raw code, with its
own comparator and the health of the fault flag (R47 to R49, R51 to R59, R61). -/
def Obligations.ScanCompletionJudgesEveryChannel : Prop :=
  ∀ (valveFirst : Bool) (s : State), s.loaded = true → s.ssc.nextChannel = 8 →
    ∃ t set, exec (.scanCompletion valveFirst) s = .next t ∧ t.ssc.scanSet = some set
      ∧ t = { s with
          ssc := t.ssc, cfm := t.cfm, fde := t.fde, fcc := t.fcc, vdr := t.vdr, itb := t.itb
          aou := t.aou }
      ∧ t.ssc.nextChannel = 0 ∧ set.fault = t.ssc.fault
      ∧ (hasAlert t.aou.live .sensorFail = true ↔ ∃ i : Fin 7, t.ssc.channels[i].failed = true)
      ∧ hasAlert t.aou.live .converterFault = t.ssc.fault
      ∧ (let code := (s.ssc.refRaw.getD 0).toNat
        let place : Comparator := if code < 1950 then .below else if 2146 < code then .above else .inside
        t.ssc.refRaw = s.ssc.refRaw ∧ t.ssc.refValue = some code ∧ t.ssc.refComparator = place
          ∧ set.channels[7] = ⟨code, !t.ssc.fault, place⟩)
      ∧ ∀ i : Fin 7,
        let c := s.ssc.channels[i]
        let c' := t.ssc.channels[i]
        let p := s.params.channels[i]
        let code := (c.raw.getD 0).toNat
        let range : Int × Int :=
          if i.val ≤ 4 then (-600, 900) else if i.val = 5 then (0, 2000) else (0, 1000)
        let x := max range.1 (min range.2 (p.offset + Int.fdiv (code * p.span + 2048) 4096))
        let good := 16 ≤ code ∧ code ≤ 4079
        let high := if p.high < p.low then p.low else p.high
        let settled := fun y : Int => { c with
          x := some x, y := some y, failed := false
          comparator := compare p.low high p.hysteresis c.comparator y }
        (t.ssc.fault = true → c' = { c with x := some x })
        ∧ (t.ssc.fault = false → good → c.failed = false →
            (∀ y, c.y = some y → c' = { settled (y + filterStep p.shift x y) with faultRun := 0 })
            ∧ (c.y = none → c' = { settled x with faultRun := 0 }))
        ∧ (t.ssc.fault = false → good → c.failed = true →
            (c.goodRun < 7 → c' = { c with x := some x, goodRun := c.goodRun + 1 })
            ∧ (c.goodRun = 7 → c' = { settled x with goodRun := 0 }))
        ∧ (t.ssc.fault = false → ¬ good → c.failed = false →
            (c.faultRun < 2 → c' = { c with x := some x, faultRun := c.faultRun + 1 })
            ∧ (c.faultRun = 2 → c' = { c with x := some x, failed := true, faultRun := 0 }))
        ∧ (t.ssc.fault = false → ¬ good → c.failed = true →
            c' = { c with x := some x, goodRun := 0 })
        ∧ set.channels[i.castSucc] = ⟨c'.y.getD 0, !(c'.failed || t.ssc.fault || c'.y.isNone),
            c'.comparator⟩

/-- The reference check of R50: a code from 1950 to 2146 is good; the flag is set at the third of three
consecutive bad codes and cleared at the eighth of eight consecutive good ones, and every change of the
runs is as R50 says. -/
def Obligations.ReferenceCheckSetsAndClearsTheFaultFlag : Prop :=
  ∀ (valveFirst : Bool) (s : State), s.loaded = true → s.ssc.nextChannel = 8 →
    ∃ t, exec (.scanCompletion valveFirst) s = .next t ∧
      let code := (s.ssc.refRaw.getD 0).toNat
      let good := 1950 ≤ code ∧ code ≤ 2146
      (s.ssc.fault = false → good →
          t.ssc.fault = false ∧ t.ssc.badRun = 0 ∧ t.ssc.refGoodRun = s.ssc.refGoodRun)
      ∧ (s.ssc.fault = false → ¬ good → s.ssc.badRun < 2 →
          t.ssc.fault = false ∧ t.ssc.badRun = s.ssc.badRun + 1 ∧ t.ssc.refGoodRun = s.ssc.refGoodRun)
      ∧ (s.ssc.fault = false → ¬ good → s.ssc.badRun = 2 →
          t.ssc.fault = true ∧ t.ssc.badRun = 0 ∧ t.ssc.refGoodRun = 0)
      ∧ (s.ssc.fault = true → ¬ good →
          t.ssc.fault = true ∧ t.ssc.refGoodRun = 0 ∧ t.ssc.badRun = s.ssc.badRun)
      ∧ (s.ssc.fault = true → good → s.ssc.refGoodRun < 7 →
          t.ssc.fault = true ∧ t.ssc.refGoodRun = s.ssc.refGoodRun + 1 ∧ t.ssc.badRun = s.ssc.badRun)
      ∧ (s.ssc.fault = true → good → s.ssc.refGoodRun = 7 →
          t.ssc.fault = false ∧ t.ssc.refGoodRun = 0 ∧ t.ssc.badRun = s.ssc.badRun)

/-- The filter of R56: a good reading on an OK, seeded channel moves y by the step, whose sign is that of
x − y and whose size is the stated floor; the new y lies between the old y and x, and the step is 0 only
when |x − y| is less than 2^(f − 1). -/
def Obligations.FilterStepsTowardTheReading : Prop :=
  (∀ (p : ChannelParams) (c : Channel) (x y : Int), c.failed = false → c.y = some y →
      (c.good p x).y = some (y + filterStep p.shift x y))
  ∧ ∀ (f : Nat) (x y : Int),
      (filterStep f x y).natAbs = (2 * (x - y).natAbs + 2 ^ f) / 2 ^ (f + 1)
      ∧ (y ≤ x → y ≤ y + filterStep f x y ∧ y + filterStep f x y ≤ x)
      ∧ (x ≤ y → x ≤ y + filterStep f x y ∧ y + filterStep f x y ≤ y)
      ∧ (filterStep f x y = 0 ↔ 2 * (x - y).natAbs < 2 ^ f)

/-- One evaluation of a window comparator is the table of R57, its nine rows; with L ≤ H it ends in a state
from which a second one on the same value would not move it, and the state says where the value lies (R48,
R57). -/
def Obligations.ComparatorSettlesInOneEvaluation : Prop :=
  (∀ (low high y hyst : Int), low ≤ high →
    (y < low → compare low high hyst .inside y = .below)
    ∧ (high < y → compare low high hyst .inside y = .above)
    ∧ (low ≤ y → y ≤ high → compare low high hyst .inside y = .inside)
    ∧ (y < low + hyst → compare low high hyst .below y = .below)
    ∧ (low + hyst ≤ y → high < y → compare low high hyst .below y = .above)
    ∧ (low + hyst ≤ y → y ≤ high → compare low high hyst .below y = .inside)
    ∧ (high - hyst < y → compare low high hyst .above y = .above)
    ∧ (y ≤ high - hyst → y < low → compare low high hyst .above y = .below)
    ∧ (y ≤ high - hyst → low ≤ y → compare low high hyst .above y = .inside))
  ∧ ∀ (low high y : Int) (hyst : Nat) (c : Comparator), low ≤ high →
    compare low high hyst (compare low high hyst c y) y = compare low high hyst c y
      ∧ (compare low high hyst c y = .inside → low ≤ y ∧ y ≤ high)
      ∧ (y < low → compare low high hyst c y ≠ .inside)
      ∧ (hyst = 0 → (compare low high hyst c y = .below ↔ y < low)
          ∧ (compare low high hyst c y = .above ↔ high < y))

/-- The frost monitor at a scan completion (R105 to R107, R109 to R112): the trips with their causes, T_PROT
started, T_GUARD and T_RECOV stopped, the release-pending marks cleared and the role left with its timers and
its last change (R85, R93, R98), the entry to GUARD, its retrigger and release, the entry to RECOVER, the
flow watch on VF or, while it is FAILED, on the valve command; FROST_GUARD and FROST_TRIP at each change of
the state, and the command that the valve takes at once (R113, R114, R142, R143); suspended, it evaluates
nothing (R116). -/
def Obligations.ScanCompletionMovesTheFrostState : Prop :=
  ∀ (valveFirst : Bool) (s : State), s.loaded = true → s.ssc.nextChannel = 8 →
    ∃ t set, exec (.scanCompletion valveFirst) s = .next t ∧ t.ssc.scanSet = some set ∧
      let surface := (if set.tsl.comparator = .below then [TripCause.lowerSurface] else [])
        ++ (if set.tsu.comparator = .below then [TripCause.upperSurface] else [])
      let causes := surface ++ (if set.dp.comparator = .above then [TripCause.pressure] else [])
      let tripped := fun cs : List TripCause => EntersProtect cs s t
      let back := fun c : Published => c.ok = true ∧ c.comparator ≠ .below
      let flow : Int := if set.vf.ok then set.vf.value else t.vdr.command
      let loaded := { s.timer .stag with
        running := true, prescaler := (s.timerParams .stag).p, main := (s.timerParams .stag).c, sub := 0 }
      RoleTimersLeft s t ∧ (∀ id, id = .exer ∨ id = .ice ∨ id = .ord → t.timer id = s.timer id)
      ∧ (s.cfm.suspended = true → t.cfm = s.cfm ∧ t.fde = s.fde ∧ t.itb = s.itb)
      ∧ (t.cfm.frost = s.cfm.frost → hasAlert t.aou.live .frostGuard = hasAlert s.aou.live .frostGuard
          ∧ hasAlert t.aou.live .frostTrip = hasAlert s.aou.live .frostTrip)
      ∧ (t.cfm.frost ≠ s.cfm.frost →
          (hasAlert t.aou.live .frostGuard = true ↔ t.cfm.frost = .guard)
          ∧ (hasAlert t.aou.live .frostTrip = true ↔ t.cfm.frost = .protect ∨ t.cfm.frost = .recover))
      ∧ (t.cfm.frost = s.cfm.frost ∨ s.vdr.allotmentReceived = false → t.vdr.command = s.vdr.command)
      ∧ (t.cfm.frost ≠ s.cfm.frost → ReportsCurrent s → s.vdr.allotmentReceived = true →
          CommandAtReport s t)
      ∧ (s.cfm.suspended = false →
        (s.cfm.frost = .clear → surface ≠ [] → tripped surface)
        ∧ (s.cfm.frost = .clear → surface = [] → (set.to.ok = false ∨ set.to.comparator = .below) →
            t.cfm.frost = .guard ∧ t.cfm.guardPending = false ∧ (t.timer .guard).running = true
              ∧ t.fde = s.fde)
        ∧ (s.cfm.frost = .clear → surface = [] → set.to.ok = true → set.to.comparator ≠ .below →
            t.cfm = s.cfm ∧ t.fde = s.fde)
        ∧ (s.cfm.frost = .guard ∨ s.cfm.frost = .recover → causes ≠ [] → tripped causes)
        ∧ (s.cfm.frost = .guard → causes = [] → set.to.comparator = .below →
            t.cfm = { s.cfm with guardPending := false }
              ∧ t.timer .guard = { s.timer .guard with
                  running := true, prescaler := (s.timerParams .guard).p
                  main := (s.timerParams .guard).c, sub := 0 })
        ∧ (s.cfm.frost = .guard → causes = [] → s.cfm.guardPending = true → back set.to →
            t.cfm.frost = .clear ∧ t.cfm.guardPending = false ∧ (t.timer .guard).running = false)
        ∧ (s.cfm.frost = .guard → causes = [] → set.to.comparator ≠ .below →
            (s.cfm.guardPending = false ∨ set.to.ok = false) → t.cfm = s.cfm)
        ∧ (s.cfm.frost = .protect → s.cfm.protectPending = true → back set.to → back set.tsl →
            back set.tsu → t.cfm.frost = .recover ∧ t.cfm.protectPending = false
              ∧ (t.timer .recov).running = true)
        ∧ (s.cfm.frost = .protect → (s.cfm.protectPending = false ∨ ¬ back set.to ∨ ¬ back set.tsl
            ∨ ¬ back set.tsu) → t.cfm = s.cfm)
        ∧ (s.cfm.frost = .recover → causes = [] → t.cfm = s.cfm)
        ∧ ((s.params.stagnationOpening : Int) ≤ flow → t.timer .stag = loaded)
        ∧ (flow < (s.params.stagnationOpening : Int) →
            ((s.timer .stag).running = true → t.timer .stag = s.timer .stag)
            ∧ ((s.timer .stag).running = false → t.timer .stag = loaded)))

/-- The valve drive at a scan completion: q = floor(F × Kq / 1000) from VF or, when it is FAILED, the
command; the travel check arrives, goes on or is suspended, and at a change of the command by the same scan
it tests the old command and restarts or restarts and tests the new one; VALVE_STUCK follows stuck (R146 to
R149). Which of the two comes first is the command's operand (log entry 4), and that the travel count stands
at IDLE is the model's choice (log entry 24). -/
def Obligations.ScanCompletionChecksTheValve : Prop :=
  ∀ (valveFirst : Bool) (s : State), s.loaded = true → s.ssc.nextChannel = 8 →
    ∃ t set, exec (.scanCompletion valveFirst) s = .next t ∧ t.ssc.scanSet = some set
      ∧ hasAlert t.aou.live .valveStuck = t.vdr.stuck
      ∧ (set.vf.ok = true → t.vdr.q = set.vf.value.toNat * s.params.flowClass / 1000 ∧ t.vdr.fromVF = true)
      ∧ (set.vf.ok = false → t.vdr.q = t.vdr.command * s.params.flowClass / 1000 ∧ t.vdr.fromVF = false
          ∧ t.vdr.check = .suspended ∧ t.vdr.travelCount = 0 ∧ t.vdr.stuck = false)
      ∧ (let seen := fun v : Vdr => (v.check, v.travelCount, v.stuck)
        let timed := fun v : Vdr => { v with check := .timing, travelCount := 0 }
        let restarted := fun v : Vdr => if v.check = .suspended then v else timed v
        let tested := fun v : Vdr =>
          let v := if v.check = .suspended then timed v else v
          if (set.vf.value - v.command).natAbs ≤ 50 then { v with check := .idle, stuck := false } else v
        set.vf.ok = true →
          (t.vdr.command = s.vdr.command → seen t.vdr = seen (tested s.vdr))
          ∧ (t.vdr.command ≠ s.vdr.command → valveFirst = true →
              seen t.vdr = seen (restarted (tested s.vdr)))
          ∧ (t.vdr.command ≠ s.vdr.command → valveFirst = false →
              seen t.vdr = seen (tested (restarted { s.vdr with command := t.vdr.command }))))

/-! ### The field duty computation -/

/-- An allotment issued is one whole record: what stage 10 left of the role, the results of the stages, the
latched weight and count. Nothing outside the FDE, the fans, the valve, four timers and the alerts changes
(R64, R71, R76, R79, R80). That without a computation in progress nothing happens, and that the counter of
the free values advances, are the model's choices (log entries 1, 12). -/
def Obligations.AllotmentIsOneRecord : Prop :=
  ∀ (valveFirst : Bool) (s : State),
    (s.fde.latched = none → exec (.allotmentIssued valveFirst) s = .next s)
    ∧ ∀ l, s.fde.latched = some l →
      ∃ t a, exec (.allotmentIssued valveFirst) s = .next t ∧ t.fde.allotment = some a
        ∧ t = { s with
            fde := t.fde, fcc := t.fcc, vdr := t.vdr, itb := t.itb, aou := t.aou
            freeCount := s.freeCount + 1 }
        ∧ t.fde.latched = none
        ∧ (a.role = t.fde.role ∧ a.rotateDue = t.fde.rotateDue ∧ a.coldJoin = t.fde.coldJoin
            ∧ a.drained = t.fde.drained ∧ a.restAge = t.fde.restAge)
        ∧ (a.d = t.fde.d ∧ a.dValid = true ∧ t.fde.dValid = true ∧ a.tMix = t.fde.tMix
            ∧ a.h = t.fde.floorCeiling)
        ∧ a.q = l.q ∧ a.nAvail = l.nAvail
        ∧ (t.vdr.role = a.role ∧ t.vdr.drained = a.drained ∧ t.vdr.allotmentReceived = true)
        ∧ ∀ id, id ≠ .rot → id ≠ .warm → id ≠ .shed → id ≠ .exer → t.timer id = s.timer id

/-- Stages 1 to 5: Q, N and the mix, the consensus, the step with its deadband, gain and slew, D_cap and
the new field duty (R67 to R71). The divisions are stated by their bounds. That the eligible count among
the figures of R84 is taken with the latched role is deduced (log entry 18). -/
def Obligations.FieldDutyFollowsTheSnapshot : Prop :=
  ∀ (valveFirst : Bool) (l : Latched) (s : State), s.fde.latched = some l →
    ∃ t a g, exec (.allotmentIssued valveFirst) s = .next t ∧ t.fde.allotment = some a
      ∧ t.fde.figures = some g ∧
      let carries := fun r : Role => [Role.resting, .warming, .carrying, .shedding].contains r
      let offered := (s.fde.allotment.map Allotment.h).getD 0
      let outlet := ownOutlet l.scan
      let heard := s.peers.filter Member.outletValid
      let q := (if outlet.isSome then l.q else 0) + (heard.map Member.q).sum
      let n : Int := (l.q : Int) * outlet.getD 0 + (heard.map fun m => (m.q : Int) * m.outlet).sum
      let ds := (if s.fde.dValid then [s.fde.d] else [])
        ++ (s.peers.filter Member.dValid).map Member.d
      let able := s.peers.filter fun m => carries m.role && 0 < m.h
      let db : Int := s.params.deadband
      g.members = s.peers.length + 1 ∧ g.qSum = q ∧ g.n = n
        ∧ (0 < q → a.noBasis = false
            ∧ ∃ x, a.tMix = some x ∧ 2 * q * x ≤ 2 * n + q ∧ 2 * n + q < 2 * q * (x + 1))
        ∧ (q = 0 → a.noBasis = true ∧ a.tMix = s.fde.tMix)
        ∧ (ds ≠ [] → 2 * ds.length * g.dAvg ≤ 2 * ds.sum + ds.length
            ∧ 2 * ds.sum + ds.length < 2 * ds.length * (g.dAvg + 1))
        ∧ (ds = [] → g.dAvg = s.fde.d)
        ∧ (a.noBasis = true ∨ a.tMix = none → g.step = 0)
        ∧ (∀ x, a.tMix = some x → g.e = x - l.tSet
            ∧ (a.noBasis = false →
              (g.e.natAbs ≤ s.params.deadband → g.step = 0)
              ∧ (db < g.e → g.step = min ↑s.params.slew ((g.e - db) * s.params.gain / 16))
              ∧ (g.e < -db → g.step = -min ↑s.params.slew ((-g.e - db) * s.params.gain / 16))))
        ∧ g.dCap = (if l.bus = .active ∧ carries l.role = true then offered else 0)
            + (able.map Member.h).sum
        ∧ g.eligible = able.length
            + (if l.bus = .active ∧ carries l.role = true ∧ 0 < offered then 1 else 0)
        ∧ (a.d : Int) = max 0 (min ↑g.dCap (g.dAvg + g.step))

/-- Stages 6 to 8: the rank, C_before with the make-before-break lending, the share, the capacity and the
floor ceiling, on the own role and flags as they stand at issue (R65, R67, R72 to R76). -/
def Obligations.OwnShareAndCeilingFollowTheRank : Prop :=
  ∀ (valveFirst : Bool) (l : Latched) (s : State), s.fde.latched = some l →
    ∃ t a g, exec (.allotmentIssued valveFirst) s = .next t ∧ t.fde.allotment = some a
      ∧ t.fde.figures = some g ∧
      let carries := fun r : Role => [Role.resting, .warming, .carrying, .shedding].contains r
      let offered := (s.fde.allotment.map Allotment.h).getD 0
      let own := s.fde.ownMember s.straps.address.toNat
      let ahead := s.peers.filter fun m => carries m.role && 0 < m.h && m.before own
      let cold := fun m : Member => m.role = .resting ∨ m.role = .warming
        ∨ (m.role = .carrying ∧ m.coldJoin = true)
      let lent := fun m : Member => if own.tier = 3 ∧ cold m then 0 else m.h
      let eligible := l.bus = .active ∧ carries s.fde.role = true ∧ 0 < offered
      let c := 256 * l.nAvail / s.params.nFit
      let f := min s.fde.floorCeiling c
      (eligible → g.tier = own.tier ∧ g.position = ahead.length + 1 ∧ g.cBefore = (ahead.map lent).sum
          ∧ g.share = min offered (a.d - g.cBefore))
        ∧ (¬ eligible → g.share = 0)
        ∧ a.share = min g.share a.h ∧ a.h ≤ c ∧ (a.floorLimited = true ↔ a.h < c)
        ∧ (s.fde.role ≠ .carrying → a.h = c)
        ∧ (s.fde.role = .carrying → ownOutlet l.scan = none → a.h = f)
        ∧ ∀ x, s.fde.role = .carrying → ownOutlet l.scan = some x →
            (x < l.tFloor → a.h = f - s.params.floorStep)
            ∧ (l.tFloor ≤ x → x < l.tFloor + 10 → a.h = f)
            ∧ (l.tFloor + 10 ≤ x → a.h = min c (f + s.params.floorStep))

/-- Stage 9 for every role (R77, R78). The ceiling of R77 is stated by its bounds. -/
def Obligations.StagingFollowsTheRole : Prop :=
  ∀ (valveFirst : Bool) (l : Latched) (s : State), s.fde.latched = some l →
    ∃ t a, exec (.allotmentIssued valveFirst) s = .next t ∧ t.fde.allotment = some a ∧
      let p := s.params
      let mPrev := (s.fde.allotment.map Allotment.m).getD 0
      let vPrev := (s.fde.allotment.map Allotment.v).getD 0
      let down : Int := (vPrev : Int) - p.shedRamp
      let stopped := down < p.vMin ∨ down ≤ 0 ∨ l.runningCount = 0
      (s.fde.role = .carrying → s.fde.coldJoin = false → 0 < a.share →
          a.share * p.nFit ≤ 256 * a.m ∧ 256 * a.m < a.share * p.nFit + 256
            ∧ a.v = max p.vMin ((2 * a.share * p.nFit * 1000 + 256 * a.m) / (512 * a.m)))
        ∧ (s.fde.role = .carrying → s.fde.coldJoin = false → a.share = 0 →
            a.m = min mPrev l.nAvail ∧ a.v = vPrev)
        ∧ (s.fde.role = .carrying → s.fde.coldJoin = true → a.m = 0 ∧ a.v = 0)
        ∧ (s.fde.role = .shedding → stopped → a.m = 0 ∧ a.v = 0)
        ∧ (s.fde.role = .shedding → ¬ stopped → a.m = l.runningCount ∧ (a.v : Int) = down)
        ∧ (s.fde.role ≠ .carrying → s.fde.role ≠ .shedding → a.m = 0 ∧ a.v = 0)

/-- The share runs at most as many fans as are available, at no more than 1000 ‰ (R77, R80). -/
def Obligations.StagingStaysInRange : Prop :=
  ∀ (valveFirst : Bool) (l : Latched) (s : State), s.fde.latched = some l →
    1 ≤ s.params.nFit → s.params.vMin ≤ 1000 → l.runningCount ≤ l.nAvail →
    (∀ a, s.fde.allotment = some a → a.v ≤ 1000) →
      ∃ t a, exec (.allotmentIssued valveFirst) s = .next t ∧ t.fde.allotment = some a
        ∧ a.m ≤ l.nAvail ∧ a.v ≤ 1000

/-- Stage 10: the role machine's decisions on the final share, role by role, with its timers, the warm
target and the recorded change (R87 to R93). That the warm target is kept by the role and cold-join flag
before stage 10 is deduced (log entry 19). -/
def Obligations.AllotmentDecidesTheRole : Prop :=
  ∀ (valveFirst : Bool) (l : Latched) (s : State), s.fde.latched = some l →
    ∃ t a, exec (.allotmentIssued valveFirst) s = .next t ∧ t.fde.allotment = some a ∧
      let running := fun id => (t.timer id).running = true
      let supply : Int := match l.scan with
        | some set => if set.ti.ok then min set.ti.value l.tSet else l.tSet
        | none => l.tSet
      let target : Int := supply - s.params.warmMargin
      let warm := ∃ x, ownOutlet l.scan = some x ∧ target ≤ x
      (s.fde.role = .init →
          (l.bus = .active ∧ l.scan ≠ none → t.fde.role = .resting ∧ t.fde.restAge = 0 ∧ running .exer)
          ∧ (l.bus ≠ .active ∨ l.scan = none → t.fde.role = .init))
        ∧ (s.fde.role = .resting →
          (0 < a.share → t.fde.role = .warming ∧ t.fde.restAge = 0 ∧ running .warm)
          ∧ (a.share = 0 → t.fde.role = .resting
              ∧ t.fde.restAge = if s.fde.restAge < 65535 then s.fde.restAge + 1 else s.fde.restAge))
        ∧ (s.fde.role = .warming →
          (0 < a.share → warm → t.fde.role = .carrying ∧ t.fde.coldJoin = false ∧ ¬ running .shed
              ∧ ¬ running .warm ∧ running .rot)
          ∧ (0 < a.share → ¬ warm → t.fde.role = .warming ∧ ¬ running .shed
              ∧ t.timer .warm = s.timer .warm)
          ∧ (a.share = 0 → t.fde.role = .warming ∧ running .shed ∧ t.timer .warm = s.timer .warm))
        ∧ (s.fde.role = .carrying →
          t.fde.role = .carrying ∧ t.fde.rotateDue = s.fde.rotateDue ∧ t.timer .rot = s.timer .rot
            ∧ (0 < a.share → ¬ running .shed) ∧ (a.share = 0 → running .shed)
            ∧ (warm → t.fde.coldJoin = false) ∧ (¬ warm → t.fde.coldJoin = s.fde.coldJoin))
        ∧ (s.fde.role = .shedding →
          (0 < a.share → t.fde.role = .carrying ∧ t.fde.rotateDue = false ∧ t.fde.coldJoin = false
              ∧ running .rot)
          ∧ (a.share = 0 → l.anyTurning = false → l.valveAtMin = true →
              t.fde.role = .resting ∧ t.fde.restAge = 0)
          ∧ (a.share = 0 → l.anyTurning = true ∨ l.valveAtMin = false → t.fde.role = .shedding))
        ∧ (s.fde.role = .protect ∨ s.fde.role = .withdrawn →
          t.fde.role = s.fde.role ∧ t.fde.restAge = s.fde.restAge ∧ t.fde.drained = s.fde.drained)
        ∧ (s.fde.role = .warming ∨ (s.fde.role = .carrying ∧ s.fde.coldJoin = true) →
            t.fde.warmTarget = some target)
        ∧ (s.fde.role ≠ .warming → (s.fde.role ≠ .carrying ∨ s.fde.coldJoin = false) →
            t.fde.warmTarget = none)
        ∧ (t.fde.role = s.fde.role → t.fde.lastChange = s.fde.lastChange)
        ∧ (t.fde.role ≠ s.fde.role →
            t.fde.lastChange = some ⟨s.fde.role, t.fde.role, .allotment⟩)

/-- FIELD_SHORT, FIELD_OVERCOOL and the overcool count at an allotment issued and after reset; every
other live condition stands (R82, R83). -/
def Obligations.FieldAlertsFollowTheComputation : Prop :=
  (hasAlert State.reset.aou.live .fieldShort = false ∧ State.reset.fde.overcool = 0
      ∧ hasAlert State.reset.aou.live .fieldOvercool = false)
  ∧ ∀ (valveFirst : Bool) (l : Latched) (s : State), s.fde.latched = some l →
    ∃ t a g, exec (.allotmentIssued valveFirst) s = .next t ∧ t.fde.allotment = some a
      ∧ t.fde.figures = some g ∧
      let error := fun test : Int → Prop =>
        a.noBasis = false ∧ ∃ x, a.tMix = some x ∧ test (x - l.tSet)
      let overcool := a.d = 0 ∧ error fun e => e < -(s.params.overcoolMargin : Int)
      (hasAlert t.aou.live .fieldShort = true ↔
          (a.d = g.dCap ∧ 0 < g.dCap) ∧ error fun e => (s.params.deadband : Int) < e)
        ∧ (overcool → t.fde.overcool = if s.fde.overcool < 30 then s.fde.overcool + 1 else s.fde.overcool)
        ∧ (¬ overcool → t.fde.overcool = 0)
        ∧ (hasAlert t.aou.live .fieldOvercool = true ↔ overcool ∧ 30 ≤ t.fde.overcool)
        ∧ ∀ c, c ≠ .fieldShort → c ≠ .fieldOvercool → hasAlert t.aou.live c = hasAlert s.aou.live c

/-- The members are the FRESH and HELD snapshot rows of the own loop but the own one, with different
addresses; the key of R72 puts members of different addresses in one total order (R66, R72). -/
def Obligations.MembersAreRankedInOneOrder : Prop :=
  (∀ s : State, (s.peers.map Member.address).Nodup
    ∧ ∀ m, m ∈ s.peers ↔ ∃ k b, 1 ≤ k ∧ k ≤ 24 ∧ k ≠ s.straps.address.toNat
        ∧ (s.btb.row k).snapCopy = some b ∧ (s.btb.row k).snapState ≠ .absent
        ∧ b.loop = s.straps.loop ∧ m = b.member k)
  ∧ (∀ m : Member, (m.tier = 0 ↔ (m.role = .carrying ∧ m.rotateDue = false) ∨ m.role = .warming)
      ∧ (m.tier = 1 ↔ m.role = .shedding) ∧ (m.role = .resting → m.tier = 2)
      ∧ (m.tier = 3 ↔ m.role = .carrying ∧ m.rotateDue = true))
  ∧ (∀ a b : Member, a.before b = true ↔ a.tier < b.tier ∨ (a.tier = b.tier ∧
      (b.restAge < a.restAge ∨ (a.restAge = b.restAge ∧ a.address < b.address))))
  ∧ (∀ a b : Member, a.address ≠ b.address → (a.before b = true ↔ b.before a = false))
  ∧ ∀ a b c : Member, a.before b = true → b.before c = true → a.before c = true

/-- Members that agree on D, none of them rotate-due, take together exactly the duty, as far as their
ceilings reach: no part of D is left out and none is taken twice (R73, R74). -/
def Obligations.SharesCarryTheDuty : Prop :=
  ∀ (d : Nat) (ms : List Member), (ms.map Member.address).Nodup →
    (∀ m ∈ ms, m.eligible = true ∧ m.tier ≠ 3) →
      (ms.map fun m => shareOf d (cBeforeOf m ms) m.h).sum = min d (ms.map Member.h).sum

/-- T_mix lies between the lowest and the highest outlet temperature counted (R68). -/
def Obligations.MixLiesBetweenTheOutlets : Prop :=
  ∀ (valveFirst : Bool) (l : Latched) (lo hi : Int) (s : State), s.fde.latched = some l →
    (∀ x, ownOutlet l.scan = some x → lo ≤ x ∧ x ≤ hi) →
    (∀ m ∈ s.peers, m.outletValid = true → lo ≤ m.outlet ∧ m.outlet ≤ hi) →
      ∃ t a, exec (.allotmentIssued valveFirst) s = .next t ∧ t.fde.allotment = some a
        ∧ (a.noBasis = false → ∃ x, a.tMix = some x ∧ lo ≤ x ∧ x ≤ hi)

/-- The FCC at an allotment issued, channel by channel. A changed role forces first (R133). When k is below
the record's m, RUNNING exercise channels are converted and then OFF channels queued, each in pair order,
until k is m (R123); nothing is queued in PROTECT or RECOVER (R115). When k is above m, QUEUED duty
channels leave highest-numbered first, then the one in STARTING or KICK, then RUNNING ones from the head of
the run-order list (R124). A RUNNING duty channel moves its command toward v by at most the ramp (R125).
That a conversion sets the phase count to 0 and a channel set OFF keeps its stall run are the model's choices
(log entries 10, 24). -/
def Obligations.FansFollowTheRecord : Prop :=
  ∀ (valveFirst : Bool) (l : Latched) (s : State), s.fde.latched = some l → FansSound s →
    ∃ t a, exec (.allotmentIssued valveFirst) s = .next t ∧ t.fde.allotment = some a
      ∧ t.fcc.k ≤ a.m
      ∧ (t.fcc.k < a.m → ∀ i, (t.fcc.channel i).runningAs .exercise = false
          ∧ (s.cfm.frost = .clear ∨ s.cfm.frost = .guard → (t.fcc.channel i).state ≠ .off))
      ∧ (s.cfm.frost = .protect ∨ s.cfm.frost = .recover →
          ∀ i, (t.fcc.channel i).state = .queued → (s.fcc.channel i).state = .queued)
      ∧ (∀ i, (t.fcc.channel i).runningAs .duty = true →
          let c := (s.fcc.channel i).command
          (s.fcc.channel i).state = .running
            ∧ (t.fcc.channel i).command
              = if c < a.v then min a.v (c + s.params.fanRamp) else max a.v (c - s.params.fanRamp))
      ∧ t.fcc.bits = s.fcc.bits ∧ t.fcc.intervals = s.fcc.intervals ∧ t.fcc.tachDue = s.fcc.tachDue
      ∧ t.fcc.nAvail = s.fcc.nAvail ∧
      let off := fun c : FanChannel =>
        { c with state := .off, cls := none, command := 0, phaseCount := 0, phase := none }
      let stands := t.fde.role = .carrying ∨ t.fde.role = .shedding
      let forced := fun c : FanChannel => t.fde.role ≠ s.fde.role ∧ ¬ stands ∧ c.inHand = true
        ∧ (t.fde.role = .resting → c.cls = some .duty)
      let before := fun i : Fin 6 =>
        if forced (s.fcc.channel i) then off (s.fcc.channel i) else s.fcc.channel i
      let list := s.fcc.runOrder.filter fun i => decide (¬ forced (s.fcc.channel i))
      let sequences : List (List (Fin 3)) :=
        [[0, 1, 2], [0, 2, 1], [1, 0, 2], [1, 2, 0], [2, 0, 1], [2, 1, 0]]
      let order := (sequences.getD s.params.pairOrder [2, 1, 0]).flatMap fun p : Fin 3 =>
        let even : Fin 6 := ⟨2 * p.val, by omega⟩
        let odd : Fin 6 := ⟨2 * p.val + 1, by omega⟩
        if s.fcc.bits[p] then [odd, even] else [even, odd]
      let k := ([0, 1, 2, 3, 4, 5] : List (Fin 6)).countP fun i => (before i).dutyInHand
      let converted := (order.filter fun i => (before i).runningAs .exercise).take (a.m - k)
      let queued := if s.cfm.frost = .protect ∨ s.cfm.frost = .recover then []
        else (order.filter fun i => decide ((before i).state = .off)).take (a.m - k - converted.length)
      let waiting := ([5, 4, 3, 2, 1, 0] : List (Fin 6)).filter fun i => (before i).queuedAs .duty
      let startingOnes := ([0, 1, 2, 3, 4, 5] : List (Fin 6)).filter fun i => decide
        (((before i).state = .starting ∨ (before i).state = .kick) ∧ (before i).cls = some .duty)
      let stopped := (waiting ++ startingOnes ++ list).take (k - a.m)
      let staged := fun i : Fin 6 =>
        if i ∈ converted then { before i with cls := some .duty, phaseCount := 0 }
        else if i ∈ queued then { before i with state := .queued, cls := some .duty }
        else if i ∈ stopped then off (before i) else before i
      let ramped := fun c : FanChannel => if c.state = .running ∧ c.cls = some .duty then
          { c with command := if c.command < a.v then min a.v (c.command + s.params.fanRamp)
            else max a.v (c.command - s.params.fanRamp) }
        else c
      (∀ i, t.fcc.channel i = ramped (staged i))
        ∧ t.fcc.runOrder = (list.filter fun i => decide (i ∉ stopped)) ++ converted
        ∧ ∀ i, t.fcc.permit = some i
            ↔ s.fcc.permit = some i ∧ ¬ forced (s.fcc.channel i) ∧ i ∉ stopped

/-- The VDR at an allotment issued, by the frost state last reported and the record's role: the forced
opening, the warm and shed ramps, the minimum opening (R142 to R144, R146, R149). Which fans-at-rest the
shed ramp sees, the one before or after the FCC's staging, is the command's operand (log entry 4). That a
drained withdrawal has the target 0 in GUARD too, which R142 leaves out, is the model's choice (log entry
22). -/
def Obligations.ValveStepsAtAnAllotment : Prop :=
  ∀ (valveFirst : Bool) (l : Latched) (s : State), s.fde.latched = some l →
    ∃ t a, exec (.allotmentIssued valveFirst) s = .next t ∧ t.fde.allotment = some a ∧
      let p := s.params
      let before := s.vdr.command
      let least := if s.vdr.frost = .guard then max p.guardOpening p.trickleOpening else p.trickleOpening
      let atRest := if valveFirst then s.vdr.fansAtRest else t.vdr.fansAtRest
      let free := s.vdr.frost = .clear ∨ s.vdr.frost = .guard
      t.vdr = { s.vdr with
          role := a.role, drained := a.drained, fansAtRest := !t.fcc.anyTurning
          allotmentReceived := true, command := t.vdr.command, check := t.vdr.check
          travelCount := t.vdr.travelCount, q := t.vdr.q }
        ∧ (¬ free → t.vdr.command = 1000)
        ∧ (free → a.role = .init ∨ a.role = .carrying ∨ a.role = .protect → t.vdr.command = 1000)
        ∧ (free → a.role = .warming → t.vdr.command = max (min 1000 (before + p.warmRate)) least)
        ∧ (free → a.role = .shedding → atRest = false → t.vdr.command = 1000)
        ∧ (free → a.role = .shedding → atRest = true → t.vdr.command = max (before - p.shedRate) least)
        ∧ (free → a.role = .resting → t.vdr.command = least)
        ∧ (free → a.role = .withdrawn → t.vdr.command = if a.drained then 0 else least)
        ∧ (t.vdr.command = before → t.vdr.check = s.vdr.check ∧ t.vdr.travelCount = s.vdr.travelCount
            ∧ t.vdr.q = s.vdr.q)
        ∧ (t.vdr.command ≠ before →
            (s.vdr.check ≠ .suspended → t.vdr.check = .timing ∧ t.vdr.travelCount = 0)
            ∧ (s.vdr.fromVF = false → t.vdr.q = t.vdr.command * p.flowClass / 1000)
            ∧ (s.vdr.fromVF = true → t.vdr.q = s.vdr.q))

/-! ### Timers -/

/-- A timer loaded with P and C is due at its (P × C)-th cycle end, on a minute base at its
(60 × P × C)-th, and not before; an IDLE timer counts nothing (R154, R155). That a due timer stays RUNNING
until its expiry command takes the expiry of R156 is deduced (log entry 7). -/
def Obligations.TimerIsDueAfterItsDuration : Prop :=
  (∀ (minute : Bool) (tp : TimerParams) (t : Timer), t.running = false → Timer.count minute tp t = t)
  ∧ ∀ (minute : Bool) (p c : Nat) (t : Timer), 1 ≤ p → 1 ≤ c →
    let duration := if minute then 60 * (p * c) else p * c
    let after := fun n => Nat.repeat (Timer.count minute ⟨p, c⟩) n (t.load ⟨p, c⟩)
    (∀ n, n < duration → (after n).running = true ∧ (after n).due = false)
      ∧ (after duration).due = true

/-- The expiries of T_ROT, T_WARM and T_SHED: the timer IDLE with its expiry counted; rotate-due in
CARRYING; WARMING to CARRYING with cold-join; WARMING to RESTING, CARRYING to SHEDDING; the fans and the
valve take the report (R86, R93 to R96, R133, R136, R143, R156). -/
def Obligations.RoleTimerExpiriesMoveTheRole : Prop :=
  ∀ s : State,
    let least := if s.cfm.frost = .guard then max s.params.guardOpening s.params.trickleOpening
      else s.params.trickleOpening
    let steered := s.vdr.allotmentReceived = true ∧ s.vdr.role = s.fde.role ∧ s.vdr.frost = s.cfm.frost
      ∧ (s.cfm.frost = .clear ∨ s.cfm.frost = .guard)
    ((s.timer .rot).due = true → ∃ t, exec .tRotExpiry s = .next t
        ∧ t = { s with itb := t.itb, fde := t.fde }
        ∧ t.timer .rot = (s.timer .rot).expired ∧ (∀ id, id ≠ .rot → t.timer id = s.timer id)
        ∧ (s.fde.role = .carrying → t.fde = { s.fde with rotateDue := true })
        ∧ (s.fde.role ≠ .carrying → t.fde = s.fde))
    ∧ ((s.timer .warm).due = true → ∃ t, exec .tWarmExpiry s = .next t
        ∧ t.timer .warm = (s.timer .warm).expired
        ∧ (∀ id, id ≠ .warm → id ≠ .rot → t.timer id = s.timer id)
        ∧ (s.fde.role = .warming →
          t = { s with
              itb := t.itb, vdr := t.vdr, cfm := { s.cfm with suspended := false }
              fde := { s.fde with
                role := .carrying, restAge := 0, rotateDue := false, coldJoin := true, drained := false
                lastChange := some ⟨.warming, .carrying, .warmExpiry⟩ } }
            ∧ (t.timer .rot).running = true
            ∧ (s.vdr.allotmentReceived = true → t.vdr.command = 1000))
        ∧ (s.fde.role ≠ .warming → t = { s with itb := t.itb } ∧ t.timer .rot = s.timer .rot))
    ∧ ((s.timer .shed).due = true → ∃ t, exec .tShedExpiry s = .next t
        ∧ t.timer .shed = (s.timer .shed).expired
        ∧ (s.fde.role = .warming →
          t = { s with
              itb := t.itb, vdr := t.vdr, fcc := t.fcc, cfm := { s.cfm with suspended := false }
              fde := { s.fde with
                role := .resting, restAge := 0, rotateDue := false, coldJoin := false, drained := false
                lastChange := some ⟨.warming, .resting, .shedExpiry⟩ } }
            ∧ (t.timer .warm).running = false ∧ (t.timer .exer).running = true
            ∧ (∀ i, (t.fcc.channel i).dutyInHand = false)
            ∧ (steered → t.vdr.command = least))
        ∧ (s.fde.role = .carrying →
          t = { s with
              itb := t.itb, vdr := t.vdr, cfm := { s.cfm with suspended := false }
              fde := { s.fde with
                role := .shedding, restAge := 0, rotateDue := false, coldJoin := false, drained := false
                lastChange := some ⟨.carrying, .shedding, .shedExpiry⟩ } }
            ∧ (t.timer .rot).running = false
            ∧ (steered → t.vdr.command = if s.vdr.fansAtRest then max s.vdr.command least else 1000))
        ∧ (s.fde.role ≠ .warming → s.fde.role ≠ .carrying → t = { s with itb := t.itb }))

/-- The expiries of T_GUARD, T_PROT, T_RECOV and T_STAG: release or release pending, RECOVER, CLEAR with the
role, the stagnation trip with all it forces and the role that is left (R85, R93), and the command that the
valve takes at once (R98, R99, R107 to R115, R142, R143, R156). Whether a FROST_TRIP that begins to qualify
then counts that cycle end is the order that CYCLE_END chose (R171; log entry 4). -/
def Obligations.FrostTimerExpiriesMoveTheMonitor : Prop :=
  ∀ s : State,
    let steered := ReportsCurrent s ∧ s.vdr.allotmentReceived = true
    let back := fun c : Published => c.ok = true ∧ c.comparator ≠ .below
    let backTo := ∃ set, s.ssc.scanSet = some set ∧ back set.to
    let backAll := ∃ set, s.ssc.scanSet = some set ∧ back set.to ∧ back set.tsl ∧ back set.tsu
    ((s.timer .guard).due = true → ∃ t, exec .tGuardExpiry s = .next t
        ∧ t.timer .guard = (s.timer .guard).expired
        ∧ (s.cfm.frost = .guard → backTo →
            t.cfm = { s.cfm with frost := .clear, guardPending := false } ∧ t.fde = s.fde
              ∧ hasAlert t.aou.live .frostGuard = false ∧ t.vdr.frost = .clear
              ∧ (steered → CommandAtReport s t)
              ∧ (s.vdr.allotmentReceived = false → t.vdr.command = s.vdr.command))
        ∧ (s.cfm.frost = .guard → ¬ backTo →
            t = { s with itb := t.itb, cfm := { s.cfm with guardPending := true } })
        ∧ (s.cfm.frost ≠ .guard → t = { s with itb := t.itb }))
    ∧ ((s.timer .prot).due = true → ∃ t, exec .tProtExpiry s = .next t
        ∧ t.timer .prot = (s.timer .prot).expired
        ∧ (s.cfm.frost = .protect → backAll →
            t.cfm = { s.cfm with frost := .recover, protectPending := false } ∧ t.fde = s.fde
              ∧ (t.timer .recov).running = true ∧ hasAlert t.aou.live .frostTrip = true
              ∧ (steered → CommandAtReport s t)
              ∧ (s.vdr.allotmentReceived = false → t.vdr.command = s.vdr.command))
        ∧ (s.cfm.frost = .protect → ¬ backAll →
            t = { s with itb := t.itb, cfm := { s.cfm with protectPending := true } })
        ∧ (s.cfm.frost ≠ .protect → t = { s with itb := t.itb }))
    ∧ ((s.timer .recov).due = true → ∃ t, exec .tRecovExpiry s = .next t
        ∧ t.timer .recov = (s.timer .recov).expired
        ∧ (s.cfm.frost = .recover → t.cfm.frost = .clear ∧ hasAlert t.aou.live .frostTrip = false
            ∧ (steered → CommandAtReport s t)
            ∧ (s.vdr.allotmentReceived = false → t.vdr.command = s.vdr.command)
            ∧ (s.fde.role = .protect → t.fde.role = .resting ∧ t.fde.restAge = 0
                ∧ t.fde.lastChange = some ⟨.protect, .resting, .frostClear⟩
                ∧ (t.timer .exer).running = true)
            ∧ (s.fde.role ≠ .protect → t.fde = s.fde))
        ∧ (s.cfm.frost ≠ .recover → t = { s with itb := t.itb }))
    ∧ ((s.timer .stag).due = true → ∃ t, exec .tStagExpiry s = .next t
        ∧ BeginsWithCycleEnd s t
        ∧ t.timer .stag = (s.timer .stag).expired
        ∧ (s.cfm.suspended = false → s.cfm.frost ≠ .protect →
            EntersProtect [.stagnation] s t
              ∧ (∀ id, id = .exer ∨ id = .ice ∨ id = .ord → t.timer id = s.timer id)
              ∧ hasAlert t.aou.live .frostTrip = true ∧ hasAlert t.aou.live .frostGuard = false
              ∧ (∀ i, (t.fcc.channel i).inHand = false)
              ∧ (s.vdr.allotmentReceived = true → t.vdr.command = 1000))
        ∧ (s.cfm.suspended = true ∨ s.cfm.frost = .protect → t = { s with itb := t.itb }))

/-- The expiries of T_EXER and T_ICE: the timer loaded again; the exercise of R134, queued in CLEAR and a
deferral otherwise; the ice retry of R137 under its three conditions (R134, R137, R138, R156). -/
def Obligations.FanTimerExpiriesQueueTheFans : Prop :=
  ∀ s : State,
    let again := fun id => { s.timer id with
      running := true, prescaler := (s.timerParams id).p, main := (s.timerParams id).c, sub := 0
      expiries := if (s.timer id).expiries < 65535 then (s.timer id).expiries + 1
        else (s.timer id).expiries }
    let mild := ∃ set, s.ssc.scanSet = some set
      ∧ (set.ta.ok = false ∨ s.params.iceAmbient ≤ set.ta.value)
    let retries := mild ∧ s.cfm.frost = .clear
      ∧ (s.fde.role = .resting ∨ s.fde.role = .carrying ∨ s.fde.role = .shedding)
    ((s.timer .exer).due = true → ∃ t, exec .tExerExpiry s = .next t
        ∧ t = { s with itb := t.itb, fcc := { s.fcc with channels := t.fcc.channels } }
        ∧ t.timer .exer = again .exer ∧ (∀ id, id ≠ .exer → t.timer id = s.timer id)
        ∧ (s.fde.role ≠ .resting → t.fcc = s.fcc)
        ∧ (s.fde.role = .resting → ∀ i,
            let c := s.fcc.channel i
            (c.state ≠ .off → t.fcc.channel i = c)
            ∧ (c.state = .off → s.cfm.frost = .clear →
                t.fcc.channel i = { c with state := .queued, cls := some .exercise })
            ∧ (c.state = .off → s.cfm.frost ≠ .clear → c.deferrals < 3 →
                t.fcc.channel i = { c with deferrals := c.deferrals + 1 })
            ∧ (c.state = .off → s.cfm.frost ≠ .clear → c.deferrals = 3 ∨ c.deferrals = 4 →
                t.fcc.channel i = { c with deferrals := 4, iceSuspect := true })))
    ∧ ((s.timer .ice).due = true → ∃ t, exec .tIceExpiry s = .next t
        ∧ t = { s with
            itb := t.itb, fcc := { s.fcc with channels := t.fcc.channels }, aou := t.aou }
        ∧ t.timer .ice = again .ice ∧ (∀ id, id ≠ .ice → t.timer id = s.timer id)
        ∧ (¬ retries → t.fcc = s.fcc ∧ t.aou = s.aou)
        ∧ (retries → hasAlert t.aou.live .fanIce = false ∧ ∀ i,
            let c := s.fcc.channel i
            (c.state ≠ .iced → t.fcc.channel i = c)
            ∧ (c.state = .iced → t.fcc.channel i = { c with
                state := .queued, cls := some .exercise, iceSuspect := true, retries := 0 })))

/-- T_ORD expiry raises PANEL_SILENT once an order was taken; the travel time raises VALVE_STUCK (R146, R148,
R156, R165). That an expiry or travel time that is not due changes nothing is the model's choice (log entry
1), and what makes them due is deduced (log entries 7, 8). Whether a category that begins to qualify then
counts that cycle end is the order that CYCLE_END chose (R171; log entry 4). -/
def Obligations.OrderSilenceAndTravelTime : Prop :=
  ∀ s : State,
    ((s.timer .ord).due = true → ∃ t, exec .tOrdExpiry s = .next t
        ∧ t = { s with itb := t.itb, aou := t.aou } ∧ BeginsWithCycleEnd s t
        ∧ t.timer .ord = (s.timer .ord).expired ∧ (∀ id, id ≠ .ord → t.timer id = s.timer id)
        ∧ (s.ord.taken = true → hasAlert t.aou.live .panelSilent = true)
        ∧ (s.ord.taken = false → t.aou = s.aou))
    ∧ (s.vdr.check = .timing → s.params.travelTime ≤ s.vdr.travelCount →
        ∃ t, exec .travelTimeReached s = .next t
          ∧ t = { s with vdr := { s.vdr with stuck := true }, aou := t.aou }
          ∧ BeginsWithCycleEnd s t
          ∧ hasAlert t.aou.live .valveStuck = true)
    ∧ (s.vdr.check ≠ .timing ∨ s.vdr.travelCount < s.params.travelTime →
        exec .travelTimeReached s = .next s)
    ∧ ∀ id e, (id, e) ∈ [(TimerId.rot, Instr.tRotExpiry), (.warm, .tWarmExpiry), (.shed, .tShedExpiry),
        (.exer, .tExerExpiry), (.ice, .tIceExpiry), (.guard, .tGuardExpiry), (.prot, .tProtExpiry),
        (.recov, .tRecovExpiry), (.stag, .tStagExpiry), (.ord, .tOrdExpiry)] →
        (s.timer id).due = false → exec e s = .next s

/-! ### Fans -/

/-- A fan interval: each turning channel's phase count, the count of ten, and the grant of a free permit
to the first QUEUED channel of duty class in pair order, else of exercise class; ice-suspect starts in
KICK; the pair's bit is inverted (R119, R120, R126, R127). That a RUNNING duty channel's phase count goes
on is the model's choice (log entry 10), and the mark `tachDue` of the tenth interval is deduced (log entry
8). -/
def Obligations.FanIntervalGrantsTheFirstInPairOrder : Prop :=
  ∀ s : State, s.loaded = true →
    ∃ t, exec .fanInterval s = .next t
      ∧ t = { s with fcc := t.fcc, vdr := { s.vdr with fansAtRest := !t.fcc.anyTurning } }
      ∧ t.fcc.runOrder = s.fcc.runOrder
      ∧ (s.fcc.intervals < 9 → t.fcc.intervals = s.fcc.intervals + 1 ∧ t.fcc.tachDue = s.fcc.tachDue)
      ∧ (9 ≤ s.fcc.intervals → t.fcc.intervals = 0 ∧ t.fcc.tachDue = true) ∧
      let sequences : List (List (Fin 3)) :=
        [[0, 1, 2], [0, 2, 1], [1, 0, 2], [1, 2, 0], [2, 0, 1], [2, 1, 0]]
      let order := (sequences.getD s.params.pairOrder [2, 1, 0]).flatMap fun p : Fin 3 =>
        let even : Fin 6 := ⟨2 * p.val, by omega⟩
        let odd : Fin 6 := ⟨2 * p.val + 1, by omega⟩
        if s.fcc.bits[p] then [odd, even] else [even, odd]
      let first := fun cls => order.find? fun i =>
        decide ((s.fcc.channel i).state = .queued ∧ (s.fcc.channel i).cls = some cls)
      let counted := fun c : FanChannel =>
        if c.state = .starting ∨ c.state = .kick ∨ c.state = .running then
          { c with phaseCount := if c.phaseCount < 3000 then c.phaseCount + 1 else c.phaseCount }
        else c
      (s.fcc.permit ≠ none ∨ (first .duty = none ∧ first .exercise = none) →
          t.fcc.permit = s.fcc.permit ∧ t.fcc.bits = s.fcc.bits
            ∧ ∀ i, t.fcc.channel i = counted (s.fcc.channel i))
        ∧ ∀ i, s.fcc.permit = none →
            (first .duty = some i ∨ (first .duty = none ∧ first .exercise = some i)) →
          let c := s.fcc.channel i
          t.fcc.permit = some i
            ∧ (∀ p : Fin 3, t.fcc.bits[p] = if p.val = i.val / 2 then !s.fcc.bits[p] else s.fcc.bits[p])
            ∧ (c.iceSuspect = false → t.fcc.channel i = { c with
                state := .starting, command := s.params.startSpeed, phaseCount := 0 })
            ∧ (c.iceSuspect = true → t.fcc.channel i = { c with
                state := .kick, phase := some .kick, command := 1000, phaseCount := 0 })
            ∧ ∀ j, j ≠ i → t.fcc.channel j = counted (s.fcc.channel j)

/-- The ends of the phases: spin-up window to KICK, kick phase to check phase, failed check window to a
new kick or, at the third, to ICED with FAN_ICE, exercise run to OFF (R121, R128, R130, R131, R135,
R138). That a permit freed here is granted again at once is deduced (log entry 9), to the channel that R127
gives it to; that the phase count stands at 0 in ICED and OFF, and the stall run as it was, are the model's
choices (log entries 10, 24). -/
def Obligations.PhaseEndsMoveTheChannel : Prop :=
  ∀ (i : Fin 6) (s : State), s.fcc.tachDue = false →
    let c := s.fcc.channel i
    let p := s.params
    let rest := fun t : State => { s.vdr with fansAtRest := !t.fcc.anyTurning }
    (s.fcc.permit = some i →
      (c.state = .starting → c.phase = none → p.spinUpWindow ≤ c.phaseCount →
        ∃ t, exec .spinUpWindowEnd s = .next t
          ∧ t = { s with fcc := { s.fcc with channels := t.fcc.channels }, vdr := rest t }
          ∧ t.fcc.channel i = { c with
              state := .kick, phase := some .kick, command := 1000, phaseCount := 0 }
          ∧ ∀ j, j ≠ i → t.fcc.channel j = s.fcc.channel j)
      ∧ (c.state = .kick → c.phase = some .kick → p.kickTime ≤ c.phaseCount →
        ∃ t, exec .kickPhaseEnd s = .next t
          ∧ t = { s with fcc := { s.fcc with channels := t.fcc.channels }, vdr := rest t }
          ∧ t.fcc.channel i = { c with phase := some .check, command := p.startSpeed, phaseCount := 0 }
          ∧ ∀ j, j ≠ i → t.fcc.channel j = s.fcc.channel j)
      ∧ (c.state = .kick → c.phase = some .check → p.checkWindow ≤ c.phaseCount →
        ∃ t, exec .checkWindowEnd s = .next t
          ∧ t = { s with fcc := t.fcc, vdr := rest t, aou := t.aou }
          ∧ (c.retries < 2 → t.fcc = { s.fcc with channels := t.fcc.channels }
              ∧ t.fcc.channel i = { c with
                  phase := some .kick, command := 1000, phaseCount := 0, retries := c.retries + 1 }
              ∧ ∀ j, j ≠ i → t.fcc.channel j = s.fcc.channel j)
          ∧ (c.retries = 2 → t.fcc.permit ≠ some i
              ∧ t.fcc.channel i = { c with
                  state := .iced, cls := none, phase := none, command := 0, phaseCount := 0, retries := 3 }
              ∧ t.fcc.nAvail + 1 = s.fcc.nAvail ∧ t.fcc.runOrder = s.fcc.runOrder
              ∧ t.fcc.intervals = s.fcc.intervals ∧ t.fcc.tachDue = false
              ∧ hasAlert t.aou.live .fanIce = true
              ∧ (let first := fun cls => (s.fcc.pairTable p).find? fun j => decide
                  (j ≠ i ∧ (s.fcc.channel j).state = .queued ∧ (s.fcc.channel j).cls = some cls)
                (first .duty = none → first .exercise = none →
                  t.fcc.permit = none ∧ t.fcc.bits = s.fcc.bits
                    ∧ ∀ j, j ≠ i → t.fcc.channel j = s.fcc.channel j)
                ∧ ∀ j, (first .duty = some j ∨ (first .duty = none ∧ first .exercise = some j)) →
                  let d := s.fcc.channel j
                  t.fcc.permit = some j
                    ∧ (∀ q : Fin 3, t.fcc.bits[q]
                        = if q.val = j.val / 2 then !s.fcc.bits[q] else s.fcc.bits[q])
                    ∧ (d.iceSuspect = false → t.fcc.channel j = { d with
                        state := .starting, command := p.startSpeed, phaseCount := 0 })
                    ∧ (d.iceSuspect = true → t.fcc.channel j = { d with
                        state := .kick, phase := some .kick, command := 1000, phaseCount := 0 })
                    ∧ ∀ k, k ≠ i → k ≠ j → t.fcc.channel k = s.fcc.channel k))))
    ∧ (c.state = .running → c.cls = some .exercise → p.exerciseTime ≤ c.phaseCount →
        ∃ t, exec (.exerciseRunEnd i) s = .next t
          ∧ t = { s with fcc := { t.fcc with intervals := s.fcc.intervals, tachDue := false }, vdr := rest t }
          ∧ t.fcc.runOrder = (s.fcc.runOrder.filter fun j => decide (j ≠ i))
          ∧ t.fcc.permit = (if s.fcc.permit = some i then none else s.fcc.permit)
          ∧ t.fcc.channel i = { c with
              state := .off, cls := none, command := 0, phaseCount := 0, phase := none }
          ∧ t.fcc.nAvail = s.fcc.nAvail ∧ t.fcc.bits = s.fcc.bits
          ∧ ∀ j, j ≠ i → t.fcc.channel j = s.fcc.channel j)

/-- A tach measurement completion: the measured speeds, the start that succeeds at a whole measurement in
which the fan turns, and the stall run in RUNNING, all judged on the count × 60 / pulses of R129; a
started duty channel joins the run-order list at its tail, a stalled one leaves it, and a started channel
releases the permit (R122, R129 to R132). Above the 65 535 rpm that R120's item holds, what is stored of
it is a free value (log entry 12); the phase count at 0 in QUEUED and on entering RUNNING is the model's
choice (log entry 10). -/
def Obligations.TachMeasurementJudgesTheChannels : Prop :=
  ∀ (edges : Vector Nat 6) (s : State), s.fcc.tachDue = true →
    ∃ t, exec (.tachMeasurementCompletion edges) s = .next t
      ∧ t = { s with
          fcc := t.fcc, vdr := { s.vdr with fansAtRest := !t.fcc.anyTurning }
          freeCount := s.freeCount + 1 }
      ∧ t.fcc.tachDue = false ∧ t.fcc.bits = s.fcc.bits ∧ t.fcc.nAvail = s.fcc.nAvail
      ∧ t.fcc.intervals = s.fcc.intervals
      ∧ (let x := fun i : Fin 6 => edges[i] * 60 / s.params.tachPulses
        let starts := fun i : Fin 6 =>
          let c := s.fcc.channel i
          (c.state = .starting ∨ (c.state = .kick ∧ c.phase = some .check))
            ∧ 10 ≤ c.phaseCount ∧ 15 * s.params.ratedSpeed ≤ 100 * x i
        let stalls := fun i : Fin 6 =>
          let c := s.fcc.channel i
          c.state = .running ∧ x i * 2000 < s.params.ratedSpeed * c.command ∧ 2 ≤ c.stallRun
        (FansSound s → t.fcc.runOrder = (s.fcc.runOrder.filter fun i => decide (¬ stalls i))
            ++ ([0, 1, 2, 3, 4, 5] : List (Fin 6)).filter fun i =>
              decide (starts i ∧ (s.fcc.channel i).cls = some .duty))
          ∧ ∀ i, t.fcc.permit = some i ↔ s.fcc.permit = some i ∧ ¬ starts i)
      ∧ ∀ i : Fin 6,
        let c := s.fcc.channel i
        let x := edges[i] * 60 / s.params.tachPulses
        let started := c.state = .starting ∨ (c.state = .kick ∧ c.phase = some .check)
        let turns := 10 ≤ c.phaseCount ∧ 15 * s.params.ratedSpeed ≤ 100 * x
        let slow := x * 2000 < s.params.ratedSpeed * c.command
        let y := (t.fcc.channel i).speed
        (c.state = .absent → t.fcc.channel i = c)
        ∧ (c.state ≠ .absent →
          (x ≤ 65535 → y = x)
          ∧ (started → turns →
            t.fcc.channel i = { c with
                state := .running, phase := none, phaseCount := 0, retries := 0, stallRun := 0
                deferrals := 0, iceSuspect := false, speed := y
                command := if c.cls = some .duty then c.command else s.params.exerciseSpeed }
              ∧ t.fcc.permit ≠ some i ∧ (c.cls = some .duty → i ∈ t.fcc.runOrder))
          ∧ (started → ¬ turns → t.fcc.channel i = { c with speed := y })
          ∧ (c.state = .running → ¬ slow → t.fcc.channel i = { c with speed := y, stallRun := 0 })
          ∧ (c.state = .running → slow → c.stallRun < 2 →
              t.fcc.channel i = { c with speed := y, stallRun := c.stallRun + 1 })
          ∧ (c.state = .running → slow → c.stallRun = 2 →
              t.fcc.channel i = { c with
                  state := .queued, command := 0, phaseCount := 0, stallRun := 0, iceSuspect := true
                  speed := y }
                ∧ i ∉ t.fcc.runOrder)
          ∧ (c.state ≠ .running → ¬ started → t.fcc.channel i = { c with speed := y }))

/-! ### The service port -/

/-- The characters, the 10 ms limit, the quiet end and the response end, by the port's state, and STX at mark
while the port is not sending (R177, R178). That STX in SENDING carries the answer's characters with the bits
in R1's order is presumed (log entry 28). That the read pointer and the limit count take their last values at
the response's end, and stand there with the copy, is the model's choice (log entries 16, 31). -/
def Obligations.ServicePortTakesItsCharacters : Prop :=
  ∀ (c : Byte) (bad : Bool) (s : State), s.released = true →
    let port := fun p : Svp => (.next { s with svp := p } : Host.Outcome State Fault Refusal)
    (s.svp.port = .idle →
      (c = 0x52 ∨ c = 0x43 → exec (.serviceRequestCharacter c) s
          = port { s.svp with port := .receiving, request := [c] })
      ∧ (c ≠ 0x52 → c ≠ 0x43 →
          exec (.serviceRequestCharacter c) s = port { s.svp with port := .quiet }
          ∧ exec (.serviceCharacterDropped c bad) s = port { s.svp with port := .quiet, request := [] })
      ∧ exec (.serviceCharacterDropped c true) s = port { s.svp with port := .quiet, request := [] })
    ∧ (s.svp.port = .receiving →
      (∀ first rest, s.svp.request = first :: rest →
        rest.length + 1 < (if first = 0x52 then 4 else 3) →
          exec (.serviceRequestCharacter c) s
              = port { s.svp with request := first :: (rest ++ [c]) }
          ∧ exec .serviceRequestTimeout s = port { s.svp with port := .idle, request := [] })
      ∧ exec (.serviceCharacterDropped c true) s = port { s.svp with port := .quiet, request := [] })
    ∧ (s.svp.port = .sending ∨ s.svp.port = .quiet →
        exec (.serviceRequestCharacter c) s = .next s ∧ exec (.serviceCharacterDropped c bad) s = .next s)
    ∧ (s.svp.port ≠ .sending → ∀ n, s.stx n = true)
    ∧ (s.svp.port = .sending →
      (∀ i c, s.svp.answer[i]? = some c → s.stx (10 * i) = false ∧ s.stx (10 * i + 9) = true
          ∧ ∀ j < 8, s.stx (10 * i + 1 + j) = c.getLsbD j)
        ∧ ∀ n, 10 * s.svp.answer.length ≤ n → s.stx n = true)
    ∧ (s.svp.port = .quiet → exec .serviceQuietEnd s = port { s.svp with port := .idle })
    ∧ (s.svp.port = .sending → exec .serviceResponseEnd s
        = port { s.svp with port := .quiet, readPointer := s.svp.copy.length, limitCount := 0 })

/-- A read request: an unknown view is refused with 0x15; otherwise the span of the view's records, as they
stand at that instant, is copied and answered with its header and its sum; the records hold the items of
R178's table, item by item (R24, R41, R62, R84, R103, R118, R140, R150, R159, R166, R172). Where R178 leaves
the layout of a record or of the copy open it is the model's choice (log entry 13), and so are the whole
answer standing in `svp.answer` and the one-character answer that goes to QUIET at once (log entry 16), the
last copy, pointer and count standing through a refusal (log entry 31), the version before the read reached
it as a free value and the counter of those (log entry 12), and the target of a drained withdrawal in GUARD
(log entry 22). -/
def Obligations.ReadRequestAnswersTheSpan : Prop :=
  ∀ (e : Nat) (view start count : Byte) (s : State),
    let u := s.advance e
    u.svp.port = .receiving → u.svp.request = [0x52, view, start, count] →
      (10 < view.toNat → exec (.readRequest e) s = .next { u with
          freeCount := u.freeCount + 1
          svp := { u.svp with port := .quiet, request := [], answer := [0x15] } })
      ∧ (view.toNat ≤ 10 → ∃ records, u.view view.toNat = some records
          ∧ records = (u.viewTable view.toNat).map bytesOf
          ∧ records.length
            = [1, 1, 25, 24, 25, 9, 7, 1, 10, 14, u.cfl.image.length].getD view.toNat 0
          ∧ let n := max 1 (min 64 count.toNat)
            let span := (records.drop start.toNat).take n
            let copy := view :: BitVec.ofNat 8 span.length :: span.flatten
            exec (.readRequest e) s = .next { u with
              freeCount := u.freeCount + 1
              svp := ⟨.sending, [], 0, copy.length, copy, copy ++ [BitVec.ofNat 8 (byteSum copy)]⟩ })

/-- A clear request: the latched flags of the mask whose live condition is false are cleared, no live
condition changes, and the answer is 0x06 (R168, R179). That the answer stands in `svp.answer` and the port
is QUIET at once is the model's choice (log entry 16), and so is that the last copy, pointer and count stand
(log entry 31). -/
def Obligations.ClearRequestClearsTheMaskedFlags : Prop :=
  ∀ (high low : Byte) (s : State), s.svp.port = .receiving → s.svp.request = [0x43, high, low] →
    ∃ t, exec .clearRequest s = .next t
      ∧ t = { s with
          aou := t.aou, svp := { s.svp with port := .quiet, request := [], answer := [0x06] } }
      ∧ t.aou.live = s.aou.live
      ∧ ∀ c, hasAlert t.aou.latched c = (hasAlert s.aou.latched c
          && (!(high ++ low).getLsbD c.bit || hasAlert s.aou.live c))

/-! ### Headline results -/

/-- What a receiver stores of any characters is what the layout of R26 and the normalisation of R27 make of
them; and every bulletin in range survives its 21 characters: they are judged as its bulletin, and what a
receiver stores of them is the bulletin itself, every field of it (R3, R4, R25 to R28, R32). -/
def Obligations.BulletinSurvivesItsCharacters : Prop :=
  (∀ cs : List Byte, (bulletinOf cs).StoredFrom cs)
  ∧ ∀ b : Bulletin, b.InRange →
    (bulletinChars b).length = 21
      ∧ judgeFrame ((bulletinChars b).map fun c => ⟨c, false⟩)
        = some (.bulletin b.source (bulletinChars b))
      ∧ bulletinOf (bulletinChars b) = b

/-- What the Safety predicates of the alerts, the fans, the coil and the tables say holds after reset. That
the bus state is UNADDRESSED before reset release is the model's choice (log entry 5). -/
def Obligations.ResetMeetsEveryInvariant : Prop :=
  (LatchesLive State.reset ∧ LineFollowsCadence State.reset)
    ∧ (FansSound State.reset ∧ FansOfRole State.reset ∧ LatchedFans State.reset)
    ∧ (CoilProtected State.reset ∧ FlagsOfRole State.reset ∧ CommandHeld State.reset
        ∧ NothingBeforeLoad State.reset ∧ TimersOfState State.reset)
    ∧ (RowsSound State.reset ∧ BusSound State.reset ∧ OwnFramesSound State.reset)
    ∧ RequestSound State.reset ∧ RangesSound State.reset
    ∧ LiveFollowsOwners State.reset

/-- Every step keeps a latched flag set while its condition is live, the cadence IDLE exactly while the
line does not qualify, and the line asserted exactly in REPORT (R167, R168, R170, R171). -/
def Obligations.EveryStepKeepsTheAlerts : Prop :=
  ∀ s t : State, LatchesLive s ∧ LineFollowsCadence s → step s = .next t →
    LatchesLive t ∧ LineFollowsCadence t

/-- Every step keeps the permit with the one channel in STARTING or KICK, the run-order list equal to the
RUNNING duty channels without repeats, and class, phase and command as the state allows (R120, R122, R127);
and no channel in hand but in CARRYING, SHEDDING or, in exercise class, RESTING, and in exercise class only
in CLEAR (R115, R133 to R137), given that a latched snapshot counts no fan running where none turns (R63). -/
def Obligations.EveryStepKeepsTheFans : Prop :=
  ∀ s t : State, FansSound s ∧ FansOfRole s ∧ LatchedFans s → step s = .next t →
    FansSound t ∧ FansOfRole t ∧ LatchedFans t

/-- Every step keeps the coil's protection: in PROTECT and RECOVER the command is 1000 ‰, no channel is
queued or turning, and the role is PROTECT or WITHDRAWN; the monitor is suspended exactly in a drained
withdrawal; the VDR's last reports are true; the flags stand only in their roles (R85, R86, R98, R113 to
R117, R141, R142); once an allotment was received, the command stands where R142 puts it, and outside a
drained withdrawal never below the trickle opening; before the load there is no allotment; T_WARM, T_ROT,
T_SHED, T_GUARD, T_PROT and T_RECOV run only in the roles and frost states that have them, T_STAG not while
the monitor is suspended, and a release-pending mark stands only in its state (R94, R95, R96, R104, R108 to
R111, R116). The parameters and the command stay in their ranges (R141, R176), on which these rest. -/
def Obligations.EveryStepKeepsTheCoilProtected : Prop :=
  ∀ s t : State,
    CoilProtected s ∧ FlagsOfRole s ∧ CommandHeld s ∧ NothingBeforeLoad s ∧ RangesSound s ∧ TimersOfState s →
    step s = .next t →
    CoilProtected t ∧ FlagsOfRole t ∧ CommandHeld t ∧ NothingBeforeLoad t ∧ RangesSound t ∧ TimersOfState t

/-- Every step keeps the rows' states, ages and contents (bulletins of the row's own station in the ranges of
R25), the bus state's rules, the own bulletin held or sent, the request in hand, and every parameter and the
valve command in range (R7, R14, R16, R19, R21, R23, R27, R31, R32, R36, R141, R175 to R177). Among the bus
state's rules, UNADDRESSED before reset release is the model's choice (log entry 5). -/
def Obligations.EveryStepKeepsTheTables : Prop :=
  ∀ s t : State, RowsSound s ∧ BusSound s ∧ OwnFramesSound s ∧ RequestSound s ∧ RangesSound s →
    step s = .next t →
    RowsSound t ∧ BusSound t ∧ OwnFramesSound t ∧ RequestSound t ∧ RangesSound t

/-- Every step keeps each live condition as its owner's state says, owner by owner: FROST_GUARD, FROST_TRIP,
FAN_ICE, VALVE_STUCK, SENSOR_FAIL, CONVERTER_FAULT, BUS_ISOLATED, DUP_ADDRESS, FIELD_OVERCOOL, PANEL_SILENT
and CONFIG_DEFAULT, together with the bus state's rules, on which DUP_ADDRESS rests (R22, R23, R61, R83,
R113, R138, R148, R165, R167, R175). Among the bus state's rules, UNADDRESSED before reset release is the
model's choice (log entry 5). -/
def Obligations.EveryStepKeepsTheLiveConditions : Prop :=
  ∀ s t : State, BusSound s ∧ LiveFollowsOwners s → step s = .next t → BusSound t ∧ LiveFollowsOwners t
end

