-- ==== Sys2Proof/Laws/Fans.lean ====
section
/-! SUPPORT. Laws/Fans.lean: what each small update of the FCC does to a channel, the list, the permit and
the bits. The other operations are made of these. -/

namespace Sys2Proof.Machine

@[simp] theorem Fcc.channel_modify (i j : Fin 6) (g : FanChannel → FanChannel) (f : Fcc) :
    (f.modify i g).channel j = if j = i then g (f.channel i) else f.channel j := by
  unfold Fcc.modify Fcc.channel
  simp only [Fin.getElem_fin, Vector.getElem_set]
  split <;> split <;> simp_all [Fin.ext_iff]

@[simp] theorem Fcc.modify_permit (i : Fin 6) (g : FanChannel → FanChannel) (f : Fcc) :
    (f.modify i g).permit = f.permit := rfl
@[simp] theorem Fcc.modify_runOrder (i : Fin 6) (g : FanChannel → FanChannel) (f : Fcc) :
    (f.modify i g).runOrder = f.runOrder := rfl
@[simp] theorem Fcc.modify_bits (i : Fin 6) (g : FanChannel → FanChannel) (f : Fcc) :
    (f.modify i g).bits = f.bits := rfl
@[simp] theorem Fcc.modify_intervals (i : Fin 6) (g : FanChannel → FanChannel) (f : Fcc) :
    (f.modify i g).intervals = f.intervals := rfl
@[simp] theorem Fcc.modify_tachDue (i : Fin 6) (g : FanChannel → FanChannel) (f : Fcc) :
    (f.modify i g).tachDue = f.tachDue := rfl

@[simp] theorem Fcc.channel_leave (i j : Fin 6) (f : Fcc) : (f.leave i).channel j = f.channel j := rfl
@[simp] theorem Fcc.channel_join (i j : Fin 6) (f : Fcc) : (f.join i).channel j = f.channel j := rfl
@[simp] theorem Fcc.channel_release (i j : Fin 6) (f : Fcc) : (f.release i).channel j = f.channel j := rfl
@[simp] theorem Fcc.channel_hold (i j : Fin 6) (f : Fcc) : (f.hold i).channel j = f.channel j := rfl
@[simp] theorem Fcc.leave_permit (i : Fin 6) (f : Fcc) : (f.leave i).permit = f.permit := rfl
@[simp] theorem Fcc.join_permit (i : Fin 6) (f : Fcc) : (f.join i).permit = f.permit := rfl
@[simp] theorem Fcc.hold_permit (i : Fin 6) (f : Fcc) : (f.hold i).permit = some i := rfl
@[simp] theorem Fcc.release_permit (i : Fin 6) (f : Fcc) :
    (f.release i).permit = if f.permit = some i then none else f.permit := rfl
@[simp] theorem Fcc.leave_runOrder (i : Fin 6) (f : Fcc) :
    (f.leave i).runOrder = f.runOrder.filter (· != i) := rfl
@[simp] theorem Fcc.join_runOrder (i : Fin 6) (f : Fcc) : (f.join i).runOrder = f.runOrder ++ [i] := rfl
@[simp] theorem Fcc.release_runOrder (i : Fin 6) (f : Fcc) : (f.release i).runOrder = f.runOrder := rfl
@[simp] theorem Fcc.hold_runOrder (i : Fin 6) (f : Fcc) : (f.hold i).runOrder = f.runOrder := rfl

/-- A channel set OFF, and every other as it was (R124, R133). -/
theorem Fcc.channel_off (i j : Fin 6) (f : Fcc) :
    (f.off i).channel j = if j = i then (f.channel i).toOff else f.channel j := by simp [Fcc.off]

/-- A property of the FCC that one step of a pass over the channels keeps, the whole pass keeps. -/
theorem Fcc.foldl_keeps {P : Fcc → Prop} {op : Fcc → Fin 6 → Fcc} (h : ∀ f i, P f → P (op f i))
    (l : List (Fin 6)) {f : Fcc} (hf : P f) : P (l.foldl op f) := by
  induction l generalizing f with
  | nil => exact hf
  | cons i l ih => exact ih (h f i hf)

/-- The permit goes to a QUEUED channel (R127). -/
theorem Fcc.nextStart_queued {order : Nat} {f : Fcc} {i : Fin 6} (h : f.nextStart order = some i) :
    (f.channel i).state = .queued := by
  unfold Fcc.nextStart at h
  split at h
  · rename_i hf
    cases h
    have := List.find?_some hf
    simp [FanChannel.queuedAs] at this
    exact this.1
  · have := List.find?_some h
    simp [FanChannel.queuedAs] at this
    exact this.1

end Sys2Proof.Machine
end

