-- ==== Sys2Proof/Laws/State.lean ====
section
/-! SUPPORT. Laws/State.lean: what each update of the state leaves alone. For an update that is one record
update, one lemma per field, by rfl; for one that branches, one lemma whose conjuncts are the fields. -/

namespace Sys2Proof.Machine

@[simp] theorem State.reportLive_released (live : AlertMask) (s : State) : (s.reportLive live).released = s.released := rfl
@[simp] theorem State.reportLive_loaded (live : AlertMask) (s : State) : (s.reportLive live).loaded = s.loaded := rfl
@[simp] theorem State.reportLive_straps (live : AlertMask) (s : State) : (s.reportLive live).straps = s.straps := rfl
@[simp] theorem State.reportLive_params (live : AlertMask) (s : State) : (s.reportLive live).params = s.params := rfl
@[simp] theorem State.reportLive_cfl (live : AlertMask) (s : State) : (s.reportLive live).cfl = s.cfl := rfl
@[simp] theorem State.reportLive_lsc (live : AlertMask) (s : State) : (s.reportLive live).lsc = s.lsc := rfl
@[simp] theorem State.reportLive_btb (live : AlertMask) (s : State) : (s.reportLive live).btb = s.btb := rfl
@[simp] theorem State.reportLive_ssc (live : AlertMask) (s : State) : (s.reportLive live).ssc = s.ssc := rfl
@[simp] theorem State.reportLive_fde (live : AlertMask) (s : State) : (s.reportLive live).fde = s.fde := rfl
@[simp] theorem State.reportLive_cfm (live : AlertMask) (s : State) : (s.reportLive live).cfm = s.cfm := rfl
@[simp] theorem State.reportLive_fcc (live : AlertMask) (s : State) : (s.reportLive live).fcc = s.fcc := rfl
@[simp] theorem State.reportLive_vdr (live : AlertMask) (s : State) : (s.reportLive live).vdr = s.vdr := rfl
@[simp] theorem State.reportLive_itb (live : AlertMask) (s : State) : (s.reportLive live).itb = s.itb := rfl
@[simp] theorem State.reportLive_ord (live : AlertMask) (s : State) : (s.reportLive live).ord = s.ord := rfl
@[simp] theorem State.reportLive_svp (live : AlertMask) (s : State) : (s.reportLive live).svp = s.svp := rfl
@[simp] theorem State.reportLive_freeCount (live : AlertMask) (s : State) : (s.reportLive live).freeCount = s.freeCount := rfl
@[simp] theorem State.reportLive_cadenceFirst (live : AlertMask) (s : State) : (s.reportLive live).cadenceFirst = s.cadenceFirst := rfl
@[simp] theorem State.reportLive_pending (live : AlertMask) (s : State) : (s.reportLive live).pending = s.pending := rfl

@[simp] theorem State.clearAlerts_released (mask : AlertMask) (s : State) : (s.clearAlerts mask).released = s.released := rfl
@[simp] theorem State.clearAlerts_loaded (mask : AlertMask) (s : State) : (s.clearAlerts mask).loaded = s.loaded := rfl
@[simp] theorem State.clearAlerts_straps (mask : AlertMask) (s : State) : (s.clearAlerts mask).straps = s.straps := rfl
@[simp] theorem State.clearAlerts_params (mask : AlertMask) (s : State) : (s.clearAlerts mask).params = s.params := rfl
@[simp] theorem State.clearAlerts_cfl (mask : AlertMask) (s : State) : (s.clearAlerts mask).cfl = s.cfl := rfl
@[simp] theorem State.clearAlerts_lsc (mask : AlertMask) (s : State) : (s.clearAlerts mask).lsc = s.lsc := rfl
@[simp] theorem State.clearAlerts_btb (mask : AlertMask) (s : State) : (s.clearAlerts mask).btb = s.btb := rfl
@[simp] theorem State.clearAlerts_ssc (mask : AlertMask) (s : State) : (s.clearAlerts mask).ssc = s.ssc := rfl
@[simp] theorem State.clearAlerts_fde (mask : AlertMask) (s : State) : (s.clearAlerts mask).fde = s.fde := rfl
@[simp] theorem State.clearAlerts_cfm (mask : AlertMask) (s : State) : (s.clearAlerts mask).cfm = s.cfm := rfl
@[simp] theorem State.clearAlerts_fcc (mask : AlertMask) (s : State) : (s.clearAlerts mask).fcc = s.fcc := rfl
@[simp] theorem State.clearAlerts_vdr (mask : AlertMask) (s : State) : (s.clearAlerts mask).vdr = s.vdr := rfl
@[simp] theorem State.clearAlerts_itb (mask : AlertMask) (s : State) : (s.clearAlerts mask).itb = s.itb := rfl
@[simp] theorem State.clearAlerts_ord (mask : AlertMask) (s : State) : (s.clearAlerts mask).ord = s.ord := rfl
@[simp] theorem State.clearAlerts_svp (mask : AlertMask) (s : State) : (s.clearAlerts mask).svp = s.svp := rfl
@[simp] theorem State.clearAlerts_freeCount (mask : AlertMask) (s : State) : (s.clearAlerts mask).freeCount = s.freeCount := rfl
@[simp] theorem State.clearAlerts_cadenceFirst (mask : AlertMask) (s : State) : (s.clearAlerts mask).cadenceFirst = s.cadenceFirst := rfl
@[simp] theorem State.clearAlerts_pending (mask : AlertMask) (s : State) : (s.clearAlerts mask).pending = s.pending := rfl

@[simp] theorem State.setTimer_released (id : TimerId) (t : Timer) (s : State) : (s.setTimer id t).released = s.released := rfl
@[simp] theorem State.setTimer_loaded (id : TimerId) (t : Timer) (s : State) : (s.setTimer id t).loaded = s.loaded := rfl
@[simp] theorem State.setTimer_straps (id : TimerId) (t : Timer) (s : State) : (s.setTimer id t).straps = s.straps := rfl
@[simp] theorem State.setTimer_params (id : TimerId) (t : Timer) (s : State) : (s.setTimer id t).params = s.params := rfl
@[simp] theorem State.setTimer_cfl (id : TimerId) (t : Timer) (s : State) : (s.setTimer id t).cfl = s.cfl := rfl
@[simp] theorem State.setTimer_lsc (id : TimerId) (t : Timer) (s : State) : (s.setTimer id t).lsc = s.lsc := rfl
@[simp] theorem State.setTimer_btb (id : TimerId) (t : Timer) (s : State) : (s.setTimer id t).btb = s.btb := rfl
@[simp] theorem State.setTimer_ssc (id : TimerId) (t : Timer) (s : State) : (s.setTimer id t).ssc = s.ssc := rfl
@[simp] theorem State.setTimer_fde (id : TimerId) (t : Timer) (s : State) : (s.setTimer id t).fde = s.fde := rfl
@[simp] theorem State.setTimer_cfm (id : TimerId) (t : Timer) (s : State) : (s.setTimer id t).cfm = s.cfm := rfl
@[simp] theorem State.setTimer_fcc (id : TimerId) (t : Timer) (s : State) : (s.setTimer id t).fcc = s.fcc := rfl
@[simp] theorem State.setTimer_vdr (id : TimerId) (t : Timer) (s : State) : (s.setTimer id t).vdr = s.vdr := rfl
@[simp] theorem State.setTimer_ord (id : TimerId) (t : Timer) (s : State) : (s.setTimer id t).ord = s.ord := rfl
@[simp] theorem State.setTimer_aou (id : TimerId) (t : Timer) (s : State) : (s.setTimer id t).aou = s.aou := rfl
@[simp] theorem State.setTimer_svp (id : TimerId) (t : Timer) (s : State) : (s.setTimer id t).svp = s.svp := rfl
@[simp] theorem State.setTimer_freeCount (id : TimerId) (t : Timer) (s : State) : (s.setTimer id t).freeCount = s.freeCount := rfl
@[simp] theorem State.setTimer_cadenceFirst (id : TimerId) (t : Timer) (s : State) : (s.setTimer id t).cadenceFirst = s.cadenceFirst := rfl
@[simp] theorem State.setTimer_pending (id : TimerId) (t : Timer) (s : State) : (s.setTimer id t).pending = s.pending := rfl

@[simp] theorem State.reportFans_released (s : State) : s.reportFans.released = s.released := rfl
@[simp] theorem State.reportFans_loaded (s : State) : s.reportFans.loaded = s.loaded := rfl
@[simp] theorem State.reportFans_straps (s : State) : s.reportFans.straps = s.straps := rfl
@[simp] theorem State.reportFans_params (s : State) : s.reportFans.params = s.params := rfl
@[simp] theorem State.reportFans_cfl (s : State) : s.reportFans.cfl = s.cfl := rfl
@[simp] theorem State.reportFans_lsc (s : State) : s.reportFans.lsc = s.lsc := rfl
@[simp] theorem State.reportFans_btb (s : State) : s.reportFans.btb = s.btb := rfl
@[simp] theorem State.reportFans_ssc (s : State) : s.reportFans.ssc = s.ssc := rfl
@[simp] theorem State.reportFans_fde (s : State) : s.reportFans.fde = s.fde := rfl
@[simp] theorem State.reportFans_cfm (s : State) : s.reportFans.cfm = s.cfm := rfl
@[simp] theorem State.reportFans_fcc (s : State) : s.reportFans.fcc = s.fcc := rfl
@[simp] theorem State.reportFans_itb (s : State) : s.reportFans.itb = s.itb := rfl
@[simp] theorem State.reportFans_ord (s : State) : s.reportFans.ord = s.ord := rfl
@[simp] theorem State.reportFans_aou (s : State) : s.reportFans.aou = s.aou := rfl
@[simp] theorem State.reportFans_svp (s : State) : s.reportFans.svp = s.svp := rfl
@[simp] theorem State.reportFans_freeCount (s : State) : s.reportFans.freeCount = s.freeCount := rfl
@[simp] theorem State.reportFans_cadenceFirst (s : State) : s.reportFans.cadenceFirst = s.cadenceFirst := rfl
@[simp] theorem State.reportFans_pending (s : State) : s.reportFans.pending = s.pending := rfl

@[simp] theorem State.setFcc_released (f : Fcc) (s : State) : (s.setFcc f).released = s.released := rfl
@[simp] theorem State.setFcc_loaded (f : Fcc) (s : State) : (s.setFcc f).loaded = s.loaded := rfl
@[simp] theorem State.setFcc_straps (f : Fcc) (s : State) : (s.setFcc f).straps = s.straps := rfl
@[simp] theorem State.setFcc_params (f : Fcc) (s : State) : (s.setFcc f).params = s.params := rfl
@[simp] theorem State.setFcc_cfl (f : Fcc) (s : State) : (s.setFcc f).cfl = s.cfl := rfl
@[simp] theorem State.setFcc_lsc (f : Fcc) (s : State) : (s.setFcc f).lsc = s.lsc := rfl
@[simp] theorem State.setFcc_btb (f : Fcc) (s : State) : (s.setFcc f).btb = s.btb := rfl
@[simp] theorem State.setFcc_ssc (f : Fcc) (s : State) : (s.setFcc f).ssc = s.ssc := rfl
@[simp] theorem State.setFcc_fde (f : Fcc) (s : State) : (s.setFcc f).fde = s.fde := rfl
@[simp] theorem State.setFcc_cfm (f : Fcc) (s : State) : (s.setFcc f).cfm = s.cfm := rfl
@[simp] theorem State.setFcc_itb (f : Fcc) (s : State) : (s.setFcc f).itb = s.itb := rfl
@[simp] theorem State.setFcc_ord (f : Fcc) (s : State) : (s.setFcc f).ord = s.ord := rfl
@[simp] theorem State.setFcc_aou (f : Fcc) (s : State) : (s.setFcc f).aou = s.aou := rfl
@[simp] theorem State.setFcc_svp (f : Fcc) (s : State) : (s.setFcc f).svp = s.svp := rfl
@[simp] theorem State.setFcc_freeCount (f : Fcc) (s : State) : (s.setFcc f).freeCount = s.freeCount := rfl
@[simp] theorem State.setFcc_cadenceFirst (f : Fcc) (s : State) : (s.setFcc f).cadenceFirst = s.cadenceFirst := rfl
@[simp] theorem State.setFcc_pending (f : Fcc) (s : State) : (s.setFcc f).pending = s.pending := rfl

@[simp] theorem State.vdrReport_released (s : State) : s.vdrReport.released = s.released := rfl
@[simp] theorem State.vdrReport_loaded (s : State) : s.vdrReport.loaded = s.loaded := rfl
@[simp] theorem State.vdrReport_straps (s : State) : s.vdrReport.straps = s.straps := rfl
@[simp] theorem State.vdrReport_params (s : State) : s.vdrReport.params = s.params := rfl
@[simp] theorem State.vdrReport_cfl (s : State) : s.vdrReport.cfl = s.cfl := rfl
@[simp] theorem State.vdrReport_lsc (s : State) : s.vdrReport.lsc = s.lsc := rfl
@[simp] theorem State.vdrReport_btb (s : State) : s.vdrReport.btb = s.btb := rfl
@[simp] theorem State.vdrReport_ssc (s : State) : s.vdrReport.ssc = s.ssc := rfl
@[simp] theorem State.vdrReport_fde (s : State) : s.vdrReport.fde = s.fde := rfl
@[simp] theorem State.vdrReport_cfm (s : State) : s.vdrReport.cfm = s.cfm := rfl
@[simp] theorem State.vdrReport_fcc (s : State) : s.vdrReport.fcc = s.fcc := rfl
@[simp] theorem State.vdrReport_itb (s : State) : s.vdrReport.itb = s.itb := rfl
@[simp] theorem State.vdrReport_ord (s : State) : s.vdrReport.ord = s.ord := rfl
@[simp] theorem State.vdrReport_aou (s : State) : s.vdrReport.aou = s.aou := rfl
@[simp] theorem State.vdrReport_svp (s : State) : s.vdrReport.svp = s.svp := rfl
@[simp] theorem State.vdrReport_freeCount (s : State) : s.vdrReport.freeCount = s.freeCount := rfl
@[simp] theorem State.vdrReport_cadenceFirst (s : State) : s.vdrReport.cadenceFirst = s.cadenceFirst := rfl
@[simp] theorem State.vdrReport_pending (s : State) : s.vdrReport.pending = s.pending := rfl

@[simp] theorem State.stepValve_released (s : State) : s.stepValve.released = s.released := rfl
@[simp] theorem State.stepValve_loaded (s : State) : s.stepValve.loaded = s.loaded := rfl
@[simp] theorem State.stepValve_straps (s : State) : s.stepValve.straps = s.straps := rfl
@[simp] theorem State.stepValve_params (s : State) : s.stepValve.params = s.params := rfl
@[simp] theorem State.stepValve_cfl (s : State) : s.stepValve.cfl = s.cfl := rfl
@[simp] theorem State.stepValve_lsc (s : State) : s.stepValve.lsc = s.lsc := rfl
@[simp] theorem State.stepValve_btb (s : State) : s.stepValve.btb = s.btb := rfl
@[simp] theorem State.stepValve_ssc (s : State) : s.stepValve.ssc = s.ssc := rfl
@[simp] theorem State.stepValve_fde (s : State) : s.stepValve.fde = s.fde := rfl
@[simp] theorem State.stepValve_cfm (s : State) : s.stepValve.cfm = s.cfm := rfl
@[simp] theorem State.stepValve_fcc (s : State) : s.stepValve.fcc = s.fcc := rfl
@[simp] theorem State.stepValve_itb (s : State) : s.stepValve.itb = s.itb := rfl
@[simp] theorem State.stepValve_ord (s : State) : s.stepValve.ord = s.ord := rfl
@[simp] theorem State.stepValve_aou (s : State) : s.stepValve.aou = s.aou := rfl
@[simp] theorem State.stepValve_svp (s : State) : s.stepValve.svp = s.svp := rfl
@[simp] theorem State.stepValve_freeCount (s : State) : s.stepValve.freeCount = s.freeCount := rfl
@[simp] theorem State.stepValve_cadenceFirst (s : State) : s.stepValve.cadenceFirst = s.cadenceFirst := rfl
@[simp] theorem State.stepValve_pending (s : State) : s.stepValve.pending = s.pending := rfl

@[simp] theorem State.storeRow_released (k : Nat) (cs : List Byte) (s : State) : (s.storeRow k cs).released = s.released := rfl
@[simp] theorem State.storeRow_loaded (k : Nat) (cs : List Byte) (s : State) : (s.storeRow k cs).loaded = s.loaded := rfl
@[simp] theorem State.storeRow_straps (k : Nat) (cs : List Byte) (s : State) : (s.storeRow k cs).straps = s.straps := rfl
@[simp] theorem State.storeRow_params (k : Nat) (cs : List Byte) (s : State) : (s.storeRow k cs).params = s.params := rfl
@[simp] theorem State.storeRow_cfl (k : Nat) (cs : List Byte) (s : State) : (s.storeRow k cs).cfl = s.cfl := rfl
@[simp] theorem State.storeRow_lsc (k : Nat) (cs : List Byte) (s : State) : (s.storeRow k cs).lsc = s.lsc := rfl
@[simp] theorem State.storeRow_ssc (k : Nat) (cs : List Byte) (s : State) : (s.storeRow k cs).ssc = s.ssc := rfl
@[simp] theorem State.storeRow_fde (k : Nat) (cs : List Byte) (s : State) : (s.storeRow k cs).fde = s.fde := rfl
@[simp] theorem State.storeRow_cfm (k : Nat) (cs : List Byte) (s : State) : (s.storeRow k cs).cfm = s.cfm := rfl
@[simp] theorem State.storeRow_fcc (k : Nat) (cs : List Byte) (s : State) : (s.storeRow k cs).fcc = s.fcc := rfl
@[simp] theorem State.storeRow_vdr (k : Nat) (cs : List Byte) (s : State) : (s.storeRow k cs).vdr = s.vdr := rfl
@[simp] theorem State.storeRow_itb (k : Nat) (cs : List Byte) (s : State) : (s.storeRow k cs).itb = s.itb := rfl
@[simp] theorem State.storeRow_ord (k : Nat) (cs : List Byte) (s : State) : (s.storeRow k cs).ord = s.ord := rfl
@[simp] theorem State.storeRow_aou (k : Nat) (cs : List Byte) (s : State) : (s.storeRow k cs).aou = s.aou := rfl
@[simp] theorem State.storeRow_svp (k : Nat) (cs : List Byte) (s : State) : (s.storeRow k cs).svp = s.svp := rfl
@[simp] theorem State.storeRow_freeCount (k : Nat) (cs : List Byte) (s : State) : (s.storeRow k cs).freeCount = s.freeCount := rfl
@[simp] theorem State.storeRow_cadenceFirst (k : Nat) (cs : List Byte) (s : State) : (s.storeRow k cs).cadenceFirst = s.cadenceFirst := rfl
@[simp] theorem State.storeRow_pending (k : Nat) (cs : List Byte) (s : State) : (s.storeRow k cs).pending = s.pending := rfl

@[simp] theorem State.jump_released (p : Nat) (s : State) : (s.jump p).released = s.released := rfl
@[simp] theorem State.jump_loaded (p : Nat) (s : State) : (s.jump p).loaded = s.loaded := rfl
@[simp] theorem State.jump_straps (p : Nat) (s : State) : (s.jump p).straps = s.straps := rfl
@[simp] theorem State.jump_params (p : Nat) (s : State) : (s.jump p).params = s.params := rfl
@[simp] theorem State.jump_cfl (p : Nat) (s : State) : (s.jump p).cfl = s.cfl := rfl
@[simp] theorem State.jump_btb (p : Nat) (s : State) : (s.jump p).btb = s.btb := rfl
@[simp] theorem State.jump_ssc (p : Nat) (s : State) : (s.jump p).ssc = s.ssc := rfl
@[simp] theorem State.jump_fde (p : Nat) (s : State) : (s.jump p).fde = s.fde := rfl
@[simp] theorem State.jump_cfm (p : Nat) (s : State) : (s.jump p).cfm = s.cfm := rfl
@[simp] theorem State.jump_fcc (p : Nat) (s : State) : (s.jump p).fcc = s.fcc := rfl
@[simp] theorem State.jump_vdr (p : Nat) (s : State) : (s.jump p).vdr = s.vdr := rfl
@[simp] theorem State.jump_itb (p : Nat) (s : State) : (s.jump p).itb = s.itb := rfl
@[simp] theorem State.jump_ord (p : Nat) (s : State) : (s.jump p).ord = s.ord := rfl
@[simp] theorem State.jump_aou (p : Nat) (s : State) : (s.jump p).aou = s.aou := rfl
@[simp] theorem State.jump_svp (p : Nat) (s : State) : (s.jump p).svp = s.svp := rfl
@[simp] theorem State.jump_freeCount (p : Nat) (s : State) : (s.jump p).freeCount = s.freeCount := rfl
@[simp] theorem State.jump_cadenceFirst (p : Nat) (s : State) : (s.jump p).cadenceFirst = s.cadenceFirst := rfl
@[simp] theorem State.jump_pending (p : Nat) (s : State) : (s.jump p).pending = s.pending := rfl

@[simp] theorem State.compose_released (s : State) : s.compose.released = s.released := rfl
@[simp] theorem State.compose_loaded (s : State) : s.compose.loaded = s.loaded := rfl
@[simp] theorem State.compose_straps (s : State) : s.compose.straps = s.straps := rfl
@[simp] theorem State.compose_params (s : State) : s.compose.params = s.params := rfl
@[simp] theorem State.compose_cfl (s : State) : s.compose.cfl = s.cfl := rfl
@[simp] theorem State.compose_btb (s : State) : s.compose.btb = s.btb := rfl
@[simp] theorem State.compose_ssc (s : State) : s.compose.ssc = s.ssc := rfl
@[simp] theorem State.compose_fde (s : State) : s.compose.fde = s.fde := rfl
@[simp] theorem State.compose_cfm (s : State) : s.compose.cfm = s.cfm := rfl
@[simp] theorem State.compose_fcc (s : State) : s.compose.fcc = s.fcc := rfl
@[simp] theorem State.compose_vdr (s : State) : s.compose.vdr = s.vdr := rfl
@[simp] theorem State.compose_itb (s : State) : s.compose.itb = s.itb := rfl
@[simp] theorem State.compose_ord (s : State) : s.compose.ord = s.ord := rfl
@[simp] theorem State.compose_aou (s : State) : s.compose.aou = s.aou := rfl
@[simp] theorem State.compose_svp (s : State) : s.compose.svp = s.svp := rfl
@[simp] theorem State.compose_freeCount (s : State) : s.compose.freeCount = s.freeCount := rfl
@[simp] theorem State.compose_cadenceFirst (s : State) : s.compose.cadenceFirst = s.cadenceFirst := rfl
@[simp] theorem State.compose_pending (s : State) : s.compose.pending = s.pending := rfl

@[simp] theorem State.mismatch_released (s : State) : s.mismatch.released = s.released := rfl
@[simp] theorem State.mismatch_loaded (s : State) : s.mismatch.loaded = s.loaded := rfl
@[simp] theorem State.mismatch_straps (s : State) : s.mismatch.straps = s.straps := rfl
@[simp] theorem State.mismatch_params (s : State) : s.mismatch.params = s.params := rfl
@[simp] theorem State.mismatch_cfl (s : State) : s.mismatch.cfl = s.cfl := rfl
@[simp] theorem State.mismatch_btb (s : State) : s.mismatch.btb = s.btb := rfl
@[simp] theorem State.mismatch_ssc (s : State) : s.mismatch.ssc = s.ssc := rfl
@[simp] theorem State.mismatch_fde (s : State) : s.mismatch.fde = s.fde := rfl
@[simp] theorem State.mismatch_cfm (s : State) : s.mismatch.cfm = s.cfm := rfl
@[simp] theorem State.mismatch_fcc (s : State) : s.mismatch.fcc = s.fcc := rfl
@[simp] theorem State.mismatch_vdr (s : State) : s.mismatch.vdr = s.vdr := rfl
@[simp] theorem State.mismatch_itb (s : State) : s.mismatch.itb = s.itb := rfl
@[simp] theorem State.mismatch_ord (s : State) : s.mismatch.ord = s.ord := rfl
@[simp] theorem State.mismatch_aou (s : State) : s.mismatch.aou = s.aou := rfl
@[simp] theorem State.mismatch_svp (s : State) : s.mismatch.svp = s.svp := rfl
@[simp] theorem State.mismatch_freeCount (s : State) : s.mismatch.freeCount = s.freeCount := rfl
@[simp] theorem State.mismatch_cadenceFirst (s : State) : s.mismatch.cadenceFirst = s.cadenceFirst := rfl
@[simp] theorem State.mismatch_pending (s : State) : s.mismatch.pending = s.pending := rfl

@[simp] theorem State.endClean_released (cs : List Byte) (s : State) : (s.endClean cs).released = s.released := rfl
@[simp] theorem State.endClean_loaded (cs : List Byte) (s : State) : (s.endClean cs).loaded = s.loaded := rfl
@[simp] theorem State.endClean_straps (cs : List Byte) (s : State) : (s.endClean cs).straps = s.straps := rfl
@[simp] theorem State.endClean_params (cs : List Byte) (s : State) : (s.endClean cs).params = s.params := rfl
@[simp] theorem State.endClean_cfl (cs : List Byte) (s : State) : (s.endClean cs).cfl = s.cfl := rfl
@[simp] theorem State.endClean_ssc (cs : List Byte) (s : State) : (s.endClean cs).ssc = s.ssc := rfl
@[simp] theorem State.endClean_fde (cs : List Byte) (s : State) : (s.endClean cs).fde = s.fde := rfl
@[simp] theorem State.endClean_cfm (cs : List Byte) (s : State) : (s.endClean cs).cfm = s.cfm := rfl
@[simp] theorem State.endClean_fcc (cs : List Byte) (s : State) : (s.endClean cs).fcc = s.fcc := rfl
@[simp] theorem State.endClean_vdr (cs : List Byte) (s : State) : (s.endClean cs).vdr = s.vdr := rfl
@[simp] theorem State.endClean_itb (cs : List Byte) (s : State) : (s.endClean cs).itb = s.itb := rfl
@[simp] theorem State.endClean_ord (cs : List Byte) (s : State) : (s.endClean cs).ord = s.ord := rfl
@[simp] theorem State.endClean_aou (cs : List Byte) (s : State) : (s.endClean cs).aou = s.aou := rfl
@[simp] theorem State.endClean_svp (cs : List Byte) (s : State) : (s.endClean cs).svp = s.svp := rfl
@[simp] theorem State.endClean_freeCount (cs : List Byte) (s : State) : (s.endClean cs).freeCount = s.freeCount := rfl
@[simp] theorem State.endClean_cadenceFirst (cs : List Byte) (s : State) : (s.endClean cs).cadenceFirst = s.cadenceFirst := rfl
@[simp] theorem State.endClean_pending (cs : List Byte) (s : State) : (s.endClean cs).pending = s.pending := rfl

@[simp] theorem State.latch_released (bus : BusState) (s : State) : (s.latch bus).released = s.released := rfl
@[simp] theorem State.latch_loaded (bus : BusState) (s : State) : (s.latch bus).loaded = s.loaded := rfl
@[simp] theorem State.latch_straps (bus : BusState) (s : State) : (s.latch bus).straps = s.straps := rfl
@[simp] theorem State.latch_params (bus : BusState) (s : State) : (s.latch bus).params = s.params := rfl
@[simp] theorem State.latch_cfl (bus : BusState) (s : State) : (s.latch bus).cfl = s.cfl := rfl
@[simp] theorem State.latch_lsc (bus : BusState) (s : State) : (s.latch bus).lsc = s.lsc := rfl
@[simp] theorem State.latch_btb (bus : BusState) (s : State) : (s.latch bus).btb = s.btb := rfl
@[simp] theorem State.latch_ssc (bus : BusState) (s : State) : (s.latch bus).ssc = s.ssc := rfl
@[simp] theorem State.latch_cfm (bus : BusState) (s : State) : (s.latch bus).cfm = s.cfm := rfl
@[simp] theorem State.latch_fcc (bus : BusState) (s : State) : (s.latch bus).fcc = s.fcc := rfl
@[simp] theorem State.latch_vdr (bus : BusState) (s : State) : (s.latch bus).vdr = s.vdr := rfl
@[simp] theorem State.latch_itb (bus : BusState) (s : State) : (s.latch bus).itb = s.itb := rfl
@[simp] theorem State.latch_ord (bus : BusState) (s : State) : (s.latch bus).ord = s.ord := rfl
@[simp] theorem State.latch_aou (bus : BusState) (s : State) : (s.latch bus).aou = s.aou := rfl
@[simp] theorem State.latch_svp (bus : BusState) (s : State) : (s.latch bus).svp = s.svp := rfl
@[simp] theorem State.latch_freeCount (bus : BusState) (s : State) : (s.latch bus).freeCount = s.freeCount := rfl
@[simp] theorem State.latch_cadenceFirst (bus : BusState) (s : State) : (s.latch bus).cadenceFirst = s.cadenceFirst := rfl
@[simp] theorem State.latch_pending (bus : BusState) (s : State) : (s.latch bus).pending = s.pending := rfl

@[simp] theorem State.countCadence_released (s : State) : s.countCadence.released = s.released := rfl
@[simp] theorem State.countCadence_loaded (s : State) : s.countCadence.loaded = s.loaded := rfl
@[simp] theorem State.countCadence_straps (s : State) : s.countCadence.straps = s.straps := rfl
@[simp] theorem State.countCadence_params (s : State) : s.countCadence.params = s.params := rfl
@[simp] theorem State.countCadence_cfl (s : State) : s.countCadence.cfl = s.cfl := rfl
@[simp] theorem State.countCadence_lsc (s : State) : s.countCadence.lsc = s.lsc := rfl
@[simp] theorem State.countCadence_btb (s : State) : s.countCadence.btb = s.btb := rfl
@[simp] theorem State.countCadence_ssc (s : State) : s.countCadence.ssc = s.ssc := rfl
@[simp] theorem State.countCadence_fde (s : State) : s.countCadence.fde = s.fde := rfl
@[simp] theorem State.countCadence_cfm (s : State) : s.countCadence.cfm = s.cfm := rfl
@[simp] theorem State.countCadence_fcc (s : State) : s.countCadence.fcc = s.fcc := rfl
@[simp] theorem State.countCadence_vdr (s : State) : s.countCadence.vdr = s.vdr := rfl
@[simp] theorem State.countCadence_itb (s : State) : s.countCadence.itb = s.itb := rfl
@[simp] theorem State.countCadence_ord (s : State) : s.countCadence.ord = s.ord := rfl
@[simp] theorem State.countCadence_svp (s : State) : s.countCadence.svp = s.svp := rfl
@[simp] theorem State.countCadence_freeCount (s : State) : s.countCadence.freeCount = s.freeCount := rfl
@[simp] theorem State.countCadence_cadenceFirst (s : State) : s.countCadence.cadenceFirst = s.cadenceFirst := rfl
@[simp] theorem State.countCadence_pending (s : State) : s.countCadence.pending = s.pending := rfl

@[simp] theorem State.takeSettings_released (o : Order) (s : State) : (s.takeSettings o).released = s.released := rfl
@[simp] theorem State.takeSettings_loaded (o : Order) (s : State) : (s.takeSettings o).loaded = s.loaded := rfl
@[simp] theorem State.takeSettings_straps (o : Order) (s : State) : (s.takeSettings o).straps = s.straps := rfl
@[simp] theorem State.takeSettings_params (o : Order) (s : State) : (s.takeSettings o).params = s.params := rfl
@[simp] theorem State.takeSettings_cfl (o : Order) (s : State) : (s.takeSettings o).cfl = s.cfl := rfl
@[simp] theorem State.takeSettings_lsc (o : Order) (s : State) : (s.takeSettings o).lsc = s.lsc := rfl
@[simp] theorem State.takeSettings_btb (o : Order) (s : State) : (s.takeSettings o).btb = s.btb := rfl
@[simp] theorem State.takeSettings_ssc (o : Order) (s : State) : (s.takeSettings o).ssc = s.ssc := rfl
@[simp] theorem State.takeSettings_fde (o : Order) (s : State) : (s.takeSettings o).fde = s.fde := rfl
@[simp] theorem State.takeSettings_cfm (o : Order) (s : State) : (s.takeSettings o).cfm = s.cfm := rfl
@[simp] theorem State.takeSettings_fcc (o : Order) (s : State) : (s.takeSettings o).fcc = s.fcc := rfl
@[simp] theorem State.takeSettings_vdr (o : Order) (s : State) : (s.takeSettings o).vdr = s.vdr := rfl
@[simp] theorem State.takeSettings_itb (o : Order) (s : State) : (s.takeSettings o).itb = s.itb := rfl
@[simp] theorem State.takeSettings_aou (o : Order) (s : State) : (s.takeSettings o).aou = s.aou := rfl
@[simp] theorem State.takeSettings_svp (o : Order) (s : State) : (s.takeSettings o).svp = s.svp := rfl
@[simp] theorem State.takeSettings_freeCount (o : Order) (s : State) : (s.takeSettings o).freeCount = s.freeCount := rfl
@[simp] theorem State.takeSettings_cadenceFirst (o : Order) (s : State) : (s.takeSettings o).cadenceFirst = s.cadenceFirst := rfl
@[simp] theorem State.takeSettings_pending (o : Order) (s : State) : (s.takeSettings o).pending = s.pending := rfl

@[simp] theorem State.takeMasks_released (o : Order) (s : State) : (s.takeMasks o).released = s.released := rfl
@[simp] theorem State.takeMasks_loaded (o : Order) (s : State) : (s.takeMasks o).loaded = s.loaded := rfl
@[simp] theorem State.takeMasks_straps (o : Order) (s : State) : (s.takeMasks o).straps = s.straps := rfl
@[simp] theorem State.takeMasks_params (o : Order) (s : State) : (s.takeMasks o).params = s.params := rfl
@[simp] theorem State.takeMasks_cfl (o : Order) (s : State) : (s.takeMasks o).cfl = s.cfl := rfl
@[simp] theorem State.takeMasks_lsc (o : Order) (s : State) : (s.takeMasks o).lsc = s.lsc := rfl
@[simp] theorem State.takeMasks_btb (o : Order) (s : State) : (s.takeMasks o).btb = s.btb := rfl
@[simp] theorem State.takeMasks_ssc (o : Order) (s : State) : (s.takeMasks o).ssc = s.ssc := rfl
@[simp] theorem State.takeMasks_fde (o : Order) (s : State) : (s.takeMasks o).fde = s.fde := rfl
@[simp] theorem State.takeMasks_cfm (o : Order) (s : State) : (s.takeMasks o).cfm = s.cfm := rfl
@[simp] theorem State.takeMasks_fcc (o : Order) (s : State) : (s.takeMasks o).fcc = s.fcc := rfl
@[simp] theorem State.takeMasks_vdr (o : Order) (s : State) : (s.takeMasks o).vdr = s.vdr := rfl
@[simp] theorem State.takeMasks_itb (o : Order) (s : State) : (s.takeMasks o).itb = s.itb := rfl
@[simp] theorem State.takeMasks_aou (o : Order) (s : State) : (s.takeMasks o).aou = s.aou := rfl
@[simp] theorem State.takeMasks_svp (o : Order) (s : State) : (s.takeMasks o).svp = s.svp := rfl
@[simp] theorem State.takeMasks_freeCount (o : Order) (s : State) : (s.takeMasks o).freeCount = s.freeCount := rfl
@[simp] theorem State.takeMasks_cadenceFirst (o : Order) (s : State) : (s.takeMasks o).cadenceFirst = s.cadenceFirst := rfl
@[simp] theorem State.takeMasks_pending (o : Order) (s : State) : (s.takeMasks o).pending = s.pending := rfl

@[simp] theorem State.holdLevels_released (o : Order) (s : State) : (s.holdLevels o).released = s.released := rfl
@[simp] theorem State.holdLevels_loaded (o : Order) (s : State) : (s.holdLevels o).loaded = s.loaded := rfl
@[simp] theorem State.holdLevels_straps (o : Order) (s : State) : (s.holdLevels o).straps = s.straps := rfl
@[simp] theorem State.holdLevels_params (o : Order) (s : State) : (s.holdLevels o).params = s.params := rfl
@[simp] theorem State.holdLevels_cfl (o : Order) (s : State) : (s.holdLevels o).cfl = s.cfl := rfl
@[simp] theorem State.holdLevels_lsc (o : Order) (s : State) : (s.holdLevels o).lsc = s.lsc := rfl
@[simp] theorem State.holdLevels_btb (o : Order) (s : State) : (s.holdLevels o).btb = s.btb := rfl
@[simp] theorem State.holdLevels_ssc (o : Order) (s : State) : (s.holdLevels o).ssc = s.ssc := rfl
@[simp] theorem State.holdLevels_fde (o : Order) (s : State) : (s.holdLevels o).fde = s.fde := rfl
@[simp] theorem State.holdLevels_cfm (o : Order) (s : State) : (s.holdLevels o).cfm = s.cfm := rfl
@[simp] theorem State.holdLevels_fcc (o : Order) (s : State) : (s.holdLevels o).fcc = s.fcc := rfl
@[simp] theorem State.holdLevels_vdr (o : Order) (s : State) : (s.holdLevels o).vdr = s.vdr := rfl
@[simp] theorem State.holdLevels_itb (o : Order) (s : State) : (s.holdLevels o).itb = s.itb := rfl
@[simp] theorem State.holdLevels_aou (o : Order) (s : State) : (s.holdLevels o).aou = s.aou := rfl
@[simp] theorem State.holdLevels_svp (o : Order) (s : State) : (s.holdLevels o).svp = s.svp := rfl
@[simp] theorem State.holdLevels_freeCount (o : Order) (s : State) : (s.holdLevels o).freeCount = s.freeCount := rfl
@[simp] theorem State.holdLevels_cadenceFirst (o : Order) (s : State) : (s.holdLevels o).cadenceFirst = s.cadenceFirst := rfl
@[simp] theorem State.holdLevels_pending (o : Order) (s : State) : (s.holdLevels o).pending = s.pending := rfl

@[simp] theorem State.markTaken_released (s : State) : s.markTaken.released = s.released := rfl
@[simp] theorem State.markTaken_loaded (s : State) : s.markTaken.loaded = s.loaded := rfl
@[simp] theorem State.markTaken_straps (s : State) : s.markTaken.straps = s.straps := rfl
@[simp] theorem State.markTaken_params (s : State) : s.markTaken.params = s.params := rfl
@[simp] theorem State.markTaken_cfl (s : State) : s.markTaken.cfl = s.cfl := rfl
@[simp] theorem State.markTaken_lsc (s : State) : s.markTaken.lsc = s.lsc := rfl
@[simp] theorem State.markTaken_btb (s : State) : s.markTaken.btb = s.btb := rfl
@[simp] theorem State.markTaken_ssc (s : State) : s.markTaken.ssc = s.ssc := rfl
@[simp] theorem State.markTaken_fde (s : State) : s.markTaken.fde = s.fde := rfl
@[simp] theorem State.markTaken_cfm (s : State) : s.markTaken.cfm = s.cfm := rfl
@[simp] theorem State.markTaken_fcc (s : State) : s.markTaken.fcc = s.fcc := rfl
@[simp] theorem State.markTaken_vdr (s : State) : s.markTaken.vdr = s.vdr := rfl
@[simp] theorem State.markTaken_itb (s : State) : s.markTaken.itb = s.itb := rfl
@[simp] theorem State.markTaken_aou (s : State) : s.markTaken.aou = s.aou := rfl
@[simp] theorem State.markTaken_svp (s : State) : s.markTaken.svp = s.svp := rfl
@[simp] theorem State.markTaken_freeCount (s : State) : s.markTaken.freeCount = s.freeCount := rfl
@[simp] theorem State.markTaken_cadenceFirst (s : State) : s.markTaken.cadenceFirst = s.cadenceFirst := rfl
@[simp] theorem State.markTaken_pending (s : State) : s.markTaken.pending = s.pending := rfl

@[simp] theorem State.putDrained_released (drained : Bool) (s : State) : (s.putDrained drained).released = s.released := rfl
@[simp] theorem State.putDrained_loaded (drained : Bool) (s : State) : (s.putDrained drained).loaded = s.loaded := rfl
@[simp] theorem State.putDrained_straps (drained : Bool) (s : State) : (s.putDrained drained).straps = s.straps := rfl
@[simp] theorem State.putDrained_params (drained : Bool) (s : State) : (s.putDrained drained).params = s.params := rfl
@[simp] theorem State.putDrained_cfl (drained : Bool) (s : State) : (s.putDrained drained).cfl = s.cfl := rfl
@[simp] theorem State.putDrained_lsc (drained : Bool) (s : State) : (s.putDrained drained).lsc = s.lsc := rfl
@[simp] theorem State.putDrained_btb (drained : Bool) (s : State) : (s.putDrained drained).btb = s.btb := rfl
@[simp] theorem State.putDrained_ssc (drained : Bool) (s : State) : (s.putDrained drained).ssc = s.ssc := rfl
@[simp] theorem State.putDrained_cfm (drained : Bool) (s : State) : (s.putDrained drained).cfm = s.cfm := rfl
@[simp] theorem State.putDrained_fcc (drained : Bool) (s : State) : (s.putDrained drained).fcc = s.fcc := rfl
@[simp] theorem State.putDrained_vdr (drained : Bool) (s : State) : (s.putDrained drained).vdr = s.vdr := rfl
@[simp] theorem State.putDrained_itb (drained : Bool) (s : State) : (s.putDrained drained).itb = s.itb := rfl
@[simp] theorem State.putDrained_ord (drained : Bool) (s : State) : (s.putDrained drained).ord = s.ord := rfl
@[simp] theorem State.putDrained_aou (drained : Bool) (s : State) : (s.putDrained drained).aou = s.aou := rfl
@[simp] theorem State.putDrained_svp (drained : Bool) (s : State) : (s.putDrained drained).svp = s.svp := rfl
@[simp] theorem State.putDrained_freeCount (drained : Bool) (s : State) : (s.putDrained drained).freeCount = s.freeCount := rfl
@[simp] theorem State.putDrained_cadenceFirst (drained : Bool) (s : State) : (s.putDrained drained).cadenceFirst = s.cadenceFirst := rfl
@[simp] theorem State.putDrained_pending (drained : Bool) (s : State) : (s.putDrained drained).pending = s.pending := rfl

@[simp] theorem State.frostAlerts_released (s : State) : s.frostAlerts.released = s.released := rfl
@[simp] theorem State.frostAlerts_loaded (s : State) : s.frostAlerts.loaded = s.loaded := rfl
@[simp] theorem State.frostAlerts_straps (s : State) : s.frostAlerts.straps = s.straps := rfl
@[simp] theorem State.frostAlerts_params (s : State) : s.frostAlerts.params = s.params := rfl
@[simp] theorem State.frostAlerts_cfl (s : State) : s.frostAlerts.cfl = s.cfl := rfl
@[simp] theorem State.frostAlerts_lsc (s : State) : s.frostAlerts.lsc = s.lsc := rfl
@[simp] theorem State.frostAlerts_btb (s : State) : s.frostAlerts.btb = s.btb := rfl
@[simp] theorem State.frostAlerts_ssc (s : State) : s.frostAlerts.ssc = s.ssc := rfl
@[simp] theorem State.frostAlerts_fde (s : State) : s.frostAlerts.fde = s.fde := rfl
@[simp] theorem State.frostAlerts_cfm (s : State) : s.frostAlerts.cfm = s.cfm := rfl
@[simp] theorem State.frostAlerts_fcc (s : State) : s.frostAlerts.fcc = s.fcc := rfl
@[simp] theorem State.frostAlerts_vdr (s : State) : s.frostAlerts.vdr = s.vdr := rfl
@[simp] theorem State.frostAlerts_itb (s : State) : s.frostAlerts.itb = s.itb := rfl
@[simp] theorem State.frostAlerts_ord (s : State) : s.frostAlerts.ord = s.ord := rfl
@[simp] theorem State.frostAlerts_svp (s : State) : s.frostAlerts.svp = s.svp := rfl
@[simp] theorem State.frostAlerts_freeCount (s : State) : s.frostAlerts.freeCount = s.freeCount := rfl
@[simp] theorem State.frostAlerts_cadenceFirst (s : State) : s.frostAlerts.cadenceFirst = s.cadenceFirst := rfl
@[simp] theorem State.frostAlerts_pending (s : State) : s.frostAlerts.pending = s.pending := rfl

@[simp] theorem State.frostValve_released (s : State) : s.frostValve.released = s.released := rfl
@[simp] theorem State.frostValve_loaded (s : State) : s.frostValve.loaded = s.loaded := rfl
@[simp] theorem State.frostValve_straps (s : State) : s.frostValve.straps = s.straps := rfl
@[simp] theorem State.frostValve_params (s : State) : s.frostValve.params = s.params := rfl
@[simp] theorem State.frostValve_cfl (s : State) : s.frostValve.cfl = s.cfl := rfl
@[simp] theorem State.frostValve_lsc (s : State) : s.frostValve.lsc = s.lsc := rfl
@[simp] theorem State.frostValve_btb (s : State) : s.frostValve.btb = s.btb := rfl
@[simp] theorem State.frostValve_ssc (s : State) : s.frostValve.ssc = s.ssc := rfl
@[simp] theorem State.frostValve_fde (s : State) : s.frostValve.fde = s.fde := rfl
@[simp] theorem State.frostValve_cfm (s : State) : s.frostValve.cfm = s.cfm := rfl
@[simp] theorem State.frostValve_fcc (s : State) : s.frostValve.fcc = s.fcc := rfl
@[simp] theorem State.frostValve_itb (s : State) : s.frostValve.itb = s.itb := rfl
@[simp] theorem State.frostValve_ord (s : State) : s.frostValve.ord = s.ord := rfl
@[simp] theorem State.frostValve_aou (s : State) : s.frostValve.aou = s.aou := rfl
@[simp] theorem State.frostValve_svp (s : State) : s.frostValve.svp = s.svp := rfl
@[simp] theorem State.frostValve_freeCount (s : State) : s.frostValve.freeCount = s.freeCount := rfl
@[simp] theorem State.frostValve_cadenceFirst (s : State) : s.frostValve.cadenceFirst = s.cadenceFirst := rfl
@[simp] theorem State.frostValve_pending (s : State) : s.frostValve.pending = s.pending := rfl

@[simp] theorem State.suspendCfm_released (s : State) : s.suspendCfm.released = s.released := rfl
@[simp] theorem State.suspendCfm_loaded (s : State) : s.suspendCfm.loaded = s.loaded := rfl
@[simp] theorem State.suspendCfm_straps (s : State) : s.suspendCfm.straps = s.straps := rfl
@[simp] theorem State.suspendCfm_params (s : State) : s.suspendCfm.params = s.params := rfl
@[simp] theorem State.suspendCfm_cfl (s : State) : s.suspendCfm.cfl = s.cfl := rfl
@[simp] theorem State.suspendCfm_lsc (s : State) : s.suspendCfm.lsc = s.lsc := rfl
@[simp] theorem State.suspendCfm_btb (s : State) : s.suspendCfm.btb = s.btb := rfl
@[simp] theorem State.suspendCfm_ssc (s : State) : s.suspendCfm.ssc = s.ssc := rfl
@[simp] theorem State.suspendCfm_fde (s : State) : s.suspendCfm.fde = s.fde := rfl
@[simp] theorem State.suspendCfm_fcc (s : State) : s.suspendCfm.fcc = s.fcc := rfl
@[simp] theorem State.suspendCfm_vdr (s : State) : s.suspendCfm.vdr = s.vdr := rfl
@[simp] theorem State.suspendCfm_itb (s : State) : s.suspendCfm.itb = s.itb := rfl
@[simp] theorem State.suspendCfm_ord (s : State) : s.suspendCfm.ord = s.ord := rfl
@[simp] theorem State.suspendCfm_aou (s : State) : s.suspendCfm.aou = s.aou := rfl
@[simp] theorem State.suspendCfm_svp (s : State) : s.suspendCfm.svp = s.svp := rfl
@[simp] theorem State.suspendCfm_freeCount (s : State) : s.suspendCfm.freeCount = s.freeCount := rfl
@[simp] theorem State.suspendCfm_cadenceFirst (s : State) : s.suspendCfm.cadenceFirst = s.cadenceFirst := rfl
@[simp] theorem State.suspendCfm_pending (s : State) : s.suspendCfm.pending = s.pending := rfl

@[simp] theorem State.putFrost_released (new : FrostState) (s : State) : (s.putFrost new).released = s.released := rfl
@[simp] theorem State.putFrost_loaded (new : FrostState) (s : State) : (s.putFrost new).loaded = s.loaded := rfl
@[simp] theorem State.putFrost_straps (new : FrostState) (s : State) : (s.putFrost new).straps = s.straps := rfl
@[simp] theorem State.putFrost_params (new : FrostState) (s : State) : (s.putFrost new).params = s.params := rfl
@[simp] theorem State.putFrost_cfl (new : FrostState) (s : State) : (s.putFrost new).cfl = s.cfl := rfl
@[simp] theorem State.putFrost_lsc (new : FrostState) (s : State) : (s.putFrost new).lsc = s.lsc := rfl
@[simp] theorem State.putFrost_btb (new : FrostState) (s : State) : (s.putFrost new).btb = s.btb := rfl
@[simp] theorem State.putFrost_ssc (new : FrostState) (s : State) : (s.putFrost new).ssc = s.ssc := rfl
@[simp] theorem State.putFrost_fde (new : FrostState) (s : State) : (s.putFrost new).fde = s.fde := rfl
@[simp] theorem State.putFrost_fcc (new : FrostState) (s : State) : (s.putFrost new).fcc = s.fcc := rfl
@[simp] theorem State.putFrost_vdr (new : FrostState) (s : State) : (s.putFrost new).vdr = s.vdr := rfl
@[simp] theorem State.putFrost_itb (new : FrostState) (s : State) : (s.putFrost new).itb = s.itb := rfl
@[simp] theorem State.putFrost_ord (new : FrostState) (s : State) : (s.putFrost new).ord = s.ord := rfl
@[simp] theorem State.putFrost_aou (new : FrostState) (s : State) : (s.putFrost new).aou = s.aou := rfl
@[simp] theorem State.putFrost_svp (new : FrostState) (s : State) : (s.putFrost new).svp = s.svp := rfl
@[simp] theorem State.putFrost_freeCount (new : FrostState) (s : State) : (s.putFrost new).freeCount = s.freeCount := rfl
@[simp] theorem State.putFrost_cadenceFirst (new : FrostState) (s : State) : (s.putFrost new).cadenceFirst = s.cadenceFirst := rfl
@[simp] theorem State.putFrost_pending (new : FrostState) (s : State) : (s.putFrost new).pending = s.pending := rfl

@[simp] theorem State.frostFans_released (old new : FrostState) (s : State) : (s.frostFans old new).released = s.released := rfl
@[simp] theorem State.frostFans_loaded (old new : FrostState) (s : State) : (s.frostFans old new).loaded = s.loaded := rfl
@[simp] theorem State.frostFans_straps (old new : FrostState) (s : State) : (s.frostFans old new).straps = s.straps := rfl
@[simp] theorem State.frostFans_params (old new : FrostState) (s : State) : (s.frostFans old new).params = s.params := rfl
@[simp] theorem State.frostFans_cfl (old new : FrostState) (s : State) : (s.frostFans old new).cfl = s.cfl := rfl
@[simp] theorem State.frostFans_lsc (old new : FrostState) (s : State) : (s.frostFans old new).lsc = s.lsc := rfl
@[simp] theorem State.frostFans_btb (old new : FrostState) (s : State) : (s.frostFans old new).btb = s.btb := rfl
@[simp] theorem State.frostFans_ssc (old new : FrostState) (s : State) : (s.frostFans old new).ssc = s.ssc := rfl
@[simp] theorem State.frostFans_fde (old new : FrostState) (s : State) : (s.frostFans old new).fde = s.fde := rfl
@[simp] theorem State.frostFans_cfm (old new : FrostState) (s : State) : (s.frostFans old new).cfm = s.cfm := rfl
@[simp] theorem State.frostFans_itb (old new : FrostState) (s : State) : (s.frostFans old new).itb = s.itb := rfl
@[simp] theorem State.frostFans_ord (old new : FrostState) (s : State) : (s.frostFans old new).ord = s.ord := rfl
@[simp] theorem State.frostFans_aou (old new : FrostState) (s : State) : (s.frostFans old new).aou = s.aou := rfl
@[simp] theorem State.frostFans_svp (old new : FrostState) (s : State) : (s.frostFans old new).svp = s.svp := rfl
@[simp] theorem State.frostFans_freeCount (old new : FrostState) (s : State) : (s.frostFans old new).freeCount = s.freeCount := rfl
@[simp] theorem State.frostFans_cadenceFirst (old new : FrostState) (s : State) : (s.frostFans old new).cadenceFirst = s.cadenceFirst := rfl
@[simp] theorem State.frostFans_pending (old new : FrostState) (s : State) : (s.frostFans old new).pending = s.pending := rfl

@[simp] theorem State.putGuardPending_released (on : Bool) (s : State) : (s.putGuardPending on).released = s.released := rfl
@[simp] theorem State.putGuardPending_loaded (on : Bool) (s : State) : (s.putGuardPending on).loaded = s.loaded := rfl
@[simp] theorem State.putGuardPending_straps (on : Bool) (s : State) : (s.putGuardPending on).straps = s.straps := rfl
@[simp] theorem State.putGuardPending_params (on : Bool) (s : State) : (s.putGuardPending on).params = s.params := rfl
@[simp] theorem State.putGuardPending_cfl (on : Bool) (s : State) : (s.putGuardPending on).cfl = s.cfl := rfl
@[simp] theorem State.putGuardPending_lsc (on : Bool) (s : State) : (s.putGuardPending on).lsc = s.lsc := rfl
@[simp] theorem State.putGuardPending_btb (on : Bool) (s : State) : (s.putGuardPending on).btb = s.btb := rfl
@[simp] theorem State.putGuardPending_ssc (on : Bool) (s : State) : (s.putGuardPending on).ssc = s.ssc := rfl
@[simp] theorem State.putGuardPending_fde (on : Bool) (s : State) : (s.putGuardPending on).fde = s.fde := rfl
@[simp] theorem State.putGuardPending_fcc (on : Bool) (s : State) : (s.putGuardPending on).fcc = s.fcc := rfl
@[simp] theorem State.putGuardPending_vdr (on : Bool) (s : State) : (s.putGuardPending on).vdr = s.vdr := rfl
@[simp] theorem State.putGuardPending_itb (on : Bool) (s : State) : (s.putGuardPending on).itb = s.itb := rfl
@[simp] theorem State.putGuardPending_ord (on : Bool) (s : State) : (s.putGuardPending on).ord = s.ord := rfl
@[simp] theorem State.putGuardPending_aou (on : Bool) (s : State) : (s.putGuardPending on).aou = s.aou := rfl
@[simp] theorem State.putGuardPending_svp (on : Bool) (s : State) : (s.putGuardPending on).svp = s.svp := rfl
@[simp] theorem State.putGuardPending_freeCount (on : Bool) (s : State) : (s.putGuardPending on).freeCount = s.freeCount := rfl
@[simp] theorem State.putGuardPending_cadenceFirst (on : Bool) (s : State) : (s.putGuardPending on).cadenceFirst = s.cadenceFirst := rfl
@[simp] theorem State.putGuardPending_pending (on : Bool) (s : State) : (s.putGuardPending on).pending = s.pending := rfl

@[simp] theorem State.putProtectPending_released (on : Bool) (s : State) : (s.putProtectPending on).released = s.released := rfl
@[simp] theorem State.putProtectPending_loaded (on : Bool) (s : State) : (s.putProtectPending on).loaded = s.loaded := rfl
@[simp] theorem State.putProtectPending_straps (on : Bool) (s : State) : (s.putProtectPending on).straps = s.straps := rfl
@[simp] theorem State.putProtectPending_params (on : Bool) (s : State) : (s.putProtectPending on).params = s.params := rfl
@[simp] theorem State.putProtectPending_cfl (on : Bool) (s : State) : (s.putProtectPending on).cfl = s.cfl := rfl
@[simp] theorem State.putProtectPending_lsc (on : Bool) (s : State) : (s.putProtectPending on).lsc = s.lsc := rfl
@[simp] theorem State.putProtectPending_btb (on : Bool) (s : State) : (s.putProtectPending on).btb = s.btb := rfl
@[simp] theorem State.putProtectPending_ssc (on : Bool) (s : State) : (s.putProtectPending on).ssc = s.ssc := rfl
@[simp] theorem State.putProtectPending_fde (on : Bool) (s : State) : (s.putProtectPending on).fde = s.fde := rfl
@[simp] theorem State.putProtectPending_fcc (on : Bool) (s : State) : (s.putProtectPending on).fcc = s.fcc := rfl
@[simp] theorem State.putProtectPending_vdr (on : Bool) (s : State) : (s.putProtectPending on).vdr = s.vdr := rfl
@[simp] theorem State.putProtectPending_itb (on : Bool) (s : State) : (s.putProtectPending on).itb = s.itb := rfl
@[simp] theorem State.putProtectPending_ord (on : Bool) (s : State) : (s.putProtectPending on).ord = s.ord := rfl
@[simp] theorem State.putProtectPending_aou (on : Bool) (s : State) : (s.putProtectPending on).aou = s.aou := rfl
@[simp] theorem State.putProtectPending_svp (on : Bool) (s : State) : (s.putProtectPending on).svp = s.svp := rfl
@[simp] theorem State.putProtectPending_freeCount (on : Bool) (s : State) : (s.putProtectPending on).freeCount = s.freeCount := rfl
@[simp] theorem State.putProtectPending_cadenceFirst (on : Bool) (s : State) : (s.putProtectPending on).cadenceFirst = s.cadenceFirst := rfl
@[simp] theorem State.putProtectPending_pending (on : Bool) (s : State) : (s.putProtectPending on).pending = s.pending := rfl

@[simp] theorem State.resume_released (s : State) : s.resume.released = s.released := rfl
@[simp] theorem State.resume_loaded (s : State) : s.resume.loaded = s.loaded := rfl
@[simp] theorem State.resume_straps (s : State) : s.resume.straps = s.straps := rfl
@[simp] theorem State.resume_params (s : State) : s.resume.params = s.params := rfl
@[simp] theorem State.resume_cfl (s : State) : s.resume.cfl = s.cfl := rfl
@[simp] theorem State.resume_lsc (s : State) : s.resume.lsc = s.lsc := rfl
@[simp] theorem State.resume_btb (s : State) : s.resume.btb = s.btb := rfl
@[simp] theorem State.resume_ssc (s : State) : s.resume.ssc = s.ssc := rfl
@[simp] theorem State.resume_fde (s : State) : s.resume.fde = s.fde := rfl
@[simp] theorem State.resume_fcc (s : State) : s.resume.fcc = s.fcc := rfl
@[simp] theorem State.resume_vdr (s : State) : s.resume.vdr = s.vdr := rfl
@[simp] theorem State.resume_itb (s : State) : s.resume.itb = s.itb := rfl
@[simp] theorem State.resume_ord (s : State) : s.resume.ord = s.ord := rfl
@[simp] theorem State.resume_aou (s : State) : s.resume.aou = s.aou := rfl
@[simp] theorem State.resume_svp (s : State) : s.resume.svp = s.svp := rfl
@[simp] theorem State.resume_freeCount (s : State) : s.resume.freeCount = s.freeCount := rfl
@[simp] theorem State.resume_cadenceFirst (s : State) : s.resume.cadenceFirst = s.cadenceFirst := rfl
@[simp] theorem State.resume_pending (s : State) : s.resume.pending = s.pending := rfl

@[simp] theorem State.takeEnd_released (s : State) : s.takeEnd.released = s.released := rfl
@[simp] theorem State.takeEnd_loaded (s : State) : s.takeEnd.loaded = s.loaded := rfl
@[simp] theorem State.takeEnd_straps (s : State) : s.takeEnd.straps = s.straps := rfl
@[simp] theorem State.takeEnd_params (s : State) : s.takeEnd.params = s.params := rfl
@[simp] theorem State.takeEnd_cfl (s : State) : s.takeEnd.cfl = s.cfl := rfl
@[simp] theorem State.takeEnd_btb (s : State) : s.takeEnd.btb = s.btb := rfl
@[simp] theorem State.takeEnd_ssc (s : State) : s.takeEnd.ssc = s.ssc := rfl
@[simp] theorem State.takeEnd_fde (s : State) : s.takeEnd.fde = s.fde := rfl
@[simp] theorem State.takeEnd_cfm (s : State) : s.takeEnd.cfm = s.cfm := rfl
@[simp] theorem State.takeEnd_fcc (s : State) : s.takeEnd.fcc = s.fcc := rfl
@[simp] theorem State.takeEnd_vdr (s : State) : s.takeEnd.vdr = s.vdr := rfl
@[simp] theorem State.takeEnd_itb (s : State) : s.takeEnd.itb = s.itb := rfl
@[simp] theorem State.takeEnd_ord (s : State) : s.takeEnd.ord = s.ord := rfl
@[simp] theorem State.takeEnd_aou (s : State) : s.takeEnd.aou = s.aou := rfl
@[simp] theorem State.takeEnd_svp (s : State) : s.takeEnd.svp = s.svp := rfl
@[simp] theorem State.takeEnd_freeCount (s : State) : s.takeEnd.freeCount = s.freeCount := rfl
@[simp] theorem State.takeEnd_cadenceFirst (s : State) : s.takeEnd.cadenceFirst = s.cadenceFirst := rfl
@[simp] theorem State.takeEnd_pending (s : State) : s.takeEnd.pending = s.pending := rfl

@[simp] theorem State.ageRows_released (s : State) : s.ageRows.released = s.released := rfl
@[simp] theorem State.ageRows_loaded (s : State) : s.ageRows.loaded = s.loaded := rfl
@[simp] theorem State.ageRows_straps (s : State) : s.ageRows.straps = s.straps := rfl
@[simp] theorem State.ageRows_params (s : State) : s.ageRows.params = s.params := rfl
@[simp] theorem State.ageRows_cfl (s : State) : s.ageRows.cfl = s.cfl := rfl
@[simp] theorem State.ageRows_lsc (s : State) : s.ageRows.lsc = s.lsc := rfl
@[simp] theorem State.ageRows_ssc (s : State) : s.ageRows.ssc = s.ssc := rfl
@[simp] theorem State.ageRows_fde (s : State) : s.ageRows.fde = s.fde := rfl
@[simp] theorem State.ageRows_cfm (s : State) : s.ageRows.cfm = s.cfm := rfl
@[simp] theorem State.ageRows_fcc (s : State) : s.ageRows.fcc = s.fcc := rfl
@[simp] theorem State.ageRows_vdr (s : State) : s.ageRows.vdr = s.vdr := rfl
@[simp] theorem State.ageRows_itb (s : State) : s.ageRows.itb = s.itb := rfl
@[simp] theorem State.ageRows_ord (s : State) : s.ageRows.ord = s.ord := rfl
@[simp] theorem State.ageRows_aou (s : State) : s.ageRows.aou = s.aou := rfl
@[simp] theorem State.ageRows_svp (s : State) : s.ageRows.svp = s.svp := rfl
@[simp] theorem State.ageRows_freeCount (s : State) : s.ageRows.freeCount = s.freeCount := rfl
@[simp] theorem State.ageRows_cadenceFirst (s : State) : s.ageRows.cadenceFirst = s.cadenceFirst := rfl
@[simp] theorem State.ageRows_pending (s : State) : s.ageRows.pending = s.pending := rfl

@[simp] theorem State.markRows_released (s : State) : s.markRows.released = s.released := rfl
@[simp] theorem State.markRows_loaded (s : State) : s.markRows.loaded = s.loaded := rfl
@[simp] theorem State.markRows_straps (s : State) : s.markRows.straps = s.straps := rfl
@[simp] theorem State.markRows_params (s : State) : s.markRows.params = s.params := rfl
@[simp] theorem State.markRows_cfl (s : State) : s.markRows.cfl = s.cfl := rfl
@[simp] theorem State.markRows_lsc (s : State) : s.markRows.lsc = s.lsc := rfl
@[simp] theorem State.markRows_ssc (s : State) : s.markRows.ssc = s.ssc := rfl
@[simp] theorem State.markRows_fde (s : State) : s.markRows.fde = s.fde := rfl
@[simp] theorem State.markRows_cfm (s : State) : s.markRows.cfm = s.cfm := rfl
@[simp] theorem State.markRows_fcc (s : State) : s.markRows.fcc = s.fcc := rfl
@[simp] theorem State.markRows_vdr (s : State) : s.markRows.vdr = s.vdr := rfl
@[simp] theorem State.markRows_itb (s : State) : s.markRows.itb = s.itb := rfl
@[simp] theorem State.markRows_ord (s : State) : s.markRows.ord = s.ord := rfl
@[simp] theorem State.markRows_aou (s : State) : s.markRows.aou = s.aou := rfl
@[simp] theorem State.markRows_svp (s : State) : s.markRows.svp = s.svp := rfl
@[simp] theorem State.markRows_freeCount (s : State) : s.markRows.freeCount = s.freeCount := rfl
@[simp] theorem State.markRows_cadenceFirst (s : State) : s.markRows.cadenceFirst = s.cadenceFirst := rfl
@[simp] theorem State.markRows_pending (s : State) : s.markRows.pending = s.pending := rfl

@[simp] theorem State.chooseOrder_released (cadenceFirst : Bool) (s : State) : (s.chooseOrder cadenceFirst).released = s.released := rfl
@[simp] theorem State.chooseOrder_loaded (cadenceFirst : Bool) (s : State) : (s.chooseOrder cadenceFirst).loaded = s.loaded := rfl
@[simp] theorem State.chooseOrder_straps (cadenceFirst : Bool) (s : State) : (s.chooseOrder cadenceFirst).straps = s.straps := rfl
@[simp] theorem State.chooseOrder_params (cadenceFirst : Bool) (s : State) : (s.chooseOrder cadenceFirst).params = s.params := rfl
@[simp] theorem State.chooseOrder_cfl (cadenceFirst : Bool) (s : State) : (s.chooseOrder cadenceFirst).cfl = s.cfl := rfl
@[simp] theorem State.chooseOrder_lsc (cadenceFirst : Bool) (s : State) : (s.chooseOrder cadenceFirst).lsc = s.lsc := rfl
@[simp] theorem State.chooseOrder_btb (cadenceFirst : Bool) (s : State) : (s.chooseOrder cadenceFirst).btb = s.btb := rfl
@[simp] theorem State.chooseOrder_ssc (cadenceFirst : Bool) (s : State) : (s.chooseOrder cadenceFirst).ssc = s.ssc := rfl
@[simp] theorem State.chooseOrder_fde (cadenceFirst : Bool) (s : State) : (s.chooseOrder cadenceFirst).fde = s.fde := rfl
@[simp] theorem State.chooseOrder_cfm (cadenceFirst : Bool) (s : State) : (s.chooseOrder cadenceFirst).cfm = s.cfm := rfl
@[simp] theorem State.chooseOrder_fcc (cadenceFirst : Bool) (s : State) : (s.chooseOrder cadenceFirst).fcc = s.fcc := rfl
@[simp] theorem State.chooseOrder_vdr (cadenceFirst : Bool) (s : State) : (s.chooseOrder cadenceFirst).vdr = s.vdr := rfl
@[simp] theorem State.chooseOrder_itb (cadenceFirst : Bool) (s : State) : (s.chooseOrder cadenceFirst).itb = s.itb := rfl
@[simp] theorem State.chooseOrder_ord (cadenceFirst : Bool) (s : State) : (s.chooseOrder cadenceFirst).ord = s.ord := rfl
@[simp] theorem State.chooseOrder_aou (cadenceFirst : Bool) (s : State) : (s.chooseOrder cadenceFirst).aou = s.aou := rfl
@[simp] theorem State.chooseOrder_svp (cadenceFirst : Bool) (s : State) : (s.chooseOrder cadenceFirst).svp = s.svp := rfl
@[simp] theorem State.chooseOrder_freeCount (cadenceFirst : Bool) (s : State) : (s.chooseOrder cadenceFirst).freeCount = s.freeCount := rfl
@[simp] theorem State.chooseOrder_pending (cadenceFirst : Bool) (s : State) : (s.chooseOrder cadenceFirst).pending = s.pending := rfl

@[simp] theorem State.countTravel_released (s : State) : s.countTravel.released = s.released := rfl
@[simp] theorem State.countTravel_loaded (s : State) : s.countTravel.loaded = s.loaded := rfl
@[simp] theorem State.countTravel_straps (s : State) : s.countTravel.straps = s.straps := rfl
@[simp] theorem State.countTravel_params (s : State) : s.countTravel.params = s.params := rfl
@[simp] theorem State.countTravel_cfl (s : State) : s.countTravel.cfl = s.cfl := rfl
@[simp] theorem State.countTravel_lsc (s : State) : s.countTravel.lsc = s.lsc := rfl
@[simp] theorem State.countTravel_btb (s : State) : s.countTravel.btb = s.btb := rfl
@[simp] theorem State.countTravel_ssc (s : State) : s.countTravel.ssc = s.ssc := rfl
@[simp] theorem State.countTravel_fde (s : State) : s.countTravel.fde = s.fde := rfl
@[simp] theorem State.countTravel_cfm (s : State) : s.countTravel.cfm = s.cfm := rfl
@[simp] theorem State.countTravel_fcc (s : State) : s.countTravel.fcc = s.fcc := rfl
@[simp] theorem State.countTravel_itb (s : State) : s.countTravel.itb = s.itb := rfl
@[simp] theorem State.countTravel_ord (s : State) : s.countTravel.ord = s.ord := rfl
@[simp] theorem State.countTravel_aou (s : State) : s.countTravel.aou = s.aou := rfl
@[simp] theorem State.countTravel_svp (s : State) : s.countTravel.svp = s.svp := rfl
@[simp] theorem State.countTravel_freeCount (s : State) : s.countTravel.freeCount = s.freeCount := rfl
@[simp] theorem State.countTravel_cadenceFirst (s : State) : s.countTravel.cadenceFirst = s.cadenceFirst := rfl
@[simp] theorem State.countTravel_pending (s : State) : s.countTravel.pending = s.pending := rfl

@[simp] theorem State.countJoining_released (s : State) : s.countJoining.released = s.released := rfl
@[simp] theorem State.countJoining_loaded (s : State) : s.countJoining.loaded = s.loaded := rfl
@[simp] theorem State.countJoining_straps (s : State) : s.countJoining.straps = s.straps := rfl
@[simp] theorem State.countJoining_params (s : State) : s.countJoining.params = s.params := rfl
@[simp] theorem State.countJoining_cfl (s : State) : s.countJoining.cfl = s.cfl := rfl
@[simp] theorem State.countJoining_btb (s : State) : s.countJoining.btb = s.btb := rfl
@[simp] theorem State.countJoining_ssc (s : State) : s.countJoining.ssc = s.ssc := rfl
@[simp] theorem State.countJoining_fde (s : State) : s.countJoining.fde = s.fde := rfl
@[simp] theorem State.countJoining_cfm (s : State) : s.countJoining.cfm = s.cfm := rfl
@[simp] theorem State.countJoining_fcc (s : State) : s.countJoining.fcc = s.fcc := rfl
@[simp] theorem State.countJoining_vdr (s : State) : s.countJoining.vdr = s.vdr := rfl
@[simp] theorem State.countJoining_itb (s : State) : s.countJoining.itb = s.itb := rfl
@[simp] theorem State.countJoining_ord (s : State) : s.countJoining.ord = s.ord := rfl
@[simp] theorem State.countJoining_aou (s : State) : s.countJoining.aou = s.aou := rfl
@[simp] theorem State.countJoining_svp (s : State) : s.countJoining.svp = s.svp := rfl
@[simp] theorem State.countJoining_freeCount (s : State) : s.countJoining.freeCount = s.freeCount := rfl
@[simp] theorem State.countJoining_cadenceFirst (s : State) : s.countJoining.cadenceFirst = s.cadenceFirst := rfl
@[simp] theorem State.countJoining_pending (s : State) : s.countJoining.pending = s.pending := rfl

@[simp] theorem State.stepIsolation_released (s : State) : s.stepIsolation.released = s.released := rfl
@[simp] theorem State.stepIsolation_loaded (s : State) : s.stepIsolation.loaded = s.loaded := rfl
@[simp] theorem State.stepIsolation_straps (s : State) : s.stepIsolation.straps = s.straps := rfl
@[simp] theorem State.stepIsolation_params (s : State) : s.stepIsolation.params = s.params := rfl
@[simp] theorem State.stepIsolation_cfl (s : State) : s.stepIsolation.cfl = s.cfl := rfl
@[simp] theorem State.stepIsolation_btb (s : State) : s.stepIsolation.btb = s.btb := rfl
@[simp] theorem State.stepIsolation_ssc (s : State) : s.stepIsolation.ssc = s.ssc := rfl
@[simp] theorem State.stepIsolation_fde (s : State) : s.stepIsolation.fde = s.fde := rfl
@[simp] theorem State.stepIsolation_cfm (s : State) : s.stepIsolation.cfm = s.cfm := rfl
@[simp] theorem State.stepIsolation_fcc (s : State) : s.stepIsolation.fcc = s.fcc := rfl
@[simp] theorem State.stepIsolation_vdr (s : State) : s.stepIsolation.vdr = s.vdr := rfl
@[simp] theorem State.stepIsolation_itb (s : State) : s.stepIsolation.itb = s.itb := rfl
@[simp] theorem State.stepIsolation_ord (s : State) : s.stepIsolation.ord = s.ord := rfl
@[simp] theorem State.stepIsolation_aou (s : State) : s.stepIsolation.aou = s.aou := rfl
@[simp] theorem State.stepIsolation_svp (s : State) : s.stepIsolation.svp = s.svp := rfl
@[simp] theorem State.stepIsolation_freeCount (s : State) : s.stepIsolation.freeCount = s.freeCount := rfl
@[simp] theorem State.stepIsolation_cadenceFirst (s : State) : s.stepIsolation.cadenceFirst = s.cadenceFirst := rfl
@[simp] theorem State.stepIsolation_pending (s : State) : s.stepIsolation.pending = s.pending := rfl

@[simp] theorem State.endFrame_released (s : State) : s.endFrame.released = s.released := rfl
@[simp] theorem State.endFrame_loaded (s : State) : s.endFrame.loaded = s.loaded := rfl
@[simp] theorem State.endFrame_straps (s : State) : s.endFrame.straps = s.straps := rfl
@[simp] theorem State.endFrame_params (s : State) : s.endFrame.params = s.params := rfl
@[simp] theorem State.endFrame_cfl (s : State) : s.endFrame.cfl = s.cfl := rfl
@[simp] theorem State.endFrame_btb (s : State) : s.endFrame.btb = s.btb := rfl
@[simp] theorem State.endFrame_ssc (s : State) : s.endFrame.ssc = s.ssc := rfl
@[simp] theorem State.endFrame_fde (s : State) : s.endFrame.fde = s.fde := rfl
@[simp] theorem State.endFrame_cfm (s : State) : s.endFrame.cfm = s.cfm := rfl
@[simp] theorem State.endFrame_fcc (s : State) : s.endFrame.fcc = s.fcc := rfl
@[simp] theorem State.endFrame_vdr (s : State) : s.endFrame.vdr = s.vdr := rfl
@[simp] theorem State.endFrame_itb (s : State) : s.endFrame.itb = s.itb := rfl
@[simp] theorem State.endFrame_ord (s : State) : s.endFrame.ord = s.ord := rfl
@[simp] theorem State.endFrame_aou (s : State) : s.endFrame.aou = s.aou := rfl
@[simp] theorem State.endFrame_svp (s : State) : s.endFrame.svp = s.svp := rfl
@[simp] theorem State.endFrame_freeCount (s : State) : s.endFrame.freeCount = s.freeCount := rfl
@[simp] theorem State.endFrame_cadenceFirst (s : State) : s.endFrame.cadenceFirst = s.cadenceFirst := rfl
@[simp] theorem State.endFrame_pending (s : State) : s.endFrame.pending = s.pending := rfl

@[simp] theorem State.join_released (s : State) : s.join.released = s.released := rfl
@[simp] theorem State.join_loaded (s : State) : s.join.loaded = s.loaded := rfl
@[simp] theorem State.join_straps (s : State) : s.join.straps = s.straps := rfl
@[simp] theorem State.join_params (s : State) : s.join.params = s.params := rfl
@[simp] theorem State.join_cfl (s : State) : s.join.cfl = s.cfl := rfl
@[simp] theorem State.join_btb (s : State) : s.join.btb = s.btb := rfl
@[simp] theorem State.join_ssc (s : State) : s.join.ssc = s.ssc := rfl
@[simp] theorem State.join_fde (s : State) : s.join.fde = s.fde := rfl
@[simp] theorem State.join_cfm (s : State) : s.join.cfm = s.cfm := rfl
@[simp] theorem State.join_fcc (s : State) : s.join.fcc = s.fcc := rfl
@[simp] theorem State.join_vdr (s : State) : s.join.vdr = s.vdr := rfl
@[simp] theorem State.join_itb (s : State) : s.join.itb = s.itb := rfl
@[simp] theorem State.join_ord (s : State) : s.join.ord = s.ord := rfl
@[simp] theorem State.join_aou (s : State) : s.join.aou = s.aou := rfl
@[simp] theorem State.join_svp (s : State) : s.join.svp = s.svp := rfl
@[simp] theorem State.join_freeCount (s : State) : s.join.freeCount = s.freeCount := rfl
@[simp] theorem State.join_cadenceFirst (s : State) : s.join.cadenceFirst = s.cadenceFirst := rfl
@[simp] theorem State.join_pending (s : State) : s.join.pending = s.pending := rfl

@[simp] theorem State.storeOrder_released (cs : List Byte) (s : State) : (s.storeOrder cs).released = s.released := rfl
@[simp] theorem State.storeOrder_loaded (cs : List Byte) (s : State) : (s.storeOrder cs).loaded = s.loaded := rfl
@[simp] theorem State.storeOrder_straps (cs : List Byte) (s : State) : (s.storeOrder cs).straps = s.straps := rfl
@[simp] theorem State.storeOrder_params (cs : List Byte) (s : State) : (s.storeOrder cs).params = s.params := rfl
@[simp] theorem State.storeOrder_cfl (cs : List Byte) (s : State) : (s.storeOrder cs).cfl = s.cfl := rfl
@[simp] theorem State.storeOrder_lsc (cs : List Byte) (s : State) : (s.storeOrder cs).lsc = s.lsc := rfl
@[simp] theorem State.storeOrder_ssc (cs : List Byte) (s : State) : (s.storeOrder cs).ssc = s.ssc := rfl
@[simp] theorem State.storeOrder_fde (cs : List Byte) (s : State) : (s.storeOrder cs).fde = s.fde := rfl
@[simp] theorem State.storeOrder_cfm (cs : List Byte) (s : State) : (s.storeOrder cs).cfm = s.cfm := rfl
@[simp] theorem State.storeOrder_fcc (cs : List Byte) (s : State) : (s.storeOrder cs).fcc = s.fcc := rfl
@[simp] theorem State.storeOrder_vdr (cs : List Byte) (s : State) : (s.storeOrder cs).vdr = s.vdr := rfl
@[simp] theorem State.storeOrder_itb (cs : List Byte) (s : State) : (s.storeOrder cs).itb = s.itb := rfl
@[simp] theorem State.storeOrder_ord (cs : List Byte) (s : State) : (s.storeOrder cs).ord = s.ord := rfl
@[simp] theorem State.storeOrder_aou (cs : List Byte) (s : State) : (s.storeOrder cs).aou = s.aou := rfl
@[simp] theorem State.storeOrder_svp (cs : List Byte) (s : State) : (s.storeOrder cs).svp = s.svp := rfl
@[simp] theorem State.storeOrder_freeCount (cs : List Byte) (s : State) : (s.storeOrder cs).freeCount = s.freeCount := rfl
@[simp] theorem State.storeOrder_cadenceFirst (cs : List Byte) (s : State) : (s.storeOrder cs).cadenceFirst = s.cadenceFirst := rfl
@[simp] theorem State.storeOrder_pending (cs : List Byte) (s : State) : (s.storeOrder cs).pending = s.pending := rfl

@[simp] theorem State.judgeScan_released (s : State) : s.judgeScan.released = s.released := rfl
@[simp] theorem State.judgeScan_loaded (s : State) : s.judgeScan.loaded = s.loaded := rfl
@[simp] theorem State.judgeScan_straps (s : State) : s.judgeScan.straps = s.straps := rfl
@[simp] theorem State.judgeScan_params (s : State) : s.judgeScan.params = s.params := rfl
@[simp] theorem State.judgeScan_cfl (s : State) : s.judgeScan.cfl = s.cfl := rfl
@[simp] theorem State.judgeScan_lsc (s : State) : s.judgeScan.lsc = s.lsc := rfl
@[simp] theorem State.judgeScan_btb (s : State) : s.judgeScan.btb = s.btb := rfl
@[simp] theorem State.judgeScan_fde (s : State) : s.judgeScan.fde = s.fde := rfl
@[simp] theorem State.judgeScan_cfm (s : State) : s.judgeScan.cfm = s.cfm := rfl
@[simp] theorem State.judgeScan_fcc (s : State) : s.judgeScan.fcc = s.fcc := rfl
@[simp] theorem State.judgeScan_vdr (s : State) : s.judgeScan.vdr = s.vdr := rfl
@[simp] theorem State.judgeScan_itb (s : State) : s.judgeScan.itb = s.itb := rfl
@[simp] theorem State.judgeScan_ord (s : State) : s.judgeScan.ord = s.ord := rfl
@[simp] theorem State.judgeScan_aou (s : State) : s.judgeScan.aou = s.aou := rfl
@[simp] theorem State.judgeScan_svp (s : State) : s.judgeScan.svp = s.svp := rfl
@[simp] theorem State.judgeScan_freeCount (s : State) : s.judgeScan.freeCount = s.freeCount := rfl
@[simp] theorem State.judgeScan_cadenceFirst (s : State) : s.judgeScan.cadenceFirst = s.cadenceFirst := rfl
@[simp] theorem State.judgeScan_pending (s : State) : s.judgeScan.pending = s.pending := rfl

@[simp] theorem State.checkValve_released (set : ScanSet) (s : State) : (s.checkValve set).released = s.released := rfl
@[simp] theorem State.checkValve_loaded (set : ScanSet) (s : State) : (s.checkValve set).loaded = s.loaded := rfl
@[simp] theorem State.checkValve_straps (set : ScanSet) (s : State) : (s.checkValve set).straps = s.straps := rfl
@[simp] theorem State.checkValve_params (set : ScanSet) (s : State) : (s.checkValve set).params = s.params := rfl
@[simp] theorem State.checkValve_cfl (set : ScanSet) (s : State) : (s.checkValve set).cfl = s.cfl := rfl
@[simp] theorem State.checkValve_lsc (set : ScanSet) (s : State) : (s.checkValve set).lsc = s.lsc := rfl
@[simp] theorem State.checkValve_btb (set : ScanSet) (s : State) : (s.checkValve set).btb = s.btb := rfl
@[simp] theorem State.checkValve_ssc (set : ScanSet) (s : State) : (s.checkValve set).ssc = s.ssc := rfl
@[simp] theorem State.checkValve_fde (set : ScanSet) (s : State) : (s.checkValve set).fde = s.fde := rfl
@[simp] theorem State.checkValve_cfm (set : ScanSet) (s : State) : (s.checkValve set).cfm = s.cfm := rfl
@[simp] theorem State.checkValve_fcc (set : ScanSet) (s : State) : (s.checkValve set).fcc = s.fcc := rfl
@[simp] theorem State.checkValve_itb (set : ScanSet) (s : State) : (s.checkValve set).itb = s.itb := rfl
@[simp] theorem State.checkValve_ord (set : ScanSet) (s : State) : (s.checkValve set).ord = s.ord := rfl
@[simp] theorem State.checkValve_aou (set : ScanSet) (s : State) : (s.checkValve set).aou = s.aou := rfl
@[simp] theorem State.checkValve_svp (set : ScanSet) (s : State) : (s.checkValve set).svp = s.svp := rfl
@[simp] theorem State.checkValve_freeCount (set : ScanSet) (s : State) : (s.checkValve set).freeCount = s.freeCount := rfl
@[simp] theorem State.checkValve_cadenceFirst (set : ScanSet) (s : State) : (s.checkValve set).cadenceFirst = s.cadenceFirst := rfl
@[simp] theorem State.checkValve_pending (set : ScanSet) (s : State) : (s.checkValve set).pending = s.pending := rfl

@[simp] theorem State.conclude_released (l : Latched) (r : FieldPart) (o : OwnPart) (target : Option Int) (s : State) : (s.conclude l r o target).released = s.released := rfl
@[simp] theorem State.conclude_loaded (l : Latched) (r : FieldPart) (o : OwnPart) (target : Option Int) (s : State) : (s.conclude l r o target).loaded = s.loaded := rfl
@[simp] theorem State.conclude_straps (l : Latched) (r : FieldPart) (o : OwnPart) (target : Option Int) (s : State) : (s.conclude l r o target).straps = s.straps := rfl
@[simp] theorem State.conclude_params (l : Latched) (r : FieldPart) (o : OwnPart) (target : Option Int) (s : State) : (s.conclude l r o target).params = s.params := rfl
@[simp] theorem State.conclude_cfl (l : Latched) (r : FieldPart) (o : OwnPart) (target : Option Int) (s : State) : (s.conclude l r o target).cfl = s.cfl := rfl
@[simp] theorem State.conclude_lsc (l : Latched) (r : FieldPart) (o : OwnPart) (target : Option Int) (s : State) : (s.conclude l r o target).lsc = s.lsc := rfl
@[simp] theorem State.conclude_btb (l : Latched) (r : FieldPart) (o : OwnPart) (target : Option Int) (s : State) : (s.conclude l r o target).btb = s.btb := rfl
@[simp] theorem State.conclude_ssc (l : Latched) (r : FieldPart) (o : OwnPart) (target : Option Int) (s : State) : (s.conclude l r o target).ssc = s.ssc := rfl
@[simp] theorem State.conclude_cfm (l : Latched) (r : FieldPart) (o : OwnPart) (target : Option Int) (s : State) : (s.conclude l r o target).cfm = s.cfm := rfl
@[simp] theorem State.conclude_fcc (l : Latched) (r : FieldPart) (o : OwnPart) (target : Option Int) (s : State) : (s.conclude l r o target).fcc = s.fcc := rfl
@[simp] theorem State.conclude_vdr (l : Latched) (r : FieldPart) (o : OwnPart) (target : Option Int) (s : State) : (s.conclude l r o target).vdr = s.vdr := rfl
@[simp] theorem State.conclude_itb (l : Latched) (r : FieldPart) (o : OwnPart) (target : Option Int) (s : State) : (s.conclude l r o target).itb = s.itb := rfl
@[simp] theorem State.conclude_ord (l : Latched) (r : FieldPart) (o : OwnPart) (target : Option Int) (s : State) : (s.conclude l r o target).ord = s.ord := rfl
@[simp] theorem State.conclude_aou (l : Latched) (r : FieldPart) (o : OwnPart) (target : Option Int) (s : State) : (s.conclude l r o target).aou = s.aou := rfl
@[simp] theorem State.conclude_svp (l : Latched) (r : FieldPart) (o : OwnPart) (target : Option Int) (s : State) : (s.conclude l r o target).svp = s.svp := rfl
@[simp] theorem State.conclude_freeCount (l : Latched) (r : FieldPart) (o : OwnPart) (target : Option Int) (s : State) : (s.conclude l r o target).freeCount = s.freeCount := rfl
@[simp] theorem State.conclude_cadenceFirst (l : Latched) (r : FieldPart) (o : OwnPart) (target : Option Int) (s : State) : (s.conclude l r o target).cadenceFirst = s.cadenceFirst := rfl
@[simp] theorem State.conclude_pending (l : Latched) (r : FieldPart) (o : OwnPart) (target : Option Int) (s : State) : (s.conclude l r o target).pending = s.pending := rfl

@[simp] theorem State.spend_released (s : State) : s.spend.released = s.released := rfl
@[simp] theorem State.spend_loaded (s : State) : s.spend.loaded = s.loaded := rfl
@[simp] theorem State.spend_straps (s : State) : s.spend.straps = s.straps := rfl
@[simp] theorem State.spend_params (s : State) : s.spend.params = s.params := rfl
@[simp] theorem State.spend_cfl (s : State) : s.spend.cfl = s.cfl := rfl
@[simp] theorem State.spend_lsc (s : State) : s.spend.lsc = s.lsc := rfl
@[simp] theorem State.spend_btb (s : State) : s.spend.btb = s.btb := rfl
@[simp] theorem State.spend_ssc (s : State) : s.spend.ssc = s.ssc := rfl
@[simp] theorem State.spend_fde (s : State) : s.spend.fde = s.fde := rfl
@[simp] theorem State.spend_cfm (s : State) : s.spend.cfm = s.cfm := rfl
@[simp] theorem State.spend_fcc (s : State) : s.spend.fcc = s.fcc := rfl
@[simp] theorem State.spend_vdr (s : State) : s.spend.vdr = s.vdr := rfl
@[simp] theorem State.spend_itb (s : State) : s.spend.itb = s.itb := rfl
@[simp] theorem State.spend_ord (s : State) : s.spend.ord = s.ord := rfl
@[simp] theorem State.spend_aou (s : State) : s.spend.aou = s.aou := rfl
@[simp] theorem State.spend_svp (s : State) : s.spend.svp = s.svp := rfl
@[simp] theorem State.spend_cadenceFirst (s : State) : s.spend.cadenceFirst = s.cadenceFirst := rfl
@[simp] theorem State.spend_pending (s : State) : s.spend.pending = s.pending := rfl

@[simp] theorem State.rest_released (s : State) : s.rest.released = s.released := rfl
@[simp] theorem State.rest_loaded (s : State) : s.rest.loaded = s.loaded := rfl
@[simp] theorem State.rest_straps (s : State) : s.rest.straps = s.straps := rfl
@[simp] theorem State.rest_params (s : State) : s.rest.params = s.params := rfl
@[simp] theorem State.rest_cfl (s : State) : s.rest.cfl = s.cfl := rfl
@[simp] theorem State.rest_lsc (s : State) : s.rest.lsc = s.lsc := rfl
@[simp] theorem State.rest_btb (s : State) : s.rest.btb = s.btb := rfl
@[simp] theorem State.rest_ssc (s : State) : s.rest.ssc = s.ssc := rfl
@[simp] theorem State.rest_cfm (s : State) : s.rest.cfm = s.cfm := rfl
@[simp] theorem State.rest_fcc (s : State) : s.rest.fcc = s.fcc := rfl
@[simp] theorem State.rest_vdr (s : State) : s.rest.vdr = s.vdr := rfl
@[simp] theorem State.rest_itb (s : State) : s.rest.itb = s.itb := rfl
@[simp] theorem State.rest_ord (s : State) : s.rest.ord = s.ord := rfl
@[simp] theorem State.rest_aou (s : State) : s.rest.aou = s.aou := rfl
@[simp] theorem State.rest_svp (s : State) : s.rest.svp = s.svp := rfl
@[simp] theorem State.rest_freeCount (s : State) : s.rest.freeCount = s.freeCount := rfl
@[simp] theorem State.rest_cadenceFirst (s : State) : s.rest.cadenceFirst = s.cadenceFirst := rfl
@[simp] theorem State.rest_pending (s : State) : s.rest.pending = s.pending := rfl

@[simp] theorem State.testColdJoin_released (l : Latched) (s : State) : (s.testColdJoin l).released = s.released := rfl
@[simp] theorem State.testColdJoin_loaded (l : Latched) (s : State) : (s.testColdJoin l).loaded = s.loaded := rfl
@[simp] theorem State.testColdJoin_straps (l : Latched) (s : State) : (s.testColdJoin l).straps = s.straps := rfl
@[simp] theorem State.testColdJoin_params (l : Latched) (s : State) : (s.testColdJoin l).params = s.params := rfl
@[simp] theorem State.testColdJoin_cfl (l : Latched) (s : State) : (s.testColdJoin l).cfl = s.cfl := rfl
@[simp] theorem State.testColdJoin_lsc (l : Latched) (s : State) : (s.testColdJoin l).lsc = s.lsc := rfl
@[simp] theorem State.testColdJoin_btb (l : Latched) (s : State) : (s.testColdJoin l).btb = s.btb := rfl
@[simp] theorem State.testColdJoin_ssc (l : Latched) (s : State) : (s.testColdJoin l).ssc = s.ssc := rfl
@[simp] theorem State.testColdJoin_cfm (l : Latched) (s : State) : (s.testColdJoin l).cfm = s.cfm := rfl
@[simp] theorem State.testColdJoin_fcc (l : Latched) (s : State) : (s.testColdJoin l).fcc = s.fcc := rfl
@[simp] theorem State.testColdJoin_vdr (l : Latched) (s : State) : (s.testColdJoin l).vdr = s.vdr := rfl
@[simp] theorem State.testColdJoin_itb (l : Latched) (s : State) : (s.testColdJoin l).itb = s.itb := rfl
@[simp] theorem State.testColdJoin_ord (l : Latched) (s : State) : (s.testColdJoin l).ord = s.ord := rfl
@[simp] theorem State.testColdJoin_aou (l : Latched) (s : State) : (s.testColdJoin l).aou = s.aou := rfl
@[simp] theorem State.testColdJoin_svp (l : Latched) (s : State) : (s.testColdJoin l).svp = s.svp := rfl
@[simp] theorem State.testColdJoin_freeCount (l : Latched) (s : State) : (s.testColdJoin l).freeCount = s.freeCount := rfl
@[simp] theorem State.testColdJoin_cadenceFirst (l : Latched) (s : State) : (s.testColdJoin l).cadenceFirst = s.cadenceFirst := rfl
@[simp] theorem State.testColdJoin_pending (l : Latched) (s : State) : (s.testColdJoin l).pending = s.pending := rfl

@[simp] theorem State.setRotateDue_released (s : State) : s.setRotateDue.released = s.released := rfl
@[simp] theorem State.setRotateDue_loaded (s : State) : s.setRotateDue.loaded = s.loaded := rfl
@[simp] theorem State.setRotateDue_straps (s : State) : s.setRotateDue.straps = s.straps := rfl
@[simp] theorem State.setRotateDue_params (s : State) : s.setRotateDue.params = s.params := rfl
@[simp] theorem State.setRotateDue_cfl (s : State) : s.setRotateDue.cfl = s.cfl := rfl
@[simp] theorem State.setRotateDue_lsc (s : State) : s.setRotateDue.lsc = s.lsc := rfl
@[simp] theorem State.setRotateDue_btb (s : State) : s.setRotateDue.btb = s.btb := rfl
@[simp] theorem State.setRotateDue_ssc (s : State) : s.setRotateDue.ssc = s.ssc := rfl
@[simp] theorem State.setRotateDue_cfm (s : State) : s.setRotateDue.cfm = s.cfm := rfl
@[simp] theorem State.setRotateDue_fcc (s : State) : s.setRotateDue.fcc = s.fcc := rfl
@[simp] theorem State.setRotateDue_vdr (s : State) : s.setRotateDue.vdr = s.vdr := rfl
@[simp] theorem State.setRotateDue_itb (s : State) : s.setRotateDue.itb = s.itb := rfl
@[simp] theorem State.setRotateDue_ord (s : State) : s.setRotateDue.ord = s.ord := rfl
@[simp] theorem State.setRotateDue_aou (s : State) : s.setRotateDue.aou = s.aou := rfl
@[simp] theorem State.setRotateDue_svp (s : State) : s.setRotateDue.svp = s.svp := rfl
@[simp] theorem State.setRotateDue_freeCount (s : State) : s.setRotateDue.freeCount = s.freeCount := rfl
@[simp] theorem State.setRotateDue_cadenceFirst (s : State) : s.setRotateDue.cadenceFirst = s.cadenceFirst := rfl
@[simp] theorem State.setRotateDue_pending (s : State) : s.setRotateDue.pending = s.pending := rfl

@[simp] theorem State.setColdJoin_released (s : State) : s.setColdJoin.released = s.released := rfl
@[simp] theorem State.setColdJoin_loaded (s : State) : s.setColdJoin.loaded = s.loaded := rfl
@[simp] theorem State.setColdJoin_straps (s : State) : s.setColdJoin.straps = s.straps := rfl
@[simp] theorem State.setColdJoin_params (s : State) : s.setColdJoin.params = s.params := rfl
@[simp] theorem State.setColdJoin_cfl (s : State) : s.setColdJoin.cfl = s.cfl := rfl
@[simp] theorem State.setColdJoin_lsc (s : State) : s.setColdJoin.lsc = s.lsc := rfl
@[simp] theorem State.setColdJoin_btb (s : State) : s.setColdJoin.btb = s.btb := rfl
@[simp] theorem State.setColdJoin_ssc (s : State) : s.setColdJoin.ssc = s.ssc := rfl
@[simp] theorem State.setColdJoin_cfm (s : State) : s.setColdJoin.cfm = s.cfm := rfl
@[simp] theorem State.setColdJoin_fcc (s : State) : s.setColdJoin.fcc = s.fcc := rfl
@[simp] theorem State.setColdJoin_vdr (s : State) : s.setColdJoin.vdr = s.vdr := rfl
@[simp] theorem State.setColdJoin_itb (s : State) : s.setColdJoin.itb = s.itb := rfl
@[simp] theorem State.setColdJoin_ord (s : State) : s.setColdJoin.ord = s.ord := rfl
@[simp] theorem State.setColdJoin_aou (s : State) : s.setColdJoin.aou = s.aou := rfl
@[simp] theorem State.setColdJoin_svp (s : State) : s.setColdJoin.svp = s.svp := rfl
@[simp] theorem State.setColdJoin_freeCount (s : State) : s.setColdJoin.freeCount = s.freeCount := rfl
@[simp] theorem State.setColdJoin_cadenceFirst (s : State) : s.setColdJoin.cadenceFirst = s.cadenceFirst := rfl
@[simp] theorem State.setColdJoin_pending (s : State) : s.setColdJoin.pending = s.pending := rfl

@[simp] theorem State.setStuck_released (s : State) : s.setStuck.released = s.released := rfl
@[simp] theorem State.setStuck_loaded (s : State) : s.setStuck.loaded = s.loaded := rfl
@[simp] theorem State.setStuck_straps (s : State) : s.setStuck.straps = s.straps := rfl
@[simp] theorem State.setStuck_params (s : State) : s.setStuck.params = s.params := rfl
@[simp] theorem State.setStuck_cfl (s : State) : s.setStuck.cfl = s.cfl := rfl
@[simp] theorem State.setStuck_lsc (s : State) : s.setStuck.lsc = s.lsc := rfl
@[simp] theorem State.setStuck_btb (s : State) : s.setStuck.btb = s.btb := rfl
@[simp] theorem State.setStuck_ssc (s : State) : s.setStuck.ssc = s.ssc := rfl
@[simp] theorem State.setStuck_fde (s : State) : s.setStuck.fde = s.fde := rfl
@[simp] theorem State.setStuck_cfm (s : State) : s.setStuck.cfm = s.cfm := rfl
@[simp] theorem State.setStuck_fcc (s : State) : s.setStuck.fcc = s.fcc := rfl
@[simp] theorem State.setStuck_itb (s : State) : s.setStuck.itb = s.itb := rfl
@[simp] theorem State.setStuck_ord (s : State) : s.setStuck.ord = s.ord := rfl
@[simp] theorem State.setStuck_aou (s : State) : s.setStuck.aou = s.aou := rfl
@[simp] theorem State.setStuck_svp (s : State) : s.setStuck.svp = s.svp := rfl
@[simp] theorem State.setStuck_freeCount (s : State) : s.setStuck.freeCount = s.freeCount := rfl
@[simp] theorem State.setStuck_cadenceFirst (s : State) : s.setStuck.cadenceFirst = s.cadenceFirst := rfl
@[simp] theorem State.setStuck_pending (s : State) : s.setStuck.pending = s.pending := rfl

@[simp] theorem State.reevalAlerts_released (s : State) : s.reevalAlerts.released = s.released := rfl
@[simp] theorem State.reevalAlerts_loaded (s : State) : s.reevalAlerts.loaded = s.loaded := rfl
@[simp] theorem State.reevalAlerts_straps (s : State) : s.reevalAlerts.straps = s.straps := rfl
@[simp] theorem State.reevalAlerts_params (s : State) : s.reevalAlerts.params = s.params := rfl
@[simp] theorem State.reevalAlerts_cfl (s : State) : s.reevalAlerts.cfl = s.cfl := rfl
@[simp] theorem State.reevalAlerts_lsc (s : State) : s.reevalAlerts.lsc = s.lsc := rfl
@[simp] theorem State.reevalAlerts_btb (s : State) : s.reevalAlerts.btb = s.btb := rfl
@[simp] theorem State.reevalAlerts_ssc (s : State) : s.reevalAlerts.ssc = s.ssc := rfl
@[simp] theorem State.reevalAlerts_fde (s : State) : s.reevalAlerts.fde = s.fde := rfl
@[simp] theorem State.reevalAlerts_cfm (s : State) : s.reevalAlerts.cfm = s.cfm := rfl
@[simp] theorem State.reevalAlerts_fcc (s : State) : s.reevalAlerts.fcc = s.fcc := rfl
@[simp] theorem State.reevalAlerts_vdr (s : State) : s.reevalAlerts.vdr = s.vdr := rfl
@[simp] theorem State.reevalAlerts_itb (s : State) : s.reevalAlerts.itb = s.itb := rfl
@[simp] theorem State.reevalAlerts_ord (s : State) : s.reevalAlerts.ord = s.ord := rfl
@[simp] theorem State.reevalAlerts_svp (s : State) : s.reevalAlerts.svp = s.svp := rfl
@[simp] theorem State.reevalAlerts_freeCount (s : State) : s.reevalAlerts.freeCount = s.freeCount := rfl
@[simp] theorem State.reevalAlerts_cadenceFirst (s : State) : s.reevalAlerts.cadenceFirst = s.cadenceFirst := rfl
@[simp] theorem State.reevalAlerts_pending (s : State) : s.reevalAlerts.pending = s.pending := rfl

@[simp] theorem State.latchStraps_loaded (address : BitVec 5) (loop : Bool) (s : State) : (s.latchStraps address loop).loaded = s.loaded := rfl
@[simp] theorem State.latchStraps_params (address : BitVec 5) (loop : Bool) (s : State) : (s.latchStraps address loop).params = s.params := rfl
@[simp] theorem State.latchStraps_cfl (address : BitVec 5) (loop : Bool) (s : State) : (s.latchStraps address loop).cfl = s.cfl := rfl
@[simp] theorem State.latchStraps_btb (address : BitVec 5) (loop : Bool) (s : State) : (s.latchStraps address loop).btb = s.btb := rfl
@[simp] theorem State.latchStraps_ssc (address : BitVec 5) (loop : Bool) (s : State) : (s.latchStraps address loop).ssc = s.ssc := rfl
@[simp] theorem State.latchStraps_fde (address : BitVec 5) (loop : Bool) (s : State) : (s.latchStraps address loop).fde = s.fde := rfl
@[simp] theorem State.latchStraps_cfm (address : BitVec 5) (loop : Bool) (s : State) : (s.latchStraps address loop).cfm = s.cfm := rfl
@[simp] theorem State.latchStraps_fcc (address : BitVec 5) (loop : Bool) (s : State) : (s.latchStraps address loop).fcc = s.fcc := rfl
@[simp] theorem State.latchStraps_vdr (address : BitVec 5) (loop : Bool) (s : State) : (s.latchStraps address loop).vdr = s.vdr := rfl
@[simp] theorem State.latchStraps_itb (address : BitVec 5) (loop : Bool) (s : State) : (s.latchStraps address loop).itb = s.itb := rfl
@[simp] theorem State.latchStraps_ord (address : BitVec 5) (loop : Bool) (s : State) : (s.latchStraps address loop).ord = s.ord := rfl
@[simp] theorem State.latchStraps_aou (address : BitVec 5) (loop : Bool) (s : State) : (s.latchStraps address loop).aou = s.aou := rfl
@[simp] theorem State.latchStraps_svp (address : BitVec 5) (loop : Bool) (s : State) : (s.latchStraps address loop).svp = s.svp := rfl
@[simp] theorem State.latchStraps_freeCount (address : BitVec 5) (loop : Bool) (s : State) : (s.latchStraps address loop).freeCount = s.freeCount := rfl
@[simp] theorem State.latchStraps_cadenceFirst (address : BitVec 5) (loop : Bool) (s : State) : (s.latchStraps address loop).cadenceFirst = s.cadenceFirst := rfl
@[simp] theorem State.latchStraps_pending (address : BitVec 5) (loop : Bool) (s : State) : (s.latchStraps address loop).pending = s.pending := rfl

@[simp] theorem State.handOut_released (s : State) : s.handOut.released = s.released := rfl
@[simp] theorem State.handOut_straps (s : State) : s.handOut.straps = s.straps := rfl
@[simp] theorem State.handOut_cfl (s : State) : s.handOut.cfl = s.cfl := rfl
@[simp] theorem State.handOut_btb (s : State) : s.handOut.btb = s.btb := rfl
@[simp] theorem State.handOut_fde (s : State) : s.handOut.fde = s.fde := rfl
@[simp] theorem State.handOut_cfm (s : State) : s.handOut.cfm = s.cfm := rfl
@[simp] theorem State.handOut_fcc (s : State) : s.handOut.fcc = s.fcc := rfl
@[simp] theorem State.handOut_itb (s : State) : s.handOut.itb = s.itb := rfl
@[simp] theorem State.handOut_aou (s : State) : s.handOut.aou = s.aou := rfl
@[simp] theorem State.handOut_svp (s : State) : s.handOut.svp = s.svp := rfl
@[simp] theorem State.handOut_freeCount (s : State) : s.handOut.freeCount = s.freeCount := rfl
@[simp] theorem State.handOut_cadenceFirst (s : State) : s.handOut.cadenceFirst = s.cadenceFirst := rfl
@[simp] theorem State.handOut_pending (s : State) : s.handOut.pending = s.pending := rfl

@[simp] theorem State.fitFans_released (s : State) : s.fitFans.released = s.released := rfl
@[simp] theorem State.fitFans_loaded (s : State) : s.fitFans.loaded = s.loaded := rfl
@[simp] theorem State.fitFans_straps (s : State) : s.fitFans.straps = s.straps := rfl
@[simp] theorem State.fitFans_params (s : State) : s.fitFans.params = s.params := rfl
@[simp] theorem State.fitFans_cfl (s : State) : s.fitFans.cfl = s.cfl := rfl
@[simp] theorem State.fitFans_lsc (s : State) : s.fitFans.lsc = s.lsc := rfl
@[simp] theorem State.fitFans_btb (s : State) : s.fitFans.btb = s.btb := rfl
@[simp] theorem State.fitFans_ssc (s : State) : s.fitFans.ssc = s.ssc := rfl
@[simp] theorem State.fitFans_fde (s : State) : s.fitFans.fde = s.fde := rfl
@[simp] theorem State.fitFans_cfm (s : State) : s.fitFans.cfm = s.cfm := rfl
@[simp] theorem State.fitFans_itb (s : State) : s.fitFans.itb = s.itb := rfl
@[simp] theorem State.fitFans_ord (s : State) : s.fitFans.ord = s.ord := rfl
@[simp] theorem State.fitFans_aou (s : State) : s.fitFans.aou = s.aou := rfl
@[simp] theorem State.fitFans_svp (s : State) : s.fitFans.svp = s.svp := rfl
@[simp] theorem State.fitFans_freeCount (s : State) : s.fitFans.freeCount = s.freeCount := rfl
@[simp] theorem State.fitFans_cadenceFirst (s : State) : s.fitFans.cadenceFirst = s.cadenceFirst := rfl
@[simp] theorem State.fitFans_pending (s : State) : s.fitFans.pending = s.pending := rfl

@[simp] theorem State.setFcc_fcc (f : Fcc) (s : State) : (s.setFcc f).fcc = f := rfl
@[simp] theorem State.stepValve_vdr (s : State) :
    s.stepValve.vdr = s.vdr.allotment s.params s.fde.role s.fde.drained := rfl
@[simp] theorem State.vdrReport_vdr (s : State) :
    s.vdrReport.vdr = s.vdr.roleReport s.params s.fde.role s.fde.drained := rfl
@[simp] theorem State.setTimer_itb (id : TimerId) (t : Timer) (s : State) :
    (s.setTimer id t).itb = s.itb.set id.index t := rfl


/-- What `State.report` leaves alone. -/
@[simp] theorem State.report_frame (c : Category) (on : Bool) (s : State) :
    (s.report c on).released = s.released ∧ (s.report c on).loaded = s.loaded
     ∧ (s.report c on).straps = s.straps ∧ (s.report c on).params = s.params
     ∧ (s.report c on).cfl = s.cfl ∧ (s.report c on).lsc = s.lsc ∧ (s.report c on).btb = s.btb
     ∧ (s.report c on).ssc = s.ssc ∧ (s.report c on).fde = s.fde ∧ (s.report c on).cfm = s.cfm
     ∧ (s.report c on).fcc = s.fcc ∧ (s.report c on).vdr = s.vdr ∧ (s.report c on).itb = s.itb
     ∧ (s.report c on).ord = s.ord ∧ (s.report c on).svp = s.svp
     ∧ (s.report c on).freeCount = s.freeCount ∧ (s.report c on).cadenceFirst = s.cadenceFirst
     ∧ (s.report c on).pending = s.pending := by
  simp [State.report]

/-- What `State.reportIce` leaves alone. -/
@[simp] theorem State.reportIce_frame (s : State) :
    s.reportIce.released = s.released ∧ s.reportIce.loaded = s.loaded
     ∧ s.reportIce.straps = s.straps ∧ s.reportIce.params = s.params ∧ s.reportIce.cfl = s.cfl
     ∧ s.reportIce.lsc = s.lsc ∧ s.reportIce.btb = s.btb ∧ s.reportIce.ssc = s.ssc
     ∧ s.reportIce.fde = s.fde ∧ s.reportIce.cfm = s.cfm ∧ s.reportIce.fcc = s.fcc
     ∧ s.reportIce.vdr = s.vdr ∧ s.reportIce.itb = s.itb ∧ s.reportIce.ord = s.ord
     ∧ s.reportIce.svp = s.svp ∧ s.reportIce.freeCount = s.freeCount
     ∧ s.reportIce.cadenceFirst = s.cadenceFirst ∧ s.reportIce.pending = s.pending := by
  simp [State.reportIce]

/-- What `State.reportStuck` leaves alone. -/
@[simp] theorem State.reportStuck_frame (s : State) :
    s.reportStuck.released = s.released ∧ s.reportStuck.loaded = s.loaded
     ∧ s.reportStuck.straps = s.straps ∧ s.reportStuck.params = s.params
     ∧ s.reportStuck.cfl = s.cfl ∧ s.reportStuck.lsc = s.lsc ∧ s.reportStuck.btb = s.btb
     ∧ s.reportStuck.ssc = s.ssc ∧ s.reportStuck.fde = s.fde ∧ s.reportStuck.cfm = s.cfm
     ∧ s.reportStuck.fcc = s.fcc ∧ s.reportStuck.vdr = s.vdr ∧ s.reportStuck.itb = s.itb
     ∧ s.reportStuck.ord = s.ord ∧ s.reportStuck.svp = s.svp
     ∧ s.reportStuck.freeCount = s.freeCount ∧ s.reportStuck.cadenceFirst = s.cadenceFirst
     ∧ s.reportStuck.pending = s.pending := by
  simp [State.reportStuck]

/-- What `State.reportSensors` leaves alone. -/
@[simp] theorem State.reportSensors_frame (s : State) :
    s.reportSensors.released = s.released ∧ s.reportSensors.loaded = s.loaded
     ∧ s.reportSensors.straps = s.straps ∧ s.reportSensors.params = s.params
     ∧ s.reportSensors.cfl = s.cfl ∧ s.reportSensors.lsc = s.lsc ∧ s.reportSensors.btb = s.btb
     ∧ s.reportSensors.ssc = s.ssc ∧ s.reportSensors.fde = s.fde ∧ s.reportSensors.cfm = s.cfm
     ∧ s.reportSensors.fcc = s.fcc ∧ s.reportSensors.vdr = s.vdr ∧ s.reportSensors.itb = s.itb
     ∧ s.reportSensors.ord = s.ord ∧ s.reportSensors.svp = s.svp
     ∧ s.reportSensors.freeCount = s.freeCount ∧ s.reportSensors.cadenceFirst = s.cadenceFirst
     ∧ s.reportSensors.pending = s.pending := by
  simp [State.reportSensors]

/-- What `State.reportField` leaves alone. -/
@[simp] theorem State.reportField_frame (r : FieldPart) (s : State) :
    (s.reportField r).released = s.released ∧ (s.reportField r).loaded = s.loaded
     ∧ (s.reportField r).straps = s.straps ∧ (s.reportField r).params = s.params
     ∧ (s.reportField r).cfl = s.cfl ∧ (s.reportField r).lsc = s.lsc
     ∧ (s.reportField r).btb = s.btb ∧ (s.reportField r).ssc = s.ssc
     ∧ (s.reportField r).fde = s.fde ∧ (s.reportField r).cfm = s.cfm
     ∧ (s.reportField r).fcc = s.fcc ∧ (s.reportField r).vdr = s.vdr
     ∧ (s.reportField r).itb = s.itb ∧ (s.reportField r).ord = s.ord
     ∧ (s.reportField r).svp = s.svp ∧ (s.reportField r).freeCount = s.freeCount
     ∧ (s.reportField r).cadenceFirst = s.cadenceFirst ∧ (s.reportField r).pending = s.pending := by
  simp [State.reportField]

/-- What `State.startTimer` leaves alone. -/
@[simp] theorem State.startTimer_frame (id : TimerId) (s : State) :
    (s.startTimer id).released = s.released ∧ (s.startTimer id).loaded = s.loaded
     ∧ (s.startTimer id).straps = s.straps ∧ (s.startTimer id).params = s.params
     ∧ (s.startTimer id).cfl = s.cfl ∧ (s.startTimer id).lsc = s.lsc
     ∧ (s.startTimer id).btb = s.btb ∧ (s.startTimer id).ssc = s.ssc
     ∧ (s.startTimer id).fde = s.fde ∧ (s.startTimer id).cfm = s.cfm
     ∧ (s.startTimer id).fcc = s.fcc ∧ (s.startTimer id).vdr = s.vdr
     ∧ (s.startTimer id).ord = s.ord ∧ (s.startTimer id).aou = s.aou
     ∧ (s.startTimer id).svp = s.svp ∧ (s.startTimer id).freeCount = s.freeCount
     ∧ (s.startTimer id).cadenceFirst = s.cadenceFirst ∧ (s.startTimer id).pending = s.pending := by
  simp [State.startTimer]

/-- What `State.stopTimer` leaves alone. -/
@[simp] theorem State.stopTimer_frame (id : TimerId) (s : State) :
    (s.stopTimer id).released = s.released ∧ (s.stopTimer id).loaded = s.loaded
     ∧ (s.stopTimer id).straps = s.straps ∧ (s.stopTimer id).params = s.params
     ∧ (s.stopTimer id).cfl = s.cfl ∧ (s.stopTimer id).lsc = s.lsc ∧ (s.stopTimer id).btb = s.btb
     ∧ (s.stopTimer id).ssc = s.ssc ∧ (s.stopTimer id).fde = s.fde ∧ (s.stopTimer id).cfm = s.cfm
     ∧ (s.stopTimer id).fcc = s.fcc ∧ (s.stopTimer id).vdr = s.vdr ∧ (s.stopTimer id).ord = s.ord
     ∧ (s.stopTimer id).aou = s.aou ∧ (s.stopTimer id).svp = s.svp
     ∧ (s.stopTimer id).freeCount = s.freeCount ∧ (s.stopTimer id).cadenceFirst = s.cadenceFirst
     ∧ (s.stopTimer id).pending = s.pending := by
  simp [State.stopTimer]

/-- What `State.expire` leaves alone. -/
@[simp] theorem State.expire_frame (id : TimerId) (s : State) :
    (s.expire id).released = s.released ∧ (s.expire id).loaded = s.loaded
     ∧ (s.expire id).straps = s.straps ∧ (s.expire id).params = s.params
     ∧ (s.expire id).cfl = s.cfl ∧ (s.expire id).lsc = s.lsc ∧ (s.expire id).btb = s.btb
     ∧ (s.expire id).ssc = s.ssc ∧ (s.expire id).fde = s.fde ∧ (s.expire id).cfm = s.cfm
     ∧ (s.expire id).fcc = s.fcc ∧ (s.expire id).vdr = s.vdr ∧ (s.expire id).ord = s.ord
     ∧ (s.expire id).aou = s.aou ∧ (s.expire id).svp = s.svp
     ∧ (s.expire id).freeCount = s.freeCount ∧ (s.expire id).cadenceFirst = s.cadenceFirst
     ∧ (s.expire id).pending = s.pending := by
  simp [State.expire]

/-- What `State.countTimer` leaves alone. -/
@[simp] theorem State.countTimer_frame (id : TimerId) (s : State) :
    (s.countTimer id).released = s.released ∧ (s.countTimer id).loaded = s.loaded
     ∧ (s.countTimer id).straps = s.straps ∧ (s.countTimer id).params = s.params
     ∧ (s.countTimer id).cfl = s.cfl ∧ (s.countTimer id).lsc = s.lsc
     ∧ (s.countTimer id).btb = s.btb ∧ (s.countTimer id).ssc = s.ssc
     ∧ (s.countTimer id).fde = s.fde ∧ (s.countTimer id).cfm = s.cfm
     ∧ (s.countTimer id).fcc = s.fcc ∧ (s.countTimer id).vdr = s.vdr
     ∧ (s.countTimer id).ord = s.ord ∧ (s.countTimer id).aou = s.aou
     ∧ (s.countTimer id).svp = s.svp ∧ (s.countTimer id).freeCount = s.freeCount
     ∧ (s.countTimer id).cadenceFirst = s.cadenceFirst ∧ (s.countTimer id).pending = s.pending := by
  simp [State.countTimer]

/-- What `State.startIf` leaves alone. -/
@[simp] theorem State.startIf_frame (b : Bool) (id : TimerId) (s : State) :
    (s.startIf b id).released = s.released ∧ (s.startIf b id).loaded = s.loaded
     ∧ (s.startIf b id).straps = s.straps ∧ (s.startIf b id).params = s.params
     ∧ (s.startIf b id).cfl = s.cfl ∧ (s.startIf b id).lsc = s.lsc ∧ (s.startIf b id).btb = s.btb
     ∧ (s.startIf b id).ssc = s.ssc ∧ (s.startIf b id).fde = s.fde ∧ (s.startIf b id).cfm = s.cfm
     ∧ (s.startIf b id).fcc = s.fcc ∧ (s.startIf b id).vdr = s.vdr ∧ (s.startIf b id).ord = s.ord
     ∧ (s.startIf b id).aou = s.aou ∧ (s.startIf b id).svp = s.svp
     ∧ (s.startIf b id).freeCount = s.freeCount ∧ (s.startIf b id).cadenceFirst = s.cadenceFirst
     ∧ (s.startIf b id).pending = s.pending := by
  unfold State.startIf
  repeat' split
  all_goals simp

/-- What `State.stopIf` leaves alone. -/
@[simp] theorem State.stopIf_frame (b : Bool) (id : TimerId) (s : State) :
    (s.stopIf b id).released = s.released ∧ (s.stopIf b id).loaded = s.loaded
     ∧ (s.stopIf b id).straps = s.straps ∧ (s.stopIf b id).params = s.params
     ∧ (s.stopIf b id).cfl = s.cfl ∧ (s.stopIf b id).lsc = s.lsc ∧ (s.stopIf b id).btb = s.btb
     ∧ (s.stopIf b id).ssc = s.ssc ∧ (s.stopIf b id).fde = s.fde ∧ (s.stopIf b id).cfm = s.cfm
     ∧ (s.stopIf b id).fcc = s.fcc ∧ (s.stopIf b id).vdr = s.vdr ∧ (s.stopIf b id).ord = s.ord
     ∧ (s.stopIf b id).aou = s.aou ∧ (s.stopIf b id).svp = s.svp
     ∧ (s.stopIf b id).freeCount = s.freeCount ∧ (s.stopIf b id).cadenceFirst = s.cadenceFirst
     ∧ (s.stopIf b id).pending = s.pending := by
  unfold State.stopIf
  repeat' split
  all_goals simp

/-- What `State.watchFlow` leaves alone. -/
@[simp] theorem State.watchFlow_frame (set : ScanSet) (s : State) :
    (s.watchFlow set).released = s.released ∧ (s.watchFlow set).loaded = s.loaded
     ∧ (s.watchFlow set).straps = s.straps ∧ (s.watchFlow set).params = s.params
     ∧ (s.watchFlow set).cfl = s.cfl ∧ (s.watchFlow set).lsc = s.lsc
     ∧ (s.watchFlow set).btb = s.btb ∧ (s.watchFlow set).ssc = s.ssc
     ∧ (s.watchFlow set).fde = s.fde ∧ (s.watchFlow set).cfm = s.cfm
     ∧ (s.watchFlow set).fcc = s.fcc ∧ (s.watchFlow set).vdr = s.vdr
     ∧ (s.watchFlow set).ord = s.ord ∧ (s.watchFlow set).aou = s.aou
     ∧ (s.watchFlow set).svp = s.svp ∧ (s.watchFlow set).freeCount = s.freeCount
     ∧ (s.watchFlow set).cadenceFirst = s.cadenceFirst ∧ (s.watchFlow set).pending = s.pending := by
  unfold State.watchFlow
  repeat' split
  all_goals simp

/-- What `State.reloadRunning` leaves alone. -/
@[simp] theorem State.reloadRunning_frame (id : TimerId) (s : State) :
    (s.reloadRunning id).released = s.released ∧ (s.reloadRunning id).loaded = s.loaded
     ∧ (s.reloadRunning id).straps = s.straps ∧ (s.reloadRunning id).params = s.params
     ∧ (s.reloadRunning id).cfl = s.cfl ∧ (s.reloadRunning id).lsc = s.lsc
     ∧ (s.reloadRunning id).btb = s.btb ∧ (s.reloadRunning id).ssc = s.ssc
     ∧ (s.reloadRunning id).fde = s.fde ∧ (s.reloadRunning id).cfm = s.cfm
     ∧ (s.reloadRunning id).fcc = s.fcc ∧ (s.reloadRunning id).vdr = s.vdr
     ∧ (s.reloadRunning id).ord = s.ord ∧ (s.reloadRunning id).aou = s.aou
     ∧ (s.reloadRunning id).svp = s.svp ∧ (s.reloadRunning id).freeCount = s.freeCount
     ∧ (s.reloadRunning id).cadenceFirst = s.cadenceFirst
     ∧ (s.reloadRunning id).pending = s.pending := by
  unfold State.reloadRunning
  repeat' split
  all_goals simp

/-- What `State.countTimers` leaves alone. -/
@[simp] theorem State.countTimers_frame (s : State) :
    s.countTimers.released = s.released ∧ s.countTimers.loaded = s.loaded
     ∧ s.countTimers.straps = s.straps ∧ s.countTimers.params = s.params
     ∧ s.countTimers.cfl = s.cfl ∧ s.countTimers.lsc = s.lsc ∧ s.countTimers.btb = s.btb
     ∧ s.countTimers.ssc = s.ssc ∧ s.countTimers.fde = s.fde ∧ s.countTimers.cfm = s.cfm
     ∧ s.countTimers.fcc = s.fcc ∧ s.countTimers.vdr = s.vdr ∧ s.countTimers.ord = s.ord
     ∧ s.countTimers.aou = s.aou ∧ s.countTimers.svp = s.svp
     ∧ s.countTimers.freeCount = s.freeCount ∧ s.countTimers.cadenceFirst = s.cadenceFirst
     ∧ s.countTimers.pending = s.pending := by
  simp [State.countTimers, allTimers]

/-- What `State.roleTimers` leaves alone. -/
@[simp] theorem State.roleTimers_frame (old new : Role) (s : State) :
    (s.roleTimers old new).released = s.released ∧ (s.roleTimers old new).loaded = s.loaded
     ∧ (s.roleTimers old new).straps = s.straps ∧ (s.roleTimers old new).params = s.params
     ∧ (s.roleTimers old new).cfl = s.cfl ∧ (s.roleTimers old new).lsc = s.lsc
     ∧ (s.roleTimers old new).btb = s.btb ∧ (s.roleTimers old new).ssc = s.ssc
     ∧ (s.roleTimers old new).fde = s.fde ∧ (s.roleTimers old new).cfm = s.cfm
     ∧ (s.roleTimers old new).fcc = s.fcc ∧ (s.roleTimers old new).vdr = s.vdr
     ∧ (s.roleTimers old new).ord = s.ord ∧ (s.roleTimers old new).aou = s.aou
     ∧ (s.roleTimers old new).svp = s.svp ∧ (s.roleTimers old new).freeCount = s.freeCount
     ∧ (s.roleTimers old new).cadenceFirst = s.cadenceFirst
     ∧ (s.roleTimers old new).pending = s.pending := by
  simp [State.roleTimers]

/-- What `State.enterRole` leaves alone. -/
@[simp] theorem State.enterRole_frame (cause : RoleCause) (new : Role) (drained : Bool) (s : State) :
    (s.enterRole cause new drained).released = s.released
     ∧ (s.enterRole cause new drained).loaded = s.loaded
     ∧ (s.enterRole cause new drained).straps = s.straps
     ∧ (s.enterRole cause new drained).params = s.params
     ∧ (s.enterRole cause new drained).cfl = s.cfl ∧ (s.enterRole cause new drained).lsc = s.lsc
     ∧ (s.enterRole cause new drained).btb = s.btb ∧ (s.enterRole cause new drained).ssc = s.ssc
     ∧ (s.enterRole cause new drained).cfm = s.cfm ∧ (s.enterRole cause new drained).fcc = s.fcc
     ∧ (s.enterRole cause new drained).vdr = s.vdr ∧ (s.enterRole cause new drained).ord = s.ord
     ∧ (s.enterRole cause new drained).aou = s.aou ∧ (s.enterRole cause new drained).svp = s.svp
     ∧ (s.enterRole cause new drained).freeCount = s.freeCount
     ∧ (s.enterRole cause new drained).cadenceFirst = s.cadenceFirst
     ∧ (s.enterRole cause new drained).pending = s.pending := by
  simp [State.enterRole]

/-- What `State.stopFrostTimers` leaves alone. -/
@[simp] theorem State.stopFrostTimers_frame (s : State) :
    s.stopFrostTimers.released = s.released ∧ s.stopFrostTimers.loaded = s.loaded
     ∧ s.stopFrostTimers.straps = s.straps ∧ s.stopFrostTimers.params = s.params
     ∧ s.stopFrostTimers.cfl = s.cfl ∧ s.stopFrostTimers.lsc = s.lsc
     ∧ s.stopFrostTimers.btb = s.btb ∧ s.stopFrostTimers.ssc = s.ssc
     ∧ s.stopFrostTimers.fde = s.fde ∧ s.stopFrostTimers.cfm = s.cfm
     ∧ s.stopFrostTimers.fcc = s.fcc ∧ s.stopFrostTimers.vdr = s.vdr
     ∧ s.stopFrostTimers.ord = s.ord ∧ s.stopFrostTimers.aou = s.aou
     ∧ s.stopFrostTimers.svp = s.svp ∧ s.stopFrostTimers.freeCount = s.freeCount
     ∧ s.stopFrostTimers.cadenceFirst = s.cadenceFirst ∧ s.stopFrostTimers.pending = s.pending := by
  simp [State.stopFrostTimers]

/-- What `State.suspend` leaves alone. -/
@[simp] theorem State.suspend_frame (s : State) :
    s.suspend.released = s.released ∧ s.suspend.loaded = s.loaded ∧ s.suspend.straps = s.straps
     ∧ s.suspend.params = s.params ∧ s.suspend.cfl = s.cfl ∧ s.suspend.lsc = s.lsc
     ∧ s.suspend.btb = s.btb ∧ s.suspend.ssc = s.ssc ∧ s.suspend.fde = s.fde
     ∧ s.suspend.fcc = s.fcc ∧ s.suspend.ord = s.ord ∧ s.suspend.svp = s.svp
     ∧ s.suspend.freeCount = s.freeCount ∧ s.suspend.cadenceFirst = s.cadenceFirst
     ∧ s.suspend.pending = s.pending := by
  simp [State.suspend]

/-- What `State.cfmReport` leaves alone. -/
@[simp] theorem State.cfmReport_frame (s : State) :
    s.cfmReport.released = s.released ∧ s.cfmReport.loaded = s.loaded
     ∧ s.cfmReport.straps = s.straps ∧ s.cfmReport.params = s.params ∧ s.cfmReport.cfl = s.cfl
     ∧ s.cfmReport.lsc = s.lsc ∧ s.cfmReport.btb = s.btb ∧ s.cfmReport.ssc = s.ssc
     ∧ s.cfmReport.fde = s.fde ∧ s.cfmReport.fcc = s.fcc ∧ s.cfmReport.ord = s.ord
     ∧ s.cfmReport.svp = s.svp ∧ s.cfmReport.freeCount = s.freeCount
     ∧ s.cfmReport.cadenceFirst = s.cadenceFirst ∧ s.cfmReport.pending = s.pending := by
  unfold State.cfmReport
  repeat' split
  all_goals simp

/-- What `State.fccReport` leaves alone. -/
@[simp] theorem State.fccReport_frame (s : State) :
    s.fccReport.released = s.released ∧ s.fccReport.loaded = s.loaded
     ∧ s.fccReport.straps = s.straps ∧ s.fccReport.params = s.params ∧ s.fccReport.cfl = s.cfl
     ∧ s.fccReport.lsc = s.lsc ∧ s.fccReport.btb = s.btb ∧ s.fccReport.ssc = s.ssc
     ∧ s.fccReport.fde = s.fde ∧ s.fccReport.cfm = s.cfm ∧ s.fccReport.ord = s.ord
     ∧ s.fccReport.aou = s.aou ∧ s.fccReport.svp = s.svp ∧ s.fccReport.freeCount = s.freeCount
     ∧ s.fccReport.cadenceFirst = s.cadenceFirst ∧ s.fccReport.pending = s.pending := by
  simp [State.fccReport]

/-- What `State.reportRole` leaves alone. -/
@[simp] theorem State.reportRole_frame (s : State) :
    s.reportRole.released = s.released ∧ s.reportRole.loaded = s.loaded
     ∧ s.reportRole.straps = s.straps ∧ s.reportRole.params = s.params ∧ s.reportRole.cfl = s.cfl
     ∧ s.reportRole.lsc = s.lsc ∧ s.reportRole.btb = s.btb ∧ s.reportRole.ssc = s.ssc
     ∧ s.reportRole.fde = s.fde ∧ s.reportRole.ord = s.ord ∧ s.reportRole.svp = s.svp
     ∧ s.reportRole.freeCount = s.freeCount ∧ s.reportRole.cadenceFirst = s.cadenceFirst
     ∧ s.reportRole.pending = s.pending := by
  simp [State.reportRole]

/-- What `State.reportDrained` leaves alone. -/
@[simp] theorem State.reportDrained_frame (s : State) :
    s.reportDrained.released = s.released ∧ s.reportDrained.loaded = s.loaded
     ∧ s.reportDrained.straps = s.straps ∧ s.reportDrained.params = s.params
     ∧ s.reportDrained.cfl = s.cfl ∧ s.reportDrained.lsc = s.lsc ∧ s.reportDrained.btb = s.btb
     ∧ s.reportDrained.ssc = s.ssc ∧ s.reportDrained.fde = s.fde ∧ s.reportDrained.fcc = s.fcc
     ∧ s.reportDrained.ord = s.ord ∧ s.reportDrained.svp = s.svp
     ∧ s.reportDrained.freeCount = s.freeCount ∧ s.reportDrained.cadenceFirst = s.cadenceFirst
     ∧ s.reportDrained.pending = s.pending := by
  simp [State.reportDrained]

/-- What `State.changeRole` leaves alone. -/
@[simp] theorem State.changeRole_frame (cause : RoleCause) (new : Role) (drained : Bool) (s : State) :
    (s.changeRole cause new drained).released = s.released
     ∧ (s.changeRole cause new drained).loaded = s.loaded
     ∧ (s.changeRole cause new drained).straps = s.straps
     ∧ (s.changeRole cause new drained).params = s.params
     ∧ (s.changeRole cause new drained).cfl = s.cfl ∧ (s.changeRole cause new drained).lsc = s.lsc
     ∧ (s.changeRole cause new drained).btb = s.btb ∧ (s.changeRole cause new drained).ssc = s.ssc
     ∧ (s.changeRole cause new drained).ord = s.ord ∧ (s.changeRole cause new drained).svp = s.svp
     ∧ (s.changeRole cause new drained).freeCount = s.freeCount
     ∧ (s.changeRole cause new drained).cadenceFirst = s.cadenceFirst
     ∧ (s.changeRole cause new drained).pending = s.pending := by
  simp [State.changeRole]

/-- What `State.frostRole` leaves alone. -/
@[simp] theorem State.frostRole_frame (old new : FrostState) (s : State) :
    (s.frostRole old new).released = s.released ∧ (s.frostRole old new).loaded = s.loaded
     ∧ (s.frostRole old new).straps = s.straps ∧ (s.frostRole old new).params = s.params
     ∧ (s.frostRole old new).cfl = s.cfl ∧ (s.frostRole old new).lsc = s.lsc
     ∧ (s.frostRole old new).btb = s.btb ∧ (s.frostRole old new).ssc = s.ssc
     ∧ (s.frostRole old new).ord = s.ord ∧ (s.frostRole old new).svp = s.svp
     ∧ (s.frostRole old new).freeCount = s.freeCount
     ∧ (s.frostRole old new).cadenceFirst = s.cadenceFirst
     ∧ (s.frostRole old new).pending = s.pending := by
  unfold State.frostRole
  repeat' split
  all_goals simp

/-- What `State.announceFrost` leaves alone. -/
@[simp] theorem State.announceFrost_frame (new : FrostState) (s : State) :
    (s.announceFrost new).released = s.released ∧ (s.announceFrost new).loaded = s.loaded
     ∧ (s.announceFrost new).straps = s.straps ∧ (s.announceFrost new).params = s.params
     ∧ (s.announceFrost new).cfl = s.cfl ∧ (s.announceFrost new).lsc = s.lsc
     ∧ (s.announceFrost new).btb = s.btb ∧ (s.announceFrost new).ssc = s.ssc
     ∧ (s.announceFrost new).fde = s.fde ∧ (s.announceFrost new).itb = s.itb
     ∧ (s.announceFrost new).ord = s.ord ∧ (s.announceFrost new).svp = s.svp
     ∧ (s.announceFrost new).freeCount = s.freeCount
     ∧ (s.announceFrost new).cadenceFirst = s.cadenceFirst
     ∧ (s.announceFrost new).pending = s.pending := by
  simp [State.announceFrost]

/-- What `State.setFrost` leaves alone. -/
@[simp] theorem State.setFrost_frame (new : FrostState) (s : State) :
    (s.setFrost new).released = s.released ∧ (s.setFrost new).loaded = s.loaded
     ∧ (s.setFrost new).straps = s.straps ∧ (s.setFrost new).params = s.params
     ∧ (s.setFrost new).cfl = s.cfl ∧ (s.setFrost new).lsc = s.lsc ∧ (s.setFrost new).btb = s.btb
     ∧ (s.setFrost new).ssc = s.ssc ∧ (s.setFrost new).ord = s.ord ∧ (s.setFrost new).svp = s.svp
     ∧ (s.setFrost new).freeCount = s.freeCount ∧ (s.setFrost new).cadenceFirst = s.cadenceFirst
     ∧ (s.setFrost new).pending = s.pending := by
  simp [State.setFrost]

/-- What `State.protectTimers` leaves alone. -/
@[simp] theorem State.protectTimers_frame (s : State) :
    s.protectTimers.released = s.released ∧ s.protectTimers.loaded = s.loaded
     ∧ s.protectTimers.straps = s.straps ∧ s.protectTimers.params = s.params
     ∧ s.protectTimers.cfl = s.cfl ∧ s.protectTimers.lsc = s.lsc ∧ s.protectTimers.btb = s.btb
     ∧ s.protectTimers.ssc = s.ssc ∧ s.protectTimers.fde = s.fde ∧ s.protectTimers.cfm = s.cfm
     ∧ s.protectTimers.fcc = s.fcc ∧ s.protectTimers.vdr = s.vdr ∧ s.protectTimers.ord = s.ord
     ∧ s.protectTimers.aou = s.aou ∧ s.protectTimers.svp = s.svp
     ∧ s.protectTimers.freeCount = s.freeCount ∧ s.protectTimers.cadenceFirst = s.cadenceFirst
     ∧ s.protectTimers.pending = s.pending := by
  simp [State.protectTimers]

/-- What `State.enterProtect` leaves alone. -/
@[simp] theorem State.enterProtect_frame (causes : List TripCause) (s : State) :
    (s.enterProtect causes).released = s.released ∧ (s.enterProtect causes).loaded = s.loaded
     ∧ (s.enterProtect causes).straps = s.straps ∧ (s.enterProtect causes).params = s.params
     ∧ (s.enterProtect causes).cfl = s.cfl ∧ (s.enterProtect causes).lsc = s.lsc
     ∧ (s.enterProtect causes).btb = s.btb ∧ (s.enterProtect causes).ssc = s.ssc
     ∧ (s.enterProtect causes).ord = s.ord ∧ (s.enterProtect causes).svp = s.svp
     ∧ (s.enterProtect causes).freeCount = s.freeCount
     ∧ (s.enterProtect causes).cadenceFirst = s.cadenceFirst
     ∧ (s.enterProtect causes).pending = s.pending := by
  simp [State.enterProtect]

/-- What `State.enterGuard` leaves alone. -/
@[simp] theorem State.enterGuard_frame (s : State) :
    s.enterGuard.released = s.released ∧ s.enterGuard.loaded = s.loaded
     ∧ s.enterGuard.straps = s.straps ∧ s.enterGuard.params = s.params ∧ s.enterGuard.cfl = s.cfl
     ∧ s.enterGuard.lsc = s.lsc ∧ s.enterGuard.btb = s.btb ∧ s.enterGuard.ssc = s.ssc
     ∧ s.enterGuard.ord = s.ord ∧ s.enterGuard.svp = s.svp ∧ s.enterGuard.freeCount = s.freeCount
     ∧ s.enterGuard.cadenceFirst = s.cadenceFirst ∧ s.enterGuard.pending = s.pending := by
  simp [State.enterGuard]

/-- What `State.releaseGuard` leaves alone. -/
@[simp] theorem State.releaseGuard_frame (s : State) :
    s.releaseGuard.released = s.released ∧ s.releaseGuard.loaded = s.loaded
     ∧ s.releaseGuard.straps = s.straps ∧ s.releaseGuard.params = s.params
     ∧ s.releaseGuard.cfl = s.cfl ∧ s.releaseGuard.lsc = s.lsc ∧ s.releaseGuard.btb = s.btb
     ∧ s.releaseGuard.ssc = s.ssc ∧ s.releaseGuard.ord = s.ord ∧ s.releaseGuard.svp = s.svp
     ∧ s.releaseGuard.freeCount = s.freeCount ∧ s.releaseGuard.cadenceFirst = s.cadenceFirst
     ∧ s.releaseGuard.pending = s.pending := by
  simp [State.releaseGuard]

/-- What `State.enterRecover` leaves alone. -/
@[simp] theorem State.enterRecover_frame (s : State) :
    s.enterRecover.released = s.released ∧ s.enterRecover.loaded = s.loaded
     ∧ s.enterRecover.straps = s.straps ∧ s.enterRecover.params = s.params
     ∧ s.enterRecover.cfl = s.cfl ∧ s.enterRecover.lsc = s.lsc ∧ s.enterRecover.btb = s.btb
     ∧ s.enterRecover.ssc = s.ssc ∧ s.enterRecover.ord = s.ord ∧ s.enterRecover.svp = s.svp
     ∧ s.enterRecover.freeCount = s.freeCount ∧ s.enterRecover.cadenceFirst = s.cadenceFirst
     ∧ s.enterRecover.pending = s.pending := by
  simp [State.enterRecover]

/-- What `State.watchGuard` leaves alone. -/
@[simp] theorem State.watchGuard_frame (set : ScanSet) (s : State) :
    (s.watchGuard set).released = s.released ∧ (s.watchGuard set).loaded = s.loaded
     ∧ (s.watchGuard set).straps = s.straps ∧ (s.watchGuard set).params = s.params
     ∧ (s.watchGuard set).cfl = s.cfl ∧ (s.watchGuard set).lsc = s.lsc
     ∧ (s.watchGuard set).btb = s.btb ∧ (s.watchGuard set).ssc = s.ssc
     ∧ (s.watchGuard set).ord = s.ord ∧ (s.watchGuard set).svp = s.svp
     ∧ (s.watchGuard set).freeCount = s.freeCount
     ∧ (s.watchGuard set).cadenceFirst = s.cadenceFirst ∧ (s.watchGuard set).pending = s.pending := by
  unfold State.watchGuard
  repeat' split
  all_goals simp

/-- What `State.evaluate` leaves alone. -/
@[simp] theorem State.evaluate_frame (set : ScanSet) (s : State) :
    (s.evaluate set).released = s.released ∧ (s.evaluate set).loaded = s.loaded
     ∧ (s.evaluate set).straps = s.straps ∧ (s.evaluate set).params = s.params
     ∧ (s.evaluate set).cfl = s.cfl ∧ (s.evaluate set).lsc = s.lsc ∧ (s.evaluate set).btb = s.btb
     ∧ (s.evaluate set).ssc = s.ssc ∧ (s.evaluate set).ord = s.ord ∧ (s.evaluate set).svp = s.svp
     ∧ (s.evaluate set).freeCount = s.freeCount ∧ (s.evaluate set).cadenceFirst = s.cadenceFirst
     ∧ (s.evaluate set).pending = s.pending := by
  unfold State.evaluate
  repeat' split
  all_goals simp

/-- What `State.frostScan` leaves alone. -/
@[simp] theorem State.frostScan_frame (set : ScanSet) (s : State) :
    (s.frostScan set).released = s.released ∧ (s.frostScan set).loaded = s.loaded
     ∧ (s.frostScan set).straps = s.straps ∧ (s.frostScan set).params = s.params
     ∧ (s.frostScan set).cfl = s.cfl ∧ (s.frostScan set).lsc = s.lsc
     ∧ (s.frostScan set).btb = s.btb ∧ (s.frostScan set).ssc = s.ssc
     ∧ (s.frostScan set).ord = s.ord ∧ (s.frostScan set).svp = s.svp
     ∧ (s.frostScan set).freeCount = s.freeCount ∧ (s.frostScan set).cadenceFirst = s.cadenceFirst
     ∧ (s.frostScan set).pending = s.pending := by
  unfold State.frostScan
  repeat' split
  all_goals simp

/-- What `State.valveScan` leaves alone. -/
@[simp] theorem State.valveScan_frame (set : ScanSet) (s : State) :
    (s.valveScan set).released = s.released ∧ (s.valveScan set).loaded = s.loaded
     ∧ (s.valveScan set).straps = s.straps ∧ (s.valveScan set).params = s.params
     ∧ (s.valveScan set).cfl = s.cfl ∧ (s.valveScan set).lsc = s.lsc
     ∧ (s.valveScan set).btb = s.btb ∧ (s.valveScan set).ssc = s.ssc
     ∧ (s.valveScan set).fde = s.fde ∧ (s.valveScan set).cfm = s.cfm
     ∧ (s.valveScan set).fcc = s.fcc ∧ (s.valveScan set).itb = s.itb
     ∧ (s.valveScan set).ord = s.ord ∧ (s.valveScan set).svp = s.svp
     ∧ (s.valveScan set).freeCount = s.freeCount ∧ (s.valveScan set).cadenceFirst = s.cadenceFirst
     ∧ (s.valveScan set).pending = s.pending := by
  simp [State.valveScan]

/-- What `State.raiseScan` leaves alone. -/
@[simp] theorem State.raiseScan_frame (valveFirst : Bool) (set : ScanSet) (s : State) :
    (s.raiseScan valveFirst set).released = s.released
     ∧ (s.raiseScan valveFirst set).loaded = s.loaded
     ∧ (s.raiseScan valveFirst set).straps = s.straps
     ∧ (s.raiseScan valveFirst set).params = s.params ∧ (s.raiseScan valveFirst set).cfl = s.cfl
     ∧ (s.raiseScan valveFirst set).lsc = s.lsc ∧ (s.raiseScan valveFirst set).btb = s.btb
     ∧ (s.raiseScan valveFirst set).ssc = s.ssc ∧ (s.raiseScan valveFirst set).ord = s.ord
     ∧ (s.raiseScan valveFirst set).svp = s.svp
     ∧ (s.raiseScan valveFirst set).freeCount = s.freeCount
     ∧ (s.raiseScan valveFirst set).cadenceFirst = s.cadenceFirst
     ∧ (s.raiseScan valveFirst set).pending = s.pending := by
  unfold State.raiseScan
  repeat' split
  all_goals simp

/-- What `State.completeScan` leaves alone. -/
@[simp] theorem State.completeScan_frame (valveFirst : Bool) (s : State) :
    (s.completeScan valveFirst).released = s.released
     ∧ (s.completeScan valveFirst).loaded = s.loaded
     ∧ (s.completeScan valveFirst).straps = s.straps
     ∧ (s.completeScan valveFirst).params = s.params ∧ (s.completeScan valveFirst).cfl = s.cfl
     ∧ (s.completeScan valveFirst).lsc = s.lsc ∧ (s.completeScan valveFirst).btb = s.btb
     ∧ (s.completeScan valveFirst).ord = s.ord ∧ (s.completeScan valveFirst).svp = s.svp
     ∧ (s.completeScan valveFirst).freeCount = s.freeCount
     ∧ (s.completeScan valveFirst).cadenceFirst = s.cadenceFirst
     ∧ (s.completeScan valveFirst).pending = s.pending := by
  unfold State.completeScan
  split <;> simp

/-- What `State.advance` leaves alone. -/
@[simp] theorem State.advance_frame (dt : Nat) (s : State) :
    (s.advance dt).released = s.released ∧ (s.advance dt).loaded = s.loaded
     ∧ (s.advance dt).straps = s.straps ∧ (s.advance dt).params = s.params
     ∧ (s.advance dt).cfl = s.cfl ∧ (s.advance dt).btb = s.btb ∧ (s.advance dt).ssc = s.ssc
     ∧ (s.advance dt).fde = s.fde ∧ (s.advance dt).cfm = s.cfm ∧ (s.advance dt).fcc = s.fcc
     ∧ (s.advance dt).vdr = s.vdr ∧ (s.advance dt).itb = s.itb ∧ (s.advance dt).ord = s.ord
     ∧ (s.advance dt).aou = s.aou ∧ (s.advance dt).svp = s.svp
     ∧ (s.advance dt).freeCount = s.freeCount ∧ (s.advance dt).cadenceFirst = s.cadenceFirst
     ∧ (s.advance dt).pending = s.pending := by
  unfold State.advance
  repeat' split
  all_goals simp

/-- What `State.takeLevels` leaves alone. -/
@[simp] theorem State.takeLevels_frame (withdraw drained : Bool) (s : State) :
    (s.takeLevels withdraw drained).released = s.released
     ∧ (s.takeLevels withdraw drained).loaded = s.loaded
     ∧ (s.takeLevels withdraw drained).straps = s.straps
     ∧ (s.takeLevels withdraw drained).params = s.params
     ∧ (s.takeLevels withdraw drained).cfl = s.cfl ∧ (s.takeLevels withdraw drained).lsc = s.lsc
     ∧ (s.takeLevels withdraw drained).btb = s.btb ∧ (s.takeLevels withdraw drained).ssc = s.ssc
     ∧ (s.takeLevels withdraw drained).ord = s.ord ∧ (s.takeLevels withdraw drained).svp = s.svp
     ∧ (s.takeLevels withdraw drained).freeCount = s.freeCount
     ∧ (s.takeLevels withdraw drained).cadenceFirst = s.cadenceFirst
     ∧ (s.takeLevels withdraw drained).pending = s.pending := by
  unfold State.takeLevels
  repeat' split
  all_goals simp

/-- What `State.fanReset` leaves alone. -/
@[simp] theorem State.fanReset_frame (s : State) :
    s.fanReset.released = s.released ∧ s.fanReset.loaded = s.loaded ∧ s.fanReset.straps = s.straps
     ∧ s.fanReset.params = s.params ∧ s.fanReset.cfl = s.cfl ∧ s.fanReset.lsc = s.lsc
     ∧ s.fanReset.btb = s.btb ∧ s.fanReset.ssc = s.ssc ∧ s.fanReset.fde = s.fde
     ∧ s.fanReset.cfm = s.cfm ∧ s.fanReset.vdr = s.vdr ∧ s.fanReset.itb = s.itb
     ∧ s.fanReset.ord = s.ord ∧ s.fanReset.svp = s.svp ∧ s.fanReset.freeCount = s.freeCount
     ∧ s.fanReset.cadenceFirst = s.cadenceFirst ∧ s.fanReset.pending = s.pending := by
  simp [State.fanReset]

/-- What `State.exercise` leaves alone. -/
@[simp] theorem State.exercise_frame (s : State) :
    s.exercise.released = s.released ∧ s.exercise.loaded = s.loaded ∧ s.exercise.straps = s.straps
     ∧ s.exercise.params = s.params ∧ s.exercise.cfl = s.cfl ∧ s.exercise.lsc = s.lsc
     ∧ s.exercise.btb = s.btb ∧ s.exercise.ssc = s.ssc ∧ s.exercise.fde = s.fde
     ∧ s.exercise.cfm = s.cfm ∧ s.exercise.vdr = s.vdr ∧ s.exercise.itb = s.itb
     ∧ s.exercise.ord = s.ord ∧ s.exercise.aou = s.aou ∧ s.exercise.svp = s.svp
     ∧ s.exercise.freeCount = s.freeCount ∧ s.exercise.cadenceFirst = s.cadenceFirst
     ∧ s.exercise.pending = s.pending := by
  unfold State.exercise
  repeat' split
  all_goals simp

/-- What `State.noteOrder` leaves alone. -/
@[simp] theorem State.noteOrder_frame (s : State) :
    s.noteOrder.released = s.released ∧ s.noteOrder.loaded = s.loaded
     ∧ s.noteOrder.straps = s.straps ∧ s.noteOrder.params = s.params ∧ s.noteOrder.cfl = s.cfl
     ∧ s.noteOrder.lsc = s.lsc ∧ s.noteOrder.btb = s.btb ∧ s.noteOrder.ssc = s.ssc
     ∧ s.noteOrder.fde = s.fde ∧ s.noteOrder.cfm = s.cfm ∧ s.noteOrder.fcc = s.fcc
     ∧ s.noteOrder.vdr = s.vdr ∧ s.noteOrder.svp = s.svp ∧ s.noteOrder.freeCount = s.freeCount
     ∧ s.noteOrder.cadenceFirst = s.cadenceFirst ∧ s.noteOrder.pending = s.pending := by
  simp [State.noteOrder]

/-- What `State.takeWithdraw` leaves alone. -/
@[simp] theorem State.takeWithdraw_frame (o : Order) (s : State) :
    (s.takeWithdraw o).released = s.released ∧ (s.takeWithdraw o).loaded = s.loaded
     ∧ (s.takeWithdraw o).straps = s.straps ∧ (s.takeWithdraw o).params = s.params
     ∧ (s.takeWithdraw o).cfl = s.cfl ∧ (s.takeWithdraw o).lsc = s.lsc
     ∧ (s.takeWithdraw o).btb = s.btb ∧ (s.takeWithdraw o).ssc = s.ssc
     ∧ (s.takeWithdraw o).svp = s.svp ∧ (s.takeWithdraw o).freeCount = s.freeCount
     ∧ (s.takeWithdraw o).cadenceFirst = s.cadenceFirst ∧ (s.takeWithdraw o).pending = s.pending := by
  simp [State.takeWithdraw]

/-- What `State.takeFanReset` leaves alone. -/
@[simp] theorem State.takeFanReset_frame (o : Order) (s : State) :
    (s.takeFanReset o).released = s.released ∧ (s.takeFanReset o).loaded = s.loaded
     ∧ (s.takeFanReset o).straps = s.straps ∧ (s.takeFanReset o).params = s.params
     ∧ (s.takeFanReset o).cfl = s.cfl ∧ (s.takeFanReset o).lsc = s.lsc
     ∧ (s.takeFanReset o).btb = s.btb ∧ (s.takeFanReset o).ssc = s.ssc
     ∧ (s.takeFanReset o).fde = s.fde ∧ (s.takeFanReset o).cfm = s.cfm
     ∧ (s.takeFanReset o).vdr = s.vdr ∧ (s.takeFanReset o).itb = s.itb
     ∧ (s.takeFanReset o).ord = s.ord ∧ (s.takeFanReset o).svp = s.svp
     ∧ (s.takeFanReset o).freeCount = s.freeCount
     ∧ (s.takeFanReset o).cadenceFirst = s.cadenceFirst ∧ (s.takeFanReset o).pending = s.pending := by
  unfold State.takeFanReset
  repeat' split
  all_goals simp

/-- What `State.takeClear` leaves alone. -/
@[simp] theorem State.takeClear_frame (o : Order) (s : State) :
    (s.takeClear o).released = s.released ∧ (s.takeClear o).loaded = s.loaded
     ∧ (s.takeClear o).straps = s.straps ∧ (s.takeClear o).params = s.params
     ∧ (s.takeClear o).cfl = s.cfl ∧ (s.takeClear o).lsc = s.lsc ∧ (s.takeClear o).btb = s.btb
     ∧ (s.takeClear o).ssc = s.ssc ∧ (s.takeClear o).fde = s.fde ∧ (s.takeClear o).cfm = s.cfm
     ∧ (s.takeClear o).fcc = s.fcc ∧ (s.takeClear o).vdr = s.vdr ∧ (s.takeClear o).itb = s.itb
     ∧ (s.takeClear o).ord = s.ord ∧ (s.takeClear o).svp = s.svp
     ∧ (s.takeClear o).freeCount = s.freeCount ∧ (s.takeClear o).cadenceFirst = s.cadenceFirst
     ∧ (s.takeClear o).pending = s.pending := by
  unfold State.takeClear
  repeat' split
  all_goals simp

/-- What `State.takeExercise` leaves alone. -/
@[simp] theorem State.takeExercise_frame (o : Order) (s : State) :
    (s.takeExercise o).released = s.released ∧ (s.takeExercise o).loaded = s.loaded
     ∧ (s.takeExercise o).straps = s.straps ∧ (s.takeExercise o).params = s.params
     ∧ (s.takeExercise o).cfl = s.cfl ∧ (s.takeExercise o).lsc = s.lsc
     ∧ (s.takeExercise o).btb = s.btb ∧ (s.takeExercise o).ssc = s.ssc
     ∧ (s.takeExercise o).fde = s.fde ∧ (s.takeExercise o).cfm = s.cfm
     ∧ (s.takeExercise o).vdr = s.vdr ∧ (s.takeExercise o).itb = s.itb
     ∧ (s.takeExercise o).ord = s.ord ∧ (s.takeExercise o).aou = s.aou
     ∧ (s.takeExercise o).svp = s.svp ∧ (s.takeExercise o).freeCount = s.freeCount
     ∧ (s.takeExercise o).cadenceFirst = s.cadenceFirst ∧ (s.takeExercise o).pending = s.pending := by
  unfold State.takeExercise
  repeat' split
  all_goals simp

/-- What `State.takeEdges` leaves alone. -/
@[simp] theorem State.takeEdges_frame (o : Order) (s : State) :
    (s.takeEdges o).released = s.released ∧ (s.takeEdges o).loaded = s.loaded
     ∧ (s.takeEdges o).straps = s.straps ∧ (s.takeEdges o).params = s.params
     ∧ (s.takeEdges o).cfl = s.cfl ∧ (s.takeEdges o).lsc = s.lsc ∧ (s.takeEdges o).btb = s.btb
     ∧ (s.takeEdges o).ssc = s.ssc ∧ (s.takeEdges o).fde = s.fde ∧ (s.takeEdges o).cfm = s.cfm
     ∧ (s.takeEdges o).vdr = s.vdr ∧ (s.takeEdges o).itb = s.itb ∧ (s.takeEdges o).ord = s.ord
     ∧ (s.takeEdges o).svp = s.svp ∧ (s.takeEdges o).freeCount = s.freeCount
     ∧ (s.takeEdges o).cadenceFirst = s.cadenceFirst ∧ (s.takeEdges o).pending = s.pending := by
  simp [State.takeEdges]

/-- What `State.takeOrder` leaves alone. -/
@[simp] theorem State.takeOrder_frame (o : Order) (s : State) :
    (s.takeOrder o).released = s.released ∧ (s.takeOrder o).loaded = s.loaded
     ∧ (s.takeOrder o).straps = s.straps ∧ (s.takeOrder o).params = s.params
     ∧ (s.takeOrder o).cfl = s.cfl ∧ (s.takeOrder o).lsc = s.lsc ∧ (s.takeOrder o).btb = s.btb
     ∧ (s.takeOrder o).ssc = s.ssc ∧ (s.takeOrder o).svp = s.svp
     ∧ (s.takeOrder o).freeCount = s.freeCount ∧ (s.takeOrder o).cadenceFirst = s.cadenceFirst
     ∧ (s.takeOrder o).pending = s.pending := by
  simp [State.takeOrder]

/-- What `State.acceptBulletin` leaves alone. -/
@[simp] theorem State.acceptBulletin_frame (k : Nat) (cs : List Byte) (s : State) :
    (s.acceptBulletin k cs).released = s.released ∧ (s.acceptBulletin k cs).loaded = s.loaded
     ∧ (s.acceptBulletin k cs).straps = s.straps ∧ (s.acceptBulletin k cs).params = s.params
     ∧ (s.acceptBulletin k cs).cfl = s.cfl ∧ (s.acceptBulletin k cs).ssc = s.ssc
     ∧ (s.acceptBulletin k cs).fde = s.fde ∧ (s.acceptBulletin k cs).cfm = s.cfm
     ∧ (s.acceptBulletin k cs).fcc = s.fcc ∧ (s.acceptBulletin k cs).vdr = s.vdr
     ∧ (s.acceptBulletin k cs).itb = s.itb ∧ (s.acceptBulletin k cs).ord = s.ord
     ∧ (s.acceptBulletin k cs).svp = s.svp ∧ (s.acceptBulletin k cs).freeCount = s.freeCount
     ∧ (s.acceptBulletin k cs).cadenceFirst = s.cadenceFirst
     ∧ (s.acceptBulletin k cs).pending = s.pending := by
  simp [State.acceptBulletin]

/-- What `State.acceptOrder` leaves alone. -/
@[simp] theorem State.acceptOrder_frame (cs : List Byte) (s : State) :
    (s.acceptOrder cs).released = s.released ∧ (s.acceptOrder cs).loaded = s.loaded
     ∧ (s.acceptOrder cs).straps = s.straps ∧ (s.acceptOrder cs).params = s.params
     ∧ (s.acceptOrder cs).cfl = s.cfl ∧ (s.acceptOrder cs).lsc = s.lsc
     ∧ (s.acceptOrder cs).ssc = s.ssc ∧ (s.acceptOrder cs).svp = s.svp
     ∧ (s.acceptOrder cs).freeCount = s.freeCount
     ∧ (s.acceptOrder cs).cadenceFirst = s.cadenceFirst ∧ (s.acceptOrder cs).pending = s.pending := by
  unfold State.acceptOrder
  repeat' split
  all_goals simp

/-- What `State.malformed` leaves alone. -/
@[simp] theorem State.malformed_frame (start : Option Nat) (s : State) :
    (s.malformed start).released = s.released ∧ (s.malformed start).loaded = s.loaded
     ∧ (s.malformed start).straps = s.straps ∧ (s.malformed start).params = s.params
     ∧ (s.malformed start).cfl = s.cfl ∧ (s.malformed start).lsc = s.lsc
     ∧ (s.malformed start).ssc = s.ssc ∧ (s.malformed start).fde = s.fde
     ∧ (s.malformed start).cfm = s.cfm ∧ (s.malformed start).fcc = s.fcc
     ∧ (s.malformed start).vdr = s.vdr ∧ (s.malformed start).itb = s.itb
     ∧ (s.malformed start).ord = s.ord ∧ (s.malformed start).aou = s.aou
     ∧ (s.malformed start).svp = s.svp ∧ (s.malformed start).freeCount = s.freeCount
     ∧ (s.malformed start).cadenceFirst = s.cadenceFirst ∧ (s.malformed start).pending = s.pending := by
  unfold State.malformed
  repeat' split
  all_goals simp

/-- What `State.enterDuplicate` leaves alone. -/
@[simp] theorem State.enterDuplicate_frame (s : State) :
    s.enterDuplicate.released = s.released ∧ s.enterDuplicate.loaded = s.loaded
     ∧ s.enterDuplicate.straps = s.straps ∧ s.enterDuplicate.params = s.params
     ∧ s.enterDuplicate.cfl = s.cfl ∧ s.enterDuplicate.btb = s.btb ∧ s.enterDuplicate.ssc = s.ssc
     ∧ s.enterDuplicate.fde = s.fde ∧ s.enterDuplicate.cfm = s.cfm ∧ s.enterDuplicate.fcc = s.fcc
     ∧ s.enterDuplicate.vdr = s.vdr ∧ s.enterDuplicate.itb = s.itb ∧ s.enterDuplicate.ord = s.ord
     ∧ s.enterDuplicate.svp = s.svp ∧ s.enterDuplicate.freeCount = s.freeCount
     ∧ s.enterDuplicate.cadenceFirst = s.cadenceFirst ∧ s.enterDuplicate.pending = s.pending := by
  simp [State.enterDuplicate]

/-- What `State.ownAddressBulletin` leaves alone. -/
@[simp] theorem State.ownAddressBulletin_frame (s : State) :
    s.ownAddressBulletin.released = s.released ∧ s.ownAddressBulletin.loaded = s.loaded
     ∧ s.ownAddressBulletin.straps = s.straps ∧ s.ownAddressBulletin.params = s.params
     ∧ s.ownAddressBulletin.cfl = s.cfl ∧ s.ownAddressBulletin.btb = s.btb
     ∧ s.ownAddressBulletin.ssc = s.ssc ∧ s.ownAddressBulletin.fde = s.fde
     ∧ s.ownAddressBulletin.cfm = s.cfm ∧ s.ownAddressBulletin.fcc = s.fcc
     ∧ s.ownAddressBulletin.vdr = s.vdr ∧ s.ownAddressBulletin.itb = s.itb
     ∧ s.ownAddressBulletin.ord = s.ord ∧ s.ownAddressBulletin.svp = s.svp
     ∧ s.ownAddressBulletin.freeCount = s.freeCount
     ∧ s.ownAddressBulletin.cadenceFirst = s.cadenceFirst
     ∧ s.ownAddressBulletin.pending = s.pending := by
  unfold State.ownAddressBulletin
  repeat' split
  all_goals simp

/-- What `State.endWindow` leaves alone. -/
@[simp] theorem State.endWindow_frame (k elapsed : Nat) (cs : List Byte) (s : State) :
    (s.endWindow k elapsed cs).released = s.released
     ∧ (s.endWindow k elapsed cs).loaded = s.loaded ∧ (s.endWindow k elapsed cs).straps = s.straps
     ∧ (s.endWindow k elapsed cs).params = s.params ∧ (s.endWindow k elapsed cs).cfl = s.cfl
     ∧ (s.endWindow k elapsed cs).ssc = s.ssc ∧ (s.endWindow k elapsed cs).fde = s.fde
     ∧ (s.endWindow k elapsed cs).cfm = s.cfm ∧ (s.endWindow k elapsed cs).fcc = s.fcc
     ∧ (s.endWindow k elapsed cs).vdr = s.vdr ∧ (s.endWindow k elapsed cs).itb = s.itb
     ∧ (s.endWindow k elapsed cs).ord = s.ord ∧ (s.endWindow k elapsed cs).svp = s.svp
     ∧ (s.endWindow k elapsed cs).freeCount = s.freeCount
     ∧ (s.endWindow k elapsed cs).cadenceFirst = s.cadenceFirst
     ∧ (s.endWindow k elapsed cs).pending = s.pending := by
  simp [State.endWindow]

/-- What `State.countIsolation` leaves alone. -/
@[simp] theorem State.countIsolation_frame (s : State) :
    s.countIsolation.released = s.released ∧ s.countIsolation.loaded = s.loaded
     ∧ s.countIsolation.straps = s.straps ∧ s.countIsolation.params = s.params
     ∧ s.countIsolation.cfl = s.cfl ∧ s.countIsolation.btb = s.btb ∧ s.countIsolation.ssc = s.ssc
     ∧ s.countIsolation.fde = s.fde ∧ s.countIsolation.cfm = s.cfm ∧ s.countIsolation.fcc = s.fcc
     ∧ s.countIsolation.vdr = s.vdr ∧ s.countIsolation.itb = s.itb ∧ s.countIsolation.ord = s.ord
     ∧ s.countIsolation.svp = s.svp ∧ s.countIsolation.freeCount = s.freeCount
     ∧ s.countIsolation.cadenceFirst = s.cadenceFirst ∧ s.countIsolation.pending = s.pending := by
  unfold State.countIsolation
  repeat' split
  all_goals simp

/-- What `State.countCadenceIf` leaves alone. -/
@[simp] theorem State.countCadenceIf_frame (b : Bool) (s : State) :
    (s.countCadenceIf b).released = s.released ∧ (s.countCadenceIf b).loaded = s.loaded
     ∧ (s.countCadenceIf b).straps = s.straps ∧ (s.countCadenceIf b).params = s.params
     ∧ (s.countCadenceIf b).cfl = s.cfl ∧ (s.countCadenceIf b).lsc = s.lsc
     ∧ (s.countCadenceIf b).btb = s.btb ∧ (s.countCadenceIf b).ssc = s.ssc
     ∧ (s.countCadenceIf b).fde = s.fde ∧ (s.countCadenceIf b).cfm = s.cfm
     ∧ (s.countCadenceIf b).fcc = s.fcc ∧ (s.countCadenceIf b).vdr = s.vdr
     ∧ (s.countCadenceIf b).itb = s.itb ∧ (s.countCadenceIf b).ord = s.ord
     ∧ (s.countCadenceIf b).svp = s.svp ∧ (s.countCadenceIf b).freeCount = s.freeCount
     ∧ (s.countCadenceIf b).cadenceFirst = s.cadenceFirst
     ∧ (s.countCadenceIf b).pending = s.pending := by
  unfold State.countCadenceIf
  repeat' split
  all_goals simp

/-- What `State.endCycle` leaves alone. -/
@[simp] theorem State.endCycle_frame (cadenceFirst : Bool) (s : State) :
    (s.endCycle cadenceFirst).released = s.released ∧ (s.endCycle cadenceFirst).loaded = s.loaded
     ∧ (s.endCycle cadenceFirst).straps = s.straps ∧ (s.endCycle cadenceFirst).params = s.params
     ∧ (s.endCycle cadenceFirst).cfl = s.cfl ∧ (s.endCycle cadenceFirst).ssc = s.ssc
     ∧ (s.endCycle cadenceFirst).cfm = s.cfm ∧ (s.endCycle cadenceFirst).fcc = s.fcc
     ∧ (s.endCycle cadenceFirst).ord = s.ord ∧ (s.endCycle cadenceFirst).svp = s.svp
     ∧ (s.endCycle cadenceFirst).freeCount = s.freeCount
     ∧ (s.endCycle cadenceFirst).pending = s.pending := by
  simp [State.endCycle]

/-- What `State.markAgeing` leaves alone. -/
@[simp] theorem State.markAgeing_frame (s : State) :
    s.markAgeing.released = s.released ∧ s.markAgeing.loaded = s.loaded
     ∧ s.markAgeing.straps = s.straps ∧ s.markAgeing.params = s.params ∧ s.markAgeing.cfl = s.cfl
     ∧ s.markAgeing.ssc = s.ssc ∧ s.markAgeing.fde = s.fde ∧ s.markAgeing.cfm = s.cfm
     ∧ s.markAgeing.fcc = s.fcc ∧ s.markAgeing.vdr = s.vdr ∧ s.markAgeing.itb = s.itb
     ∧ s.markAgeing.ord = s.ord ∧ s.markAgeing.aou = s.aou ∧ s.markAgeing.svp = s.svp
     ∧ s.markAgeing.freeCount = s.freeCount ∧ s.markAgeing.cadenceFirst = s.cadenceFirst
     ∧ s.markAgeing.pending = s.pending := by
  simp [State.markAgeing]

/-- What `State.decideInit` leaves alone. -/
@[simp] theorem State.decideInit_frame (l : Latched) (s : State) :
    (s.decideInit l).released = s.released ∧ (s.decideInit l).loaded = s.loaded
     ∧ (s.decideInit l).straps = s.straps ∧ (s.decideInit l).params = s.params
     ∧ (s.decideInit l).cfl = s.cfl ∧ (s.decideInit l).lsc = s.lsc ∧ (s.decideInit l).btb = s.btb
     ∧ (s.decideInit l).ssc = s.ssc ∧ (s.decideInit l).cfm = s.cfm ∧ (s.decideInit l).fcc = s.fcc
     ∧ (s.decideInit l).vdr = s.vdr ∧ (s.decideInit l).ord = s.ord ∧ (s.decideInit l).aou = s.aou
     ∧ (s.decideInit l).svp = s.svp ∧ (s.decideInit l).freeCount = s.freeCount
     ∧ (s.decideInit l).cadenceFirst = s.cadenceFirst ∧ (s.decideInit l).pending = s.pending := by
  unfold State.decideInit
  repeat' split
  all_goals simp

/-- What `State.decideResting` leaves alone. -/
@[simp] theorem State.decideResting_frame (share : Nat) (s : State) :
    (s.decideResting share).released = s.released ∧ (s.decideResting share).loaded = s.loaded
     ∧ (s.decideResting share).straps = s.straps ∧ (s.decideResting share).params = s.params
     ∧ (s.decideResting share).cfl = s.cfl ∧ (s.decideResting share).lsc = s.lsc
     ∧ (s.decideResting share).btb = s.btb ∧ (s.decideResting share).ssc = s.ssc
     ∧ (s.decideResting share).cfm = s.cfm ∧ (s.decideResting share).fcc = s.fcc
     ∧ (s.decideResting share).vdr = s.vdr ∧ (s.decideResting share).ord = s.ord
     ∧ (s.decideResting share).aou = s.aou ∧ (s.decideResting share).svp = s.svp
     ∧ (s.decideResting share).freeCount = s.freeCount
     ∧ (s.decideResting share).cadenceFirst = s.cadenceFirst
     ∧ (s.decideResting share).pending = s.pending := by
  unfold State.decideResting
  repeat' split
  all_goals simp

/-- What `State.decideShedding` leaves alone. -/
@[simp] theorem State.decideShedding_frame (l : Latched) (share : Nat) (s : State) :
    (s.decideShedding l share).released = s.released
     ∧ (s.decideShedding l share).loaded = s.loaded ∧ (s.decideShedding l share).straps = s.straps
     ∧ (s.decideShedding l share).params = s.params ∧ (s.decideShedding l share).cfl = s.cfl
     ∧ (s.decideShedding l share).lsc = s.lsc ∧ (s.decideShedding l share).btb = s.btb
     ∧ (s.decideShedding l share).ssc = s.ssc ∧ (s.decideShedding l share).cfm = s.cfm
     ∧ (s.decideShedding l share).fcc = s.fcc ∧ (s.decideShedding l share).vdr = s.vdr
     ∧ (s.decideShedding l share).ord = s.ord ∧ (s.decideShedding l share).aou = s.aou
     ∧ (s.decideShedding l share).svp = s.svp ∧ (s.decideShedding l share).freeCount = s.freeCount
     ∧ (s.decideShedding l share).cadenceFirst = s.cadenceFirst
     ∧ (s.decideShedding l share).pending = s.pending := by
  unfold State.decideShedding
  repeat' split
  all_goals simp

/-- What `State.decideWarming` leaves alone. -/
@[simp] theorem State.decideWarming_frame (l : Latched) (share : Nat) (s : State) :
    (s.decideWarming l share).released = s.released ∧ (s.decideWarming l share).loaded = s.loaded
     ∧ (s.decideWarming l share).straps = s.straps ∧ (s.decideWarming l share).params = s.params
     ∧ (s.decideWarming l share).cfl = s.cfl ∧ (s.decideWarming l share).lsc = s.lsc
     ∧ (s.decideWarming l share).btb = s.btb ∧ (s.decideWarming l share).ssc = s.ssc
     ∧ (s.decideWarming l share).cfm = s.cfm ∧ (s.decideWarming l share).fcc = s.fcc
     ∧ (s.decideWarming l share).vdr = s.vdr ∧ (s.decideWarming l share).ord = s.ord
     ∧ (s.decideWarming l share).aou = s.aou ∧ (s.decideWarming l share).svp = s.svp
     ∧ (s.decideWarming l share).freeCount = s.freeCount
     ∧ (s.decideWarming l share).cadenceFirst = s.cadenceFirst
     ∧ (s.decideWarming l share).pending = s.pending := by
  unfold State.decideWarming
  repeat' split
  all_goals simp

/-- What `State.decideCarrying` leaves alone. -/
@[simp] theorem State.decideCarrying_frame (l : Latched) (share : Nat) (s : State) :
    (s.decideCarrying l share).released = s.released
     ∧ (s.decideCarrying l share).loaded = s.loaded ∧ (s.decideCarrying l share).straps = s.straps
     ∧ (s.decideCarrying l share).params = s.params ∧ (s.decideCarrying l share).cfl = s.cfl
     ∧ (s.decideCarrying l share).lsc = s.lsc ∧ (s.decideCarrying l share).btb = s.btb
     ∧ (s.decideCarrying l share).ssc = s.ssc ∧ (s.decideCarrying l share).cfm = s.cfm
     ∧ (s.decideCarrying l share).fcc = s.fcc ∧ (s.decideCarrying l share).vdr = s.vdr
     ∧ (s.decideCarrying l share).ord = s.ord ∧ (s.decideCarrying l share).aou = s.aou
     ∧ (s.decideCarrying l share).svp = s.svp ∧ (s.decideCarrying l share).freeCount = s.freeCount
     ∧ (s.decideCarrying l share).cadenceFirst = s.cadenceFirst
     ∧ (s.decideCarrying l share).pending = s.pending := by
  unfold State.decideCarrying
  repeat' split
  all_goals simp

/-- What `State.decide` leaves alone. -/
@[simp] theorem State.decide_frame (l : Latched) (share : Nat) (s : State) :
    (s.decide l share).released = s.released ∧ (s.decide l share).loaded = s.loaded
     ∧ (s.decide l share).straps = s.straps ∧ (s.decide l share).params = s.params
     ∧ (s.decide l share).cfl = s.cfl ∧ (s.decide l share).lsc = s.lsc
     ∧ (s.decide l share).btb = s.btb ∧ (s.decide l share).ssc = s.ssc
     ∧ (s.decide l share).cfm = s.cfm ∧ (s.decide l share).fcc = s.fcc
     ∧ (s.decide l share).vdr = s.vdr ∧ (s.decide l share).ord = s.ord
     ∧ (s.decide l share).aou = s.aou ∧ (s.decide l share).svp = s.svp
     ∧ (s.decide l share).freeCount = s.freeCount
     ∧ (s.decide l share).cadenceFirst = s.cadenceFirst ∧ (s.decide l share).pending = s.pending := by
  unfold State.decide
  repeat' split
  all_goals simp

/-- What `State.stageFans` leaves alone. -/
@[simp] theorem State.stageFans_frame (changed : Bool) (m v : Nat) (s : State) :
    (s.stageFans changed m v).released = s.released ∧ (s.stageFans changed m v).loaded = s.loaded
     ∧ (s.stageFans changed m v).straps = s.straps ∧ (s.stageFans changed m v).params = s.params
     ∧ (s.stageFans changed m v).cfl = s.cfl ∧ (s.stageFans changed m v).lsc = s.lsc
     ∧ (s.stageFans changed m v).btb = s.btb ∧ (s.stageFans changed m v).ssc = s.ssc
     ∧ (s.stageFans changed m v).fde = s.fde ∧ (s.stageFans changed m v).cfm = s.cfm
     ∧ (s.stageFans changed m v).ord = s.ord ∧ (s.stageFans changed m v).aou = s.aou
     ∧ (s.stageFans changed m v).svp = s.svp ∧ (s.stageFans changed m v).freeCount = s.freeCount
     ∧ (s.stageFans changed m v).cadenceFirst = s.cadenceFirst
     ∧ (s.stageFans changed m v).pending = s.pending := by
  simp [State.stageFans]

/-- What `State.raiseAllotment` leaves alone. -/
@[simp] theorem State.raiseAllotment_frame (valveFirst changed : Bool) (m v : Nat) (s : State) :
    (s.raiseAllotment valveFirst changed m v).released = s.released
     ∧ (s.raiseAllotment valveFirst changed m v).loaded = s.loaded
     ∧ (s.raiseAllotment valveFirst changed m v).straps = s.straps
     ∧ (s.raiseAllotment valveFirst changed m v).params = s.params
     ∧ (s.raiseAllotment valveFirst changed m v).cfl = s.cfl
     ∧ (s.raiseAllotment valveFirst changed m v).lsc = s.lsc
     ∧ (s.raiseAllotment valveFirst changed m v).btb = s.btb
     ∧ (s.raiseAllotment valveFirst changed m v).ssc = s.ssc
     ∧ (s.raiseAllotment valveFirst changed m v).fde = s.fde
     ∧ (s.raiseAllotment valveFirst changed m v).cfm = s.cfm
     ∧ (s.raiseAllotment valveFirst changed m v).ord = s.ord
     ∧ (s.raiseAllotment valveFirst changed m v).aou = s.aou
     ∧ (s.raiseAllotment valveFirst changed m v).svp = s.svp
     ∧ (s.raiseAllotment valveFirst changed m v).freeCount = s.freeCount
     ∧ (s.raiseAllotment valveFirst changed m v).cadenceFirst = s.cadenceFirst
     ∧ (s.raiseAllotment valveFirst changed m v).pending = s.pending := by
  unfold State.raiseAllotment
  repeat' split
  all_goals simp

/-- What `State.decideAndRecord` leaves alone. -/
@[simp] theorem State.decideAndRecord_frame (l : Latched) (s : State) :
    (s.decideAndRecord l).released = s.released ∧ (s.decideAndRecord l).loaded = s.loaded
     ∧ (s.decideAndRecord l).straps = s.straps ∧ (s.decideAndRecord l).params = s.params
     ∧ (s.decideAndRecord l).cfl = s.cfl ∧ (s.decideAndRecord l).lsc = s.lsc
     ∧ (s.decideAndRecord l).btb = s.btb ∧ (s.decideAndRecord l).ssc = s.ssc
     ∧ (s.decideAndRecord l).cfm = s.cfm ∧ (s.decideAndRecord l).fcc = s.fcc
     ∧ (s.decideAndRecord l).vdr = s.vdr ∧ (s.decideAndRecord l).ord = s.ord
     ∧ (s.decideAndRecord l).aou = s.aou ∧ (s.decideAndRecord l).svp = s.svp
     ∧ (s.decideAndRecord l).freeCount = s.freeCount
     ∧ (s.decideAndRecord l).cadenceFirst = s.cadenceFirst
     ∧ (s.decideAndRecord l).pending = s.pending := by
  simp [State.decideAndRecord]

/-- What `State.issue` leaves alone. -/
@[simp] theorem State.issue_frame (valveFirst : Bool) (l : Latched) (s : State) :
    (s.issue valveFirst l).released = s.released ∧ (s.issue valveFirst l).loaded = s.loaded
     ∧ (s.issue valveFirst l).straps = s.straps ∧ (s.issue valveFirst l).params = s.params
     ∧ (s.issue valveFirst l).cfl = s.cfl ∧ (s.issue valveFirst l).lsc = s.lsc
     ∧ (s.issue valveFirst l).btb = s.btb ∧ (s.issue valveFirst l).ssc = s.ssc
     ∧ (s.issue valveFirst l).cfm = s.cfm ∧ (s.issue valveFirst l).ord = s.ord
     ∧ (s.issue valveFirst l).svp = s.svp ∧ (s.issue valveFirst l).cadenceFirst = s.cadenceFirst
     ∧ (s.issue valveFirst l).pending = s.pending := by
  simp [State.issue]

/-- What `State.rotExpired` leaves alone. -/
@[simp] theorem State.rotExpired_frame (s : State) :
    s.rotExpired.released = s.released ∧ s.rotExpired.loaded = s.loaded
     ∧ s.rotExpired.straps = s.straps ∧ s.rotExpired.params = s.params ∧ s.rotExpired.cfl = s.cfl
     ∧ s.rotExpired.lsc = s.lsc ∧ s.rotExpired.btb = s.btb ∧ s.rotExpired.ssc = s.ssc
     ∧ s.rotExpired.cfm = s.cfm ∧ s.rotExpired.fcc = s.fcc ∧ s.rotExpired.vdr = s.vdr
     ∧ s.rotExpired.itb = s.itb ∧ s.rotExpired.ord = s.ord ∧ s.rotExpired.aou = s.aou
     ∧ s.rotExpired.svp = s.svp ∧ s.rotExpired.freeCount = s.freeCount
     ∧ s.rotExpired.cadenceFirst = s.cadenceFirst ∧ s.rotExpired.pending = s.pending := by
  unfold State.rotExpired
  repeat' split
  all_goals simp

/-- What `State.warmExpired` leaves alone. -/
@[simp] theorem State.warmExpired_frame (s : State) :
    s.warmExpired.released = s.released ∧ s.warmExpired.loaded = s.loaded
     ∧ s.warmExpired.straps = s.straps ∧ s.warmExpired.params = s.params
     ∧ s.warmExpired.cfl = s.cfl ∧ s.warmExpired.lsc = s.lsc ∧ s.warmExpired.btb = s.btb
     ∧ s.warmExpired.ssc = s.ssc ∧ s.warmExpired.ord = s.ord ∧ s.warmExpired.svp = s.svp
     ∧ s.warmExpired.freeCount = s.freeCount ∧ s.warmExpired.cadenceFirst = s.cadenceFirst
     ∧ s.warmExpired.pending = s.pending := by
  unfold State.warmExpired
  repeat' split
  all_goals simp

/-- What `State.shedExpired` leaves alone. -/
@[simp] theorem State.shedExpired_frame (s : State) :
    s.shedExpired.released = s.released ∧ s.shedExpired.loaded = s.loaded
     ∧ s.shedExpired.straps = s.straps ∧ s.shedExpired.params = s.params
     ∧ s.shedExpired.cfl = s.cfl ∧ s.shedExpired.lsc = s.lsc ∧ s.shedExpired.btb = s.btb
     ∧ s.shedExpired.ssc = s.ssc ∧ s.shedExpired.ord = s.ord ∧ s.shedExpired.svp = s.svp
     ∧ s.shedExpired.freeCount = s.freeCount ∧ s.shedExpired.cadenceFirst = s.cadenceFirst
     ∧ s.shedExpired.pending = s.pending := by
  unfold State.shedExpired
  repeat' split
  all_goals simp

/-- What `State.guardExpired` leaves alone. -/
@[simp] theorem State.guardExpired_frame (s : State) :
    s.guardExpired.released = s.released ∧ s.guardExpired.loaded = s.loaded
     ∧ s.guardExpired.straps = s.straps ∧ s.guardExpired.params = s.params
     ∧ s.guardExpired.cfl = s.cfl ∧ s.guardExpired.lsc = s.lsc ∧ s.guardExpired.btb = s.btb
     ∧ s.guardExpired.ssc = s.ssc ∧ s.guardExpired.ord = s.ord ∧ s.guardExpired.svp = s.svp
     ∧ s.guardExpired.freeCount = s.freeCount ∧ s.guardExpired.cadenceFirst = s.cadenceFirst
     ∧ s.guardExpired.pending = s.pending := by
  unfold State.guardExpired
  repeat' split
  all_goals simp

/-- What `State.protExpired` leaves alone. -/
@[simp] theorem State.protExpired_frame (s : State) :
    s.protExpired.released = s.released ∧ s.protExpired.loaded = s.loaded
     ∧ s.protExpired.straps = s.straps ∧ s.protExpired.params = s.params
     ∧ s.protExpired.cfl = s.cfl ∧ s.protExpired.lsc = s.lsc ∧ s.protExpired.btb = s.btb
     ∧ s.protExpired.ssc = s.ssc ∧ s.protExpired.ord = s.ord ∧ s.protExpired.svp = s.svp
     ∧ s.protExpired.freeCount = s.freeCount ∧ s.protExpired.cadenceFirst = s.cadenceFirst
     ∧ s.protExpired.pending = s.pending := by
  unfold State.protExpired
  repeat' split
  all_goals simp

/-- What `State.recovExpired` leaves alone. -/
@[simp] theorem State.recovExpired_frame (s : State) :
    s.recovExpired.released = s.released ∧ s.recovExpired.loaded = s.loaded
     ∧ s.recovExpired.straps = s.straps ∧ s.recovExpired.params = s.params
     ∧ s.recovExpired.cfl = s.cfl ∧ s.recovExpired.lsc = s.lsc ∧ s.recovExpired.btb = s.btb
     ∧ s.recovExpired.ssc = s.ssc ∧ s.recovExpired.ord = s.ord ∧ s.recovExpired.svp = s.svp
     ∧ s.recovExpired.freeCount = s.freeCount ∧ s.recovExpired.cadenceFirst = s.cadenceFirst
     ∧ s.recovExpired.pending = s.pending := by
  unfold State.recovExpired
  repeat' split
  all_goals simp

/-- What `State.stagExpired` leaves alone. -/
@[simp] theorem State.stagExpired_frame (s : State) :
    s.stagExpired.released = s.released ∧ s.stagExpired.loaded = s.loaded
     ∧ s.stagExpired.straps = s.straps ∧ s.stagExpired.params = s.params
     ∧ s.stagExpired.cfl = s.cfl ∧ s.stagExpired.lsc = s.lsc ∧ s.stagExpired.btb = s.btb
     ∧ s.stagExpired.ssc = s.ssc ∧ s.stagExpired.ord = s.ord ∧ s.stagExpired.svp = s.svp
     ∧ s.stagExpired.freeCount = s.freeCount ∧ s.stagExpired.cadenceFirst = s.cadenceFirst
     ∧ s.stagExpired.pending = s.pending := by
  unfold State.stagExpired
  repeat' split
  all_goals simp

/-- What `State.iceExpired` leaves alone. -/
@[simp] theorem State.iceExpired_frame (s : State) :
    s.iceExpired.released = s.released ∧ s.iceExpired.loaded = s.loaded
     ∧ s.iceExpired.straps = s.straps ∧ s.iceExpired.params = s.params ∧ s.iceExpired.cfl = s.cfl
     ∧ s.iceExpired.lsc = s.lsc ∧ s.iceExpired.btb = s.btb ∧ s.iceExpired.ssc = s.ssc
     ∧ s.iceExpired.fde = s.fde ∧ s.iceExpired.cfm = s.cfm ∧ s.iceExpired.vdr = s.vdr
     ∧ s.iceExpired.itb = s.itb ∧ s.iceExpired.ord = s.ord ∧ s.iceExpired.svp = s.svp
     ∧ s.iceExpired.freeCount = s.freeCount ∧ s.iceExpired.cadenceFirst = s.cadenceFirst
     ∧ s.iceExpired.pending = s.pending := by
  unfold State.iceExpired
  repeat' split
  all_goals simp

/-- What `State.ordExpired` leaves alone. -/
@[simp] theorem State.ordExpired_frame (s : State) :
    s.ordExpired.released = s.released ∧ s.ordExpired.loaded = s.loaded
     ∧ s.ordExpired.straps = s.straps ∧ s.ordExpired.params = s.params ∧ s.ordExpired.cfl = s.cfl
     ∧ s.ordExpired.lsc = s.lsc ∧ s.ordExpired.btb = s.btb ∧ s.ordExpired.ssc = s.ssc
     ∧ s.ordExpired.fde = s.fde ∧ s.ordExpired.cfm = s.cfm ∧ s.ordExpired.fcc = s.fcc
     ∧ s.ordExpired.vdr = s.vdr ∧ s.ordExpired.itb = s.itb ∧ s.ordExpired.ord = s.ord
     ∧ s.ordExpired.svp = s.svp ∧ s.ordExpired.freeCount = s.freeCount
     ∧ s.ordExpired.cadenceFirst = s.cadenceFirst ∧ s.ordExpired.pending = s.pending := by
  unfold State.ordExpired
  repeat' split
  all_goals simp

/-- What `State.declareStuck` leaves alone. -/
@[simp] theorem State.declareStuck_frame (s : State) :
    s.declareStuck.released = s.released ∧ s.declareStuck.loaded = s.loaded
     ∧ s.declareStuck.straps = s.straps ∧ s.declareStuck.params = s.params
     ∧ s.declareStuck.cfl = s.cfl ∧ s.declareStuck.lsc = s.lsc ∧ s.declareStuck.btb = s.btb
     ∧ s.declareStuck.ssc = s.ssc ∧ s.declareStuck.fde = s.fde ∧ s.declareStuck.cfm = s.cfm
     ∧ s.declareStuck.fcc = s.fcc ∧ s.declareStuck.itb = s.itb ∧ s.declareStuck.ord = s.ord
     ∧ s.declareStuck.svp = s.svp ∧ s.declareStuck.freeCount = s.freeCount
     ∧ s.declareStuck.cadenceFirst = s.cadenceFirst ∧ s.declareStuck.pending = s.pending := by
  simp [State.declareStuck]

/-- `State.withCycleEnd` adds at most a count of the cadence to what `act` does. -/
@[simp] theorem State.withCycleEnd_frame (act : State → State) (s : State) :
    (s.withCycleEnd act).released = (act s).released
     ∧ (s.withCycleEnd act).loaded = (act s).loaded ∧ (s.withCycleEnd act).straps = (act s).straps
     ∧ (s.withCycleEnd act).params = (act s).params ∧ (s.withCycleEnd act).cfl = (act s).cfl
     ∧ (s.withCycleEnd act).lsc = (act s).lsc ∧ (s.withCycleEnd act).btb = (act s).btb
     ∧ (s.withCycleEnd act).ssc = (act s).ssc ∧ (s.withCycleEnd act).fde = (act s).fde
     ∧ (s.withCycleEnd act).cfm = (act s).cfm ∧ (s.withCycleEnd act).fcc = (act s).fcc
     ∧ (s.withCycleEnd act).vdr = (act s).vdr ∧ (s.withCycleEnd act).itb = (act s).itb
     ∧ (s.withCycleEnd act).ord = (act s).ord ∧ (s.withCycleEnd act).svp = (act s).svp
     ∧ (s.withCycleEnd act).freeCount = (act s).freeCount
     ∧ (s.withCycleEnd act).cadenceFirst = (act s).cadenceFirst
     ∧ (s.withCycleEnd act).pending = (act s).pending := by
  simp [State.withCycleEnd]

/-- What `State.reloadTimers` leaves alone. -/
@[simp] theorem State.reloadTimers_frame (s : State) :
    s.reloadTimers.released = s.released ∧ s.reloadTimers.loaded = s.loaded
     ∧ s.reloadTimers.straps = s.straps ∧ s.reloadTimers.params = s.params
     ∧ s.reloadTimers.cfl = s.cfl ∧ s.reloadTimers.lsc = s.lsc ∧ s.reloadTimers.btb = s.btb
     ∧ s.reloadTimers.ssc = s.ssc ∧ s.reloadTimers.fde = s.fde ∧ s.reloadTimers.cfm = s.cfm
     ∧ s.reloadTimers.fcc = s.fcc ∧ s.reloadTimers.vdr = s.vdr ∧ s.reloadTimers.ord = s.ord
     ∧ s.reloadTimers.aou = s.aou ∧ s.reloadTimers.svp = s.svp
     ∧ s.reloadTimers.freeCount = s.freeCount ∧ s.reloadTimers.cadenceFirst = s.cadenceFirst
     ∧ s.reloadTimers.pending = s.pending := by
  simp [State.reloadTimers, allTimers]

/-- What `State.completeLoad` leaves alone. -/
@[simp] theorem State.completeLoad_frame (s : State) :
    s.completeLoad.released = s.released ∧ s.completeLoad.straps = s.straps
     ∧ s.completeLoad.cfl = s.cfl ∧ s.completeLoad.btb = s.btb ∧ s.completeLoad.fde = s.fde
     ∧ s.completeLoad.cfm = s.cfm ∧ s.completeLoad.svp = s.svp
     ∧ s.completeLoad.freeCount = s.freeCount ∧ s.completeLoad.cadenceFirst = s.cadenceFirst
     ∧ s.completeLoad.pending = s.pending := by
  simp [State.completeLoad]

/-- What `State.validFrame` leaves alone. -/
@[simp] theorem State.validFrame_frame (r : RxFrame) (e : Envelope) (s : State) :
    (s.validFrame r e).released = s.released ∧ (s.validFrame r e).loaded = s.loaded
     ∧ (s.validFrame r e).straps = s.straps ∧ (s.validFrame r e).params = s.params
     ∧ (s.validFrame r e).cfl = s.cfl ∧ (s.validFrame r e).ssc = s.ssc
     ∧ (s.validFrame r e).svp = s.svp ∧ (s.validFrame r e).freeCount = s.freeCount
     ∧ (s.validFrame r e).cadenceFirst = s.cadenceFirst ∧ (s.validFrame r e).pending = s.pending := by
  unfold State.validFrame State.windowed
  repeat' split
  all_goals simp

/-- What `State.completeFrame` leaves alone. -/
@[simp] theorem State.completeFrame_frame (r : RxFrame) (chars : List RxChar) (s : State) :
    (s.completeFrame r chars).released = s.released ∧ (s.completeFrame r chars).loaded = s.loaded
     ∧ (s.completeFrame r chars).straps = s.straps ∧ (s.completeFrame r chars).params = s.params
     ∧ (s.completeFrame r chars).cfl = s.cfl ∧ (s.completeFrame r chars).ssc = s.ssc
     ∧ (s.completeFrame r chars).svp = s.svp ∧ (s.completeFrame r chars).freeCount = s.freeCount
     ∧ (s.completeFrame r chars).cadenceFirst = s.cadenceFirst
     ∧ (s.completeFrame r chars).pending = s.pending := by
  unfold State.completeFrame
  split <;> simp

/-- What `State.serve` leaves alone. -/
@[simp] theorem State.serve_frame (view start count : Byte) (s : State) :
    (s.serve view start count).released = s.released
     ∧ (s.serve view start count).loaded = s.loaded ∧ (s.serve view start count).straps = s.straps
     ∧ (s.serve view start count).params = s.params ∧ (s.serve view start count).cfl = s.cfl
     ∧ (s.serve view start count).lsc = s.lsc ∧ (s.serve view start count).btb = s.btb
     ∧ (s.serve view start count).ssc = s.ssc ∧ (s.serve view start count).fde = s.fde
     ∧ (s.serve view start count).cfm = s.cfm ∧ (s.serve view start count).fcc = s.fcc
     ∧ (s.serve view start count).vdr = s.vdr ∧ (s.serve view start count).itb = s.itb
     ∧ (s.serve view start count).ord = s.ord ∧ (s.serve view start count).aou = s.aou
     ∧ (s.serve view start count).freeCount = s.freeCount
     ∧ (s.serve view start count).cadenceFirst = s.cadenceFirst
     ∧ (s.serve view start count).pending = s.pending := by
  unfold State.serve
  repeat' split
  all_goals simp

end Sys2Proof.Machine
end

