-- ==== Sys2Proof/Laws/Ops.lean ====
section
/-! SUPPORT. Laws/Ops.lean: one lemma for each shared operation, which says what it does to the blocks it
changes; Laws/State.lean says what it leaves alone. -/

namespace Sys2Proof.Machine

/-! ### The readback -/

/-- The comparison of R20, position by position. -/
theorem returnDiffers_iff (sent : List Byte) (returned : List (Option RxChar)) :
    returnDiffers sent returned = true
      ↔ ∃ (i : Nat) (c : Byte) (x : Option RxChar), sent[i]? = some c ∧ returned[i]? = some x ∧ x ≠ some (⟨c, false⟩ : RxChar) := by
  unfold returnDiffers echoOf
  rw [List.any_eq_true]
  constructor
  · rintro ⟨⟨x, y⟩, hm, hne⟩
    obtain ⟨i, hi⟩ := List.mem_iff_getElem?.mp hm
    rw [List.getElem?_zip_eq_some, List.getElem?_map] at hi
    obtain ⟨hx, hy⟩ := hi
    obtain ⟨c, hc, rfl⟩ := Option.map_eq_some_iff.mp hy
    exact ⟨i, c, x, hc, hx, by simpa using hne⟩
  · rintro ⟨i, c, x, hc, hx, hne⟩
    refine ⟨(x, some ⟨c, false⟩), List.mem_iff_getElem?.mpr ⟨i, ?_⟩, by simpa using hne⟩
    rw [List.getElem?_zip_eq_some, List.getElem?_map, hc]
    exact ⟨hx, rfl⟩

/-! ### DE -/

@[simp] theorem Lsc.releaseDriver_sending (l : Lsc) : l.releaseDriver.sending = none := rfl

/-- With DE released nothing changes. -/
@[simp] theorem Lsc.releaseDriver_of_silent {l : Lsc} (h : l.sending = none) : l.releaseDriver = l := by
  cases l; simp_all [Lsc.releaseDriver]

/-- A transmission that ends lets the idle line count from 0. -/
@[simp] theorem Lsc.releaseDriver_of_sending {l : Lsc} {cs : List Byte} (h : l.sending = some cs) :
    l.releaseDriver = { l with sending := none, idle := 0 } := by simp [Lsc.releaseDriver, h]

/-! ### Timers -/

/-- A timer after another was replaced, or after it was itself. -/
theorem State.timer_setTimer (a b : TimerId) (t : Timer) (s : State) :
    (s.setTimer b t).timer a = if a = b then t else s.timer a := by
  have h : (b.index.val = a.index.val) = (a = b) := by cases a <;> cases b <;> decide
  unfold State.setTimer State.timer
  simp only [Fin.getElem_fin, Vector.getElem_set, h]

/-- A start acts on its own timer alone (R154). -/
theorem State.timer_startTimer (a b : TimerId) (s : State) :
    (s.startTimer b).timer a
      = if a = b then (s.timer b).start b.retriggerable (s.timerParams b) else s.timer a :=
  State.timer_setTimer a b _ s

/-- A stop acts on its own timer alone (R154). -/
theorem State.timer_stopTimer (a b : TimerId) (s : State) :
    (s.stopTimer b).timer a = if a = b then (s.timer b).stop else s.timer a :=
  State.timer_setTimer a b _ s

/-- An expiry acts on its own timer alone (R156). -/
theorem State.timer_expire (a b : TimerId) (s : State) :
    (s.expire b).timer a
      = if a = b then (s.timer b).expire b.repeating (s.timerParams b) else s.timer a :=
  State.timer_setTimer a b _ s

@[simp] theorem State.timerParams_setTimer (a b : TimerId) (t : Timer) (s : State) :
    (s.setTimer b t).timerParams a = s.timerParams a := rfl

/-- A timer of a state depends on the bank alone. -/
theorem State.timer_congr {s t : State} (h : t.itb = s.itb) (a : TimerId) : t.timer a = s.timer a := by
  unfold State.timer
  rw [h]

/-! ### The valve -/

/-- The command takes a value; role, frost state and reports stand (R146, R149). -/
theorem Vdr.setCommand_eq (p : Params) (c : Nat) (v : Vdr) :
    (v.setCommand p c).command = c ∧ (v.setCommand p c).role = v.role
      ∧ (v.setCommand p c).drained = v.drained ∧ (v.setCommand p c).frost = v.frost
      ∧ (v.setCommand p c).fansAtRest = v.fansAtRest
      ∧ (v.setCommand p c).allotmentReceived = v.allotmentReceived
      ∧ (v.setCommand p c).stuck = v.stuck ∧ (v.setCommand p c).fromVF = v.fromVF := by
  unfold Vdr.setCommand Vdr.startCheck
  split
  · simp_all
  · dsimp only
    repeat' split
    all_goals simp

/-- A report moves the command to its settled value once an allotment has been received (R143). -/
theorem Vdr.act_eq (p : Params) (r : Role) (v : Vdr) :
    (v.act p r).command = (if v.allotmentReceived then v.settled p r else v.command)
      ∧ (v.act p r).role = v.role ∧ (v.act p r).drained = v.drained ∧ (v.act p r).frost = v.frost
      ∧ (v.act p r).fansAtRest = v.fansAtRest ∧ (v.act p r).allotmentReceived = v.allotmentReceived
      ∧ (v.act p r).stuck = v.stuck ∧ (v.act p r).fromVF = v.fromVF := by
  unfold Vdr.act
  split
  · have := Vdr.setCommand_eq p (v.settled p r) v
    simp_all
  · simp

/-- In PROTECT and RECOVER a report settles the command at 1000 ‰ (R114, R142). -/
theorem Vdr.settled_forced (p : Params) (r : Role) {v : Vdr} (h : v.frost.forces = true) :
    v.settled p r = 1000 := by
  unfold Vdr.settled
  cases hf : v.frost <;> simp_all [FrostState.forces]

/-- In PROTECT and RECOVER an allotment leaves the command at 1000 ‰ (R114, R142). -/
theorem Vdr.stepped_forced (p : Params) {v : Vdr} (h : v.frost.forces = true) : v.stepped p = 1000 := by
  unfold Vdr.stepped
  cases hf : v.frost <;> simp_all [FrostState.forces]

/-! ### Frost, role and reports -/

@[simp] theorem State.suspend_cfm (s : State) : s.suspend.cfm = s.cfm.suspend := by
  simp [State.suspend, State.suspendCfm]

@[simp] theorem State.suspend_vdr (s : State) :
    s.suspend.vdr = s.vdr.frostReport s.params .clear := by
  simp [State.suspend, State.frostValve, State.suspendCfm, Cfm.suspend]

@[simp] theorem State.announceFrost_cfm (new : FrostState) (s : State) :
    (s.announceFrost new).cfm = { s.cfm with frost := new } := by
  simp [State.announceFrost, State.putFrost]

@[simp] theorem State.announceFrost_fcc (new : FrostState) (s : State) :
    (s.announceFrost new).fcc = s.fcc.frostReport s.cfm.frost new := by
  simp [State.announceFrost, State.frostFans]

/-- The VDR's record after a frost change is announced: the report, and what the FCC then reports. -/
theorem State.announceFrost_vdr (new : FrostState) (s : State) :
    (s.announceFrost new).vdr
      = { s.vdr.frostReport s.params new with
          fansAtRest := !(s.fcc.frostReport s.cfm.frost new).anyTurning } := by
  simp [State.announceFrost, State.frostFans, State.setFcc, State.reportFans, State.frostValve,
    State.putFrost]

@[simp] theorem State.enterRole_fde (cause : RoleCause) (new : Role) (drained : Bool) (s : State) :
    (s.enterRole cause new drained).fde = s.fde.enter cause new drained := rfl

@[simp] theorem State.fccReport_fcc (s : State) : s.fccReport.fcc = s.fcc.roleReport s.fde.role := by
  simp [State.fccReport]

/-- The VDR's record after the FCC has taken a report of role. -/
theorem State.fccReport_vdr (s : State) :
    s.fccReport.vdr = { s.vdr with fansAtRest := !(s.fcc.roleReport s.fde.role).anyTurning } := by
  simp [State.fccReport, State.setFcc, State.reportFans]

@[simp] theorem State.putGuardPending_cfm (on : Bool) (s : State) :
    (s.putGuardPending on).cfm = { s.cfm with guardPending := on } := rfl

@[simp] theorem State.putProtectPending_cfm (on : Bool) (s : State) :
    (s.putProtectPending on).cfm = { s.cfm with protectPending := on } := rfl

@[simp] theorem State.resume_cfm (s : State) : s.resume.cfm = { s.cfm with suspended := false } := rfl

@[simp] theorem State.judgeScan_ssc (s : State) : s.judgeScan.ssc = s.ssc.complete s.params.channels := rfl

/-! ### Alerts -/

/-- The live conditions take the reported values (R167). -/
theorem State.reportLive_live (live : AlertMask) (s : State) : (s.reportLive live).aou.live = live := by
  unfold State.reportLive
  dsimp only
  split
  · simp_all
  · unfold Aou.setLive Aou.reeval
    repeat' split
    all_goals rfl

/-- A count of the cadence leaves the conditions and flags alone (R171). -/
@[simp] theorem State.countCadenceIf_live (b : Bool) (s : State) :
    (s.countCadenceIf b).aou.live = s.aou.live ∧ (s.countCadenceIf b).aou.latched = s.aou.latched := by
  unfold State.countCadenceIf State.countCadence Aou.cycleEnd
  repeat' split
  all_goals simp

/-- The conditions and flags after an event that comes with a cycle end are those `act` leaves (R171). -/
@[simp] theorem State.withCycleEnd_live (act : State → State) (s : State) :
    (s.withCycleEnd act).aou.live = (act s).aou.live
      ∧ (s.withCycleEnd act).aou.latched = (act s).aou.latched := by
  simp [State.withCycleEnd]

end Sys2Proof.Machine
end

