-- ==== Sys2Proof/WellFormed.lean ====
section
/-! DEFINITION. WellFormed.lean: what a sender must keep to for a command to be an event the part can
meet. Operand types already bound channels, codes and straps. -/

namespace Sys2Proof

/-- The image holds at most 240 bytes (R174, R176). -/
def imageBytesOk (bytes : List Byte) : Bool := bytes.length ≤ 240

/-- A frame has at least the character whose start bit began it (R2). -/
def frameCharsOk (chars : List RxChar) : Bool := !chars.isEmpty

/-- A transmission has 21 characters to come back (R20). -/
def readbackOk (r : Readback) : Bool := r.returned.length ≤ 21

/-- Ten fan intervals are one second, in which TACHn cannot rise more often than once a µs (R129). -/
def edgeCountsOk (edges : Vector Nat 6) : Bool := edges.toList.all (· ≤ 1000000)

/-- Whether a command's operands are ones the part can meet. -/
def Instr.wellFormed : Instr → Bool
  | .sclHoldTimeout bytes => imageBytesOk bytes
  | .configurationLoadCompletion _ bytes => imageBytesOk bytes
  | .frameCompletion _ chars => frameCharsOk chars
  | .tachMeasurementCompletion edges => edgeCountsOk edges
  | .transmitReadbackMismatch readback | .cleanTransmission readback => readbackOk readback
  | .resetRelease _ _ | .frameStartDetected _ | .ownSlotStart _ | .transmitInstant _ _
  | .listenWindowEndInSilence _
  | .cycleEnd _ _ | .travelTimeReached | .ageingMark _ | .allotmentIssued _
  | .channelConversion _ _ | .scanCompletion _ | .tRotExpiry | .tWarmExpiry | .tShedExpiry
  | .tExerExpiry | .tIceExpiry | .tGuardExpiry | .tProtExpiry | .tRecovExpiry | .tStagExpiry
  | .tOrdExpiry | .fanInterval | .spinUpWindowEnd | .kickPhaseEnd | .checkWindowEnd
  | .exerciseRunEnd _ | .readRequest _ | .clearRequest | .serviceCharacterDropped _ _
  | .serviceRequestTimeout | .serviceQuietEnd | .serviceResponseEnd | .resetAsserted
  | .strayCharacter _ | .serviceRequestCharacter _ => true

end Sys2Proof
end

