-- ==== Sys2Proof/Laws/PerInstr.lean ====
section
/-! SUPPORT. Laws/PerInstr.lean: the one family of statements made of every command: its well-formedness
is the limits of its operands, and nothing else. -/

namespace Sys2Proof.Laws.OperandLimits

/-- A command is well formed exactly when its image has at most 240 bytes, its frame has a character, its
readback at most 21 and its edge counts are at most one a µs. -/
def Statement (i : Instr) : Prop :=
  i.wellFormed = true ↔
    (∀ bytes, i = .sclHoldTimeout bytes → bytes.length ≤ 240)
      ∧ (∀ ok bytes, i = .configurationLoadCompletion ok bytes → bytes.length ≤ 240)
      ∧ (∀ elapsed chars, i = .frameCompletion elapsed chars → chars ≠ [])
      ∧ (∀ r, i = .transmitReadbackMismatch r ∨ i = .cleanTransmission r → r.returned.length ≤ 21)
      ∧ ∀ edges, i = .tachMeasurementCompletion edges → ∀ n ∈ edges.toList, n ≤ 1000000

theorem resetRelease (address : BitVec 5) (loop : Bool) : Statement (.resetRelease address loop) := by
  simp [Statement, Instr.wellFormed]
theorem sclHoldTimeout (bytes : List Byte) : Statement (.sclHoldTimeout bytes) := by
  simp [Statement, Instr.wellFormed, imageBytesOk]
theorem configurationLoadCompletion (acknowledged : Bool) (bytes : List Byte) : Statement (.configurationLoadCompletion acknowledged bytes) := by
  simp [Statement, Instr.wellFormed, imageBytesOk]
theorem frameStartDetected (elapsed : Nat) : Statement (.frameStartDetected elapsed) := by
  simp [Statement, Instr.wellFormed]
theorem frameCompletion (elapsed : Nat) (chars : List RxChar) : Statement (.frameCompletion elapsed chars) := by
  simp [Statement, Instr.wellFormed, frameCharsOk]
theorem ownSlotStart (elapsed : Nat) : Statement (.ownSlotStart elapsed) := by
  simp [Statement, Instr.wellFormed]
theorem transmitInstant (elapsed : Nat) (lineBusy : Bool) : Statement (.transmitInstant elapsed lineBusy) := by
  simp [Statement, Instr.wellFormed]
theorem transmitReadbackMismatch (readback : Readback) : Statement (.transmitReadbackMismatch readback) := by
  simp [Statement, Instr.wellFormed, readbackOk]
theorem cleanTransmission (readback : Readback) : Statement (.cleanTransmission readback) := by
  simp [Statement, Instr.wellFormed, readbackOk]
theorem listenWindowEndInSilence (elapsed : Nat) : Statement (.listenWindowEndInSilence elapsed) := by
  simp [Statement, Instr.wellFormed]
theorem cycleEnd (elapsed : Nat) (cadenceFirst : Bool) : Statement (.cycleEnd elapsed cadenceFirst) := by
  simp [Statement, Instr.wellFormed]
theorem travelTimeReached : Statement .travelTimeReached := by
  simp [Statement, Instr.wellFormed]
theorem ageingMark (elapsed : Nat) : Statement (.ageingMark elapsed) := by
  simp [Statement, Instr.wellFormed]
theorem allotmentIssued (valveFirst : Bool) : Statement (.allotmentIssued valveFirst) := by
  simp [Statement, Instr.wellFormed]
theorem channelConversion (channel : Fin 8) (code : BitVec 12) : Statement (.channelConversion channel code) := by
  simp [Statement, Instr.wellFormed]
theorem scanCompletion (valveFirst : Bool) : Statement (.scanCompletion valveFirst) := by
  simp [Statement, Instr.wellFormed]
theorem tRotExpiry : Statement (.tRotExpiry) := by
  simp [Statement, Instr.wellFormed]
theorem tWarmExpiry : Statement (.tWarmExpiry) := by
  simp [Statement, Instr.wellFormed]
theorem tShedExpiry : Statement (.tShedExpiry) := by
  simp [Statement, Instr.wellFormed]
theorem tExerExpiry : Statement (.tExerExpiry) := by
  simp [Statement, Instr.wellFormed]
theorem tIceExpiry : Statement (.tIceExpiry) := by
  simp [Statement, Instr.wellFormed]
theorem tGuardExpiry : Statement (.tGuardExpiry) := by
  simp [Statement, Instr.wellFormed]
theorem tProtExpiry : Statement (.tProtExpiry) := by
  simp [Statement, Instr.wellFormed]
theorem tRecovExpiry : Statement (.tRecovExpiry) := by
  simp [Statement, Instr.wellFormed]
theorem tStagExpiry : Statement .tStagExpiry := by
  simp [Statement, Instr.wellFormed]
theorem tOrdExpiry : Statement .tOrdExpiry := by
  simp [Statement, Instr.wellFormed]
theorem fanInterval : Statement (.fanInterval) := by
  simp [Statement, Instr.wellFormed]
theorem spinUpWindowEnd : Statement (.spinUpWindowEnd) := by
  simp [Statement, Instr.wellFormed]
theorem kickPhaseEnd : Statement (.kickPhaseEnd) := by
  simp [Statement, Instr.wellFormed]
theorem checkWindowEnd : Statement (.checkWindowEnd) := by
  simp [Statement, Instr.wellFormed]
theorem exerciseRunEnd (channel : Fin 6) : Statement (.exerciseRunEnd channel) := by
  simp [Statement, Instr.wellFormed]
theorem tachMeasurementCompletion (edges : Vector Nat 6) : Statement (.tachMeasurementCompletion edges) := by
  refine ⟨fun h => ⟨by simp, by simp, by simp, by simp, fun e he => ?_⟩, fun h => ?_⟩
  · cases he
    exact fun n hn => of_decide_eq_true (List.all_eq_true.1 h n hn)
  · exact List.all_eq_true.2 fun n hn => decide_eq_true (h.2.2.2.2 edges rfl n hn)
theorem readRequest (elapsed : Nat) : Statement (.readRequest elapsed) := by
  simp [Statement, Instr.wellFormed]
theorem clearRequest : Statement (.clearRequest) := by
  simp [Statement, Instr.wellFormed]
theorem serviceCharacterDropped (char : Byte) (framingError : Bool) : Statement (.serviceCharacterDropped char framingError) := by
  simp [Statement, Instr.wellFormed]
theorem serviceRequestTimeout : Statement (.serviceRequestTimeout) := by
  simp [Statement, Instr.wellFormed]
theorem serviceQuietEnd : Statement (.serviceQuietEnd) := by
  simp [Statement, Instr.wellFormed]
theorem serviceResponseEnd : Statement (.serviceResponseEnd) := by
  simp [Statement, Instr.wellFormed]
theorem resetAsserted : Statement (.resetAsserted) := by
  simp [Statement, Instr.wellFormed]
theorem strayCharacter (elapsed : Nat) : Statement (.strayCharacter elapsed) := by
  simp [Statement, Instr.wellFormed]
theorem serviceRequestCharacter (char : Byte) : Statement (.serviceRequestCharacter char) := by
  simp [Statement, Instr.wellFormed]

end Sys2Proof.Laws.OperandLimits
end

