-- ==== Sys2Proof/Tests/Slice0.lean ====
section
/-! SUPPORT. Tests/Slice0.lean: one-step tests whose expected results are the spec's own examples and
tables, the well-formedness smoke test, and a witness for the hypotheses of every obligation that has any. -/

namespace Sys2Proof.Tests

open Sys2Proof Sys2Proof.Machine

-- One proof at a time: a thread for each test below would pass the memory limit of a check.
set_option Elab.async false

/-! ### Helpers -/

/-- The state after a command. -/
def after (c : Instr) (s : State) : State := match exec c s with | .next t => t | .fault _ | .refused _ => s

/-- Station 7 of loop 0, loaded with the defaults, ACTIVE, early in slot 2, its fans at rest. -/
def run : State :=
  { State.reset with
    released := true
    loaded := true
    straps := ⟨7, false⟩
    cfl := ⟨.done, 0, 0, [], true, some .noAck⟩
    lsc := { Lsc.reset with bus := .active, position := some 90000, anchor := 7, idle := 20000 } }

/-- The same with a role. -/
def withRole (r : Role) : State := { run with fde := { run.fde with role := r } }

/-- The same with a frost state. -/
def withFrost (f : FrostState) : State := { run with cfm := { run.cfm with frost := f } }

/-- A timer that is due. -/
def due (id : TimerId) (s : State) : State := s.setTimer id ⟨true, 1, 0, 0, 0⟩

/-- A bulletin of station 3, CARRYING, as the stage 1 to 5 example of chapter 4 gives it. -/
def bulletin3 : Bulletin :=
  { slot := 3, source := 3, loop := false, dValid := true, outletValid := true, role := .carrying
    rotateDue := false, coldJoin := false, floorLimited := false, noBasis := false, drained := false
    outlet := 245, q := 120, h := 256, share := 256, d := 420, restAge := 0, frost := .clear
    nFit := 6, nAvail := 6, fanSpeed := 250, alerts := 0 }

/-- A bulletin of station 12, RESTING, of the same example. -/
def bulletin12 : Bulletin :=
  { bulletin3 with
    slot := 12, source := 12, role := .resting, outlet := -80, q := 20, share := 0, d := 424
    restAge := 5400, fanSpeed := 0 }

/-- Characters without a framing error. -/
def received (cs : List Byte) : List RxChar := cs.map fun c => ⟨c, false⟩

/-- The characters of `bulletin3`. -/
def chars3 : List RxChar := received (bulletinChars bulletin3)

/-- The characters of a bulletin of the own address. -/
def chars7 : List RxChar := received (bulletinChars { bulletin3 with slot := 7, source := 7 })

/-- An order frame: loop 0 valid at 26.0 °C with floor 25.0 °C, and the five masks as given (R160). -/
def orderChars (withdraw drained clear fanReset exercise : StationMask) : List Byte :=
  let m := fun w : StationMask => [w.extractLsb' 16 8, w.extractLsb' 8 8, w.extractLsb' 0 8]
  withCrc ([0xB4, 0x32, 0x00, 0x81, 0x04, 0x00, 0xFA, 0x00, 0x00, 0x00, 0x00]
    ++ m withdraw ++ m drained ++ m clear ++ m fanReset ++ m exercise)

/-- The state with a frame in progress that began at a slot position. -/
def receiving (start : Option Nat) (s : State) : State :=
  { s with lsc := { s.lsc with rx := some ⟨start, 4600⟩ } }

/-- A scan set: TI 31.0 °C, TO as given, TA 10.0 °C, the surfaces 5.0 °C, DP 20.0 kPa, VF as given. -/
def scanSet (outlet vf : Published) : ScanSet :=
  ⟨#v[⟨310, true, .inside⟩, outlet, ⟨100, true, .inside⟩, ⟨50, true, .inside⟩, ⟨50, true, .inside⟩,
    ⟨200, true, .inside⟩, vf, ⟨2048, true, .inside⟩], false⟩

/-- TO at 25.1 °C and VF at 1000 ‰, both OK. -/
def fineSet : ScanSet := scanSet ⟨251, true, .inside⟩ ⟨1000, true, .inside⟩

/-- The latched inputs of the worked example of chapter 4. -/
def latched7 : Latched :=
  { scan := some fineSet, tSet := 250, tFloor := 180, q := 120, valveAtMin := false, nAvail := 5
    runningCount := 3, anyTurning := true, bus := .active, role := .carrying }

/-- The record before the worked example. -/
def record7 : Allotment :=
  { role := .carrying, rotateDue := false, coldJoin := false, drained := false, floorLimited := false
    noBasis := false, share := 128, h := 213, d := 416, dValid := true, tMix := some 223, m := 3
    v := 1000, restAge := 0, q := 120, nAvail := 5 }

/-- Station 7 in the computation of the worked example of chapter 4: peers 3 and 12 FRESH. -/
def computing : State :=
  { run with
    btb := (run.btb.modifyRow 3 fun r => { r with snapCopy := some bulletin3, snapState := .fresh }).modifyRow 12
      fun r => { r with snapCopy := some bulletin12, snapState := .fresh }
    fde := { run.fde with
      d := 416, dValid := true, floorCeiling := 213, allotment := some record7, latched := some latched7
      role := .carrying } }

/-- The same in another role, with the latched inputs changed by a function. -/
def computingAs (r : Role) (g : Latched → Latched) : State :=
  { computing with fde := { computing.fde with role := r, latched := some (g latched7) } }

/-- A fan channel's record put into a state. -/
def withFan (i : Fin 6) (g : FanChannel → FanChannel) (s : State) : State := { s with fcc := s.fcc.modify i g }

/-- Channel 0 in STARTING with the permit, its phase at a count. -/
def starting (count : Nat) : State :=
  let s := withFan 0 (fun c =>
    { c with state := .starting, cls := some .duty, command := 300, phaseCount := count }) run
  { s with fcc := { s.fcc with permit := some 0 } }

/-- Channel 0 in KICK with the permit, in a phase, its count and its failed kicks as given. -/
def kicking (phase : KickPhase) (count retries : Nat) : State :=
  let s := withFan 0 (fun c =>
    { c with state := .kick, cls := some .duty, phase := some phase, phaseCount := count, retries := retries }) run
  { s with fcc := { s.fcc with permit := some 0 } }

/-- A duty channel 0 in RUNNING at 781 ‰ with a stall run. -/
def running (stallRun : Nat) : State :=
  let s := withFan 0 (fun c =>
    { c with state := .running, cls := some .duty, command := 781, stallRun := stallRun }) run
  { s with fcc := { s.fcc with runOrder := [0] } }

/-- A tach measurement due. -/
def tachDue (s : State) : State := { s with fcc := { s.fcc with tachDue := true } }

/-- The service port with a request in hand. -/
def asked (cs : List Byte) : State := { run with svp := { run.svp with port := .receiving, request := cs } }

/-- The service port in a state. -/
def porting (p : PortState) : State := { run with svp := { run.svp with port := p } }

/-- A channel about to be judged at the end of a scan, the reference good. -/
def scanned (i : Fin 7) (c : Channel) : State :=
  { run with
    ssc := { run.ssc with
      channels := (Vector.replicate 7 { Channel.reset with raw := some 2048 }).set i c
      refRaw := some 2048, nextChannel := 8 } }

/-- An accepted image: n_fit 4 and every other byte 0, 48 bytes long. -/
def image48 : List Byte :=
  [0x4E, 1, 48, 3, 4] ++ List.replicate 41 0 ++ [0x00, 0x86]

/-! ### Well-formedness: an ill-formed term for each check -/

theorem test_wellFormed_image_held :
    (Instr.sclHoldTimeout (List.replicate 241 0)).wellFormed = false
      ∧ (Instr.sclHoldTimeout (List.replicate 240 0)).wellFormed = true := by decide +kernel

theorem test_wellFormed_image_loaded :
    (Instr.configurationLoadCompletion true (List.replicate 241 0)).wellFormed = false
      ∧ (Instr.configurationLoadCompletion true (List.replicate 240 0)).wellFormed = true := by
  decide +kernel

theorem test_wellFormed_frame :
    (Instr.frameCompletion 0 []).wellFormed = false
      ∧ (Instr.frameCompletion 0 [⟨0, false⟩]).wellFormed = true := by decide

theorem test_wellFormed_readback :
    (Instr.cleanTransmission ⟨0, List.replicate 22 none⟩).wellFormed = false
      ∧ (Instr.transmitReadbackMismatch ⟨0, List.replicate 21 none⟩).wellFormed = true := by decide

theorem test_wellFormed_edges :
    (Instr.tachMeasurementCompletion #v[0, 0, 0, 0, 0, 1000001]).wellFormed = false
      ∧ (Instr.tachMeasurementCompletion #v[1000000, 0, 0, 0, 0, 0]).wellFormed = true := by decide

/-! ### Frames -/

/-- The check value of R3. -/
theorem test_crc_check_value :
    crc [0x31, 0x32, 0x33, 0x34, 0x35, 0x36, 0x37, 0x38, 0x39] = 0x29B1 := by decide +kernel

/-- The own bulletin of station 7 in 2.7, character by character from the layout of R26. -/
theorem test_bulletin_layout :
    bulletinBody { bulletin3 with
        slot := 7, source := 7, outlet := 251, h := 213, share := 128, d := 384, nAvail := 5, alerts := 4 }
      = [0xB4, 0x31, 7, 7, 0x1E, 0x00, 213, 128, 0x00, 251, 120, 0x01, 0x80, 0x00, 0x00, 250, 0x2E, 0x00, 0x04] := by
  decide +kernel

/-- A bulletin whose source differs from its slot, one with a wrong CRC, one character short (R4). -/
theorem test_malformed_frames :
    judgeFrame (received (bulletinChars { bulletin3 with slot := 4 })) = none
      ∧ judgeFrame (received ((bulletinChars bulletin3).take 20)) = none
      ∧ judgeFrame (received ((bulletinChars bulletin3).take 20 ++ [0])) = none := by decide +kernel

/-- 2.7, a peer lost: HELD at age 3 with hold limit 3 becomes ABSENT, its counters kept (R36). -/
theorem test_row_ages :
    let r : Row := ⟨some bulletin3, some bulletin3, .held, 3, .held, 3, false, 5, 6⟩
    r.age1 3 = ⟨none, none, .absent, 0, .absent, 0, false, 5, 6⟩ := by decide +kernel

/-! ### Start-up -/

theorem test_resetRelease :
    (after (.resetRelease 24 true) State.reset).lsc.bus = .listen
      ∧ (after (.resetRelease 24 true) State.reset).lsc.anchor = 24
      ∧ (after (.resetRelease 25 true) State.reset).lsc.bus = .unaddressed
      ∧ (after (.resetRelease 25 true) State.reset).lsc.anchor = 25
      ∧ ((after (.resetRelease 1 true) State.reset).timer .ice).main = 120 := by decide +kernel

/-- The sum of the bytes 0x4E, 1, 48, 3, 4 is 134, 0x86 (R174); channels 4 and 5 are not fitted (R120). -/
theorem test_imageAccepted :
    let s := after (.configurationLoadCompletion true image48) (after (.resetRelease 7 false) State.reset)
    s.cfl.outcome = some .accepted ∧ s.params.nFit = 4 ∧ s.params.setpoint0 = 250
      ∧ (s.fcc.channel 4).state = .absent ∧ (s.fcc.channel 3).state = .off
      ∧ s.lsc.window = some 1280000 := by decide +kernel

/-- NO_ACK takes the defaults and raises CONFIG_DEFAULT, which qualifies at once (R169, R175). -/
theorem test_imageNotAcknowledged :
    let s := after (.configurationLoadCompletion false []) (after (.resetRelease 7 false) State.reset)
    s.cfl.outcome = some .noAck ∧ hasAlert s.aou.live .configDefault = true ∧ s.alertLow = true
      ∧ s.vdr.check = .timing := by decide +kernel

/-- The read ends with NO_ACK at once; the defaults flag comes with load completion (R174, R175). -/
theorem test_sclHoldTimeout :
    let s := after (.sclHoldTimeout [0x4E, 1]) (after (.resetRelease 7 false) State.reset)
    s.cfl = ⟨.done, 2, 0, [0x4E, 1], false, some .noAck⟩
      ∧ (after (.configurationLoadCompletion true []) s).cfl.defaults = true := by decide +kernel

theorem test_resetAsserted : after .resetAsserted (withRole .carrying) = State.reset := by decide +kernel

/-! ### The bus -/

/-- 1.9: the bulletin of station 3 completes 6.6 ms into slot 3 as station 7 takes it in LISTEN. -/
theorem test_listenWindowEndsByBulletin :
    let s := after (.frameCompletion 0 chars3)
      (receiving none { run with lsc := { run.lsc with bus := .listen, window := some 5, position := none } })
    s.lsc.bus = .joining ∧ s.lsc.position = some 126600 ∧ s.lsc.heard = [3]
      ∧ (s.btb.row 3).live = some bulletin3 := by decide +kernel

theorem test_ownAddressBulletin :
    let s := after (.frameCompletion 0 chars7) (receiving (some 282000) run)
    s.lsc.bus = .duplicate ∧ hasAlert s.aou.live .dupAddress = true ∧ s.de = false := by decide +kernel

/-- R2 asks for 1.0 ms of idle line after DE is released, by an own-address bulletin too (R22). -/
theorem test_idleAfterOwnAddressBulletin :
    let r := receiving (some 282000) run
    let s := after (.frameCompletion 0 chars7) { r with lsc := { r.lsc with sending := some [0xB4] } }
    s.de = false ∧ s.lsc.idle = 0 ∧ (after (.frameStartDetected 600) s).lsc.rx = none
      ∧ (after (.frameStartDetected 1000) s).lsc.rx.isSome = true := by decide +kernel

/-- A frame that ends 100 µs after an own transmission does not bring the idle line on to 400 µs (R2). -/
theorem test_idleAfterFrameEnd :
    let r := receiving (some 282000) run
    (after (.frameCompletion 0 []) { r with lsc := { r.lsc with idle := 100 } }).lsc.idle = 100
      ∧ (after (.frameCompletion 0 []) { r with lsc := { r.lsc with idle := 5000 } }).lsc.idle = 400 := by
  decide +kernel

/-- 1.9: with the third collision and E = 2 the window of station 9 is 36 slots. -/
theorem test_thirdCollision :
    let s := after (.transmitReadbackMismatch ⟨0, [some ⟨0x35, false⟩]⟩) { run with
      straps := ⟨9, false⟩
      ssc := { run.ssc with refRaw := some 2042 }
      lsc := { run.lsc with sending := some [0xB4], collisions := 2 } }
    s.lsc.bus = .listen ∧ s.lsc.window = some (36 * 40000) ∧ s.lsc.extension = 2 ∧ s.de = false := by
  decide +kernel

theorem test_transmitInstant :
    let s := { run with lsc := { run.lsc with composed := some [1], position := some 282000 } }
    (after (.transmitInstant 0 false) s).de = true
      ∧ (after (.transmitInstant 0 true) s).lsc.collisions = 1 := by decide +kernel

/-- TXD carries 0xB4 as space, then 0 0 1 0 1 1 0 1, then mark, and rests at mark (R1). -/
theorem test_transmitLine :
    let s := { run with lsc := { run.lsc with sending := some [0xB4] } }
    (List.range 12).map s.txd
        = [false, false, false, true, false, true, true, false, true, true, true, true]
      ∧ run.txd 0 = true := by decide +kernel

theorem test_ownSlotStart :
    let s := after (.ownSlotStart 40000) { run with lsc := { run.lsc with position := some 240000 } }
    s.lsc.composed.map List.length = some 21 ∧ s.lsc.ownSlotRaised = true := by decide +kernel

theorem test_cleanTransmission :
    let s := after (.cleanTransmission ⟨0, chars7.map some⟩)
      { run with lsc := { run.lsc with sending := some (bulletinChars { bulletin3 with slot := 7, source := 7 }) } }
    (s.btb.row 7).state = .fresh ∧ (s.btb.row 7).heard = true ∧ s.de = false := by decide +kernel

/-- R20: the same characters back are no mismatch; a framing error and a missing one are, and neither is
clean. -/
theorem test_readback :
    let s := { run with lsc := { run.lsc with sending := some [0xB4, 0x31] } }
    (after (.transmitReadbackMismatch ⟨0, [some ⟨0xB4, false⟩]⟩) s).de = true
      ∧ (after (.transmitReadbackMismatch ⟨0, [some ⟨0xB4, true⟩]⟩) s).lsc.collisions = 1
      ∧ (after (.transmitReadbackMismatch ⟨0, [some ⟨0xB4, false⟩, none]⟩) s).lsc.collisions = 1
      ∧ (after (.cleanTransmission ⟨0, [some ⟨0xB4, false⟩, none]⟩) s).de = true := by decide +kernel

/-- 1.9: the windows of stations 3, 7 and 12 are 1120, 1280 and 1480 ms; station 3 enters ACTIVE. -/
theorem test_listenWindow :
    windowUs 3 0 = 1120000 ∧ windowUs 7 0 = 1280000 ∧ windowUs 12 0 = 1480000
      ∧ (after (.listenWindowEndInSilence 5) { run with
          lsc := { run.lsc with bus := .listen, window := some 5 } }).lsc.position = some 280000 := by
  decide +kernel

theorem test_frameStartAndStray :
    (after (.frameStartDetected 0) run).lsc.rx = some ⟨some 90000, 0⟩
      ∧ (after (.strayCharacter 0) { run with lsc := { run.lsc with idle := 1199 } }).lsc.idle = 0
      ∧ (after (.strayCharacter 0) { run with lsc := { run.lsc with idle := 1200 } }).lsc.idle = 1200
      ∧ (after (.frameStartDetected 0) { run with lsc := { run.lsc with idle := 999 } }).lsc.rx = none := by
  decide +kernel

/-- 1.9: in JOINING the second cycle end enters ACTIVE; alone, the isolation count rises. -/
theorem test_cycleEnd :
    (after (.cycleEnd 0 false) { run with
        lsc := { run.lsc with bus := .joining, joinCycleEnds := 1, endPassed := true } }).lsc.bus = .active
      ∧ (after (.cycleEnd 0 false) { run with
        lsc := { run.lsc with endPassed := true, isolation := 9 } }).lsc.isolation = 10 := by decide +kernel

/-- A passing 450 ms after the last cycle end is skipped: 60 ms later no CYCLE_END is there to take (R9). -/
theorem test_cycleEnd_spacing :
    let s := { run with lsc := { run.lsc with position := some 999999, sinceCycleEnd := some 449999 } }
    (after (.cycleEnd 60001 false) s).fde.latched = none
      ∧ (after (.cycleEnd 60001 false) { s with lsc := { s.lsc with sinceCycleEnd := some 499999 } }).fde.latched.isSome
        = true := by decide +kernel

/-- An anchor bulletin that completes at a cycle end is stored first, and that cycle end follows (R39). -/
theorem test_cycleEnd_afterArrival :
    let s := after (.frameCompletion 0 chars3) (receiving (some 122000) { run with
      lsc := { run.lsc with endPassed := true } })
    let t := after (.cycleEnd 0 false) s
    (t.btb.row 3).snapCopy = some bulletin3 ∧ t.lsc.anchor = 3 ∧ t.fde.latched.isSome = true := by
  decide +kernel

theorem test_ageingMark :
    let s := after (.ageingMark 0) { run with
      lsc := { run.lsc with bus := .unaddressed, endPassed := true }
      btb := run.btb.modifyRow 3 (Row.arrive bulletin3) }
    (s.btb.row 3).heard = false ∧ (s.btb.row 3).snapCopy = none ∧ s.fde.latched = none := by decide +kernel

/-- 10.7, order 1: channel 4 OFF and queued for exercise, setpoint 26.0 °C, floor lowered to 24.0 °C. -/
theorem test_orderTaken :
    let s := after (.frameCompletion 0 (received (orderChars 0 0 0 0x4000 0x4000)))
      (receiving (some 2000) (withFan 4 (fun c => { c with state := .iced })
        { withRole .resting with straps := ⟨15, false⟩ }))
    s.ord.setpoint0 = 260 ∧ s.ord.floor0 = 240 ∧ (s.fcc.channel 4).state = .queued
      ∧ (s.fcc.channel 4).cls = some .exercise := by decide +kernel

/-- 10.7, order 5: withdrawn and drained, the valve closes and the monitor is suspended. -/
theorem test_orderDrains :
    let s := after (.frameCompletion 0 (received (orderChars 0x4000 0x4000 0 0 0)))
      (receiving (some 2000) { withRole .withdrawn with
        straps := ⟨15, false⟩, vdr := { run.vdr with allotmentReceived := true, role := .withdrawn } })
    s.fde.drained = true ∧ s.vdr.command = 0 ∧ s.cfm.suspended = true := by decide +kernel

/-! ### Sensors, frost, valve -/

/-- 3.2: the four conversions. -/
theorem test_conversions :
    engineering ⟨-600, 1500, 0, 0, 0, 0⟩ (-600, 900) 1500 = -51
      ∧ engineering ⟨-25, 2050, 0, 0, 0, 0⟩ (0, 2000) 3000 = 1476
      ∧ engineering ⟨1000, -1000, 0, 0, 0, 0⟩ (0, 1000) 1000 = 756
      ∧ engineering ⟨-620, 1540, 0, 0, 0, 0⟩ (-600, 900) 4079 = 900 := by decide

/-- 3.4: the filter's steps on TO, and the comparator's edges. -/
theorem test_filterExample :
    filterStep 1 (-51) (-40) = -6 ∧ filterStep 1 (-51) (-46) = -3 ∧ filterStep 1 (-38) (-41) = 2
      ∧ compare (-50) 900 10 .inside (-50) = .inside ∧ compare (-50) 900 10 .inside (-51) = .below
      ∧ compare (-50) 900 10 .below (-41) = .below ∧ compare (-50) 900 10 .below (-39) = .inside := by
  decide

theorem test_channelConversion :
    (after (.channelConversion 7 1903) { run with ssc := { run.ssc with nextChannel := 7 } }).ssc.refRaw
        = some 1903
      ∧ (after (.channelConversion 6 1903) { run with ssc := { run.ssc with nextChannel := 7 } }).ssc.nextChannel
        = 7 := by decide +kernel

/-- 3.7, scan 111: TSL returns with its eighth good reading, seeded at −15.5 °C, BELOW, and the coil trips. -/
theorem test_scanCompletion_returns :
    let s := after (.scanCompletion false)
      (scanned 3 ⟨some 1215, some (-155), some (-120), true, 0, 7, .inside⟩)
    s.ssc.channels[3] = ⟨some 1215, some (-155), some (-155), false, 0, 0, .below⟩
      ∧ s.cfm.frost = .protect ∧ s.cfm.lastTrip = some [.lowerSurface] := by decide +kernel

/-- 3.7, scan 203: the third bad reference code sets the flag, and TO is published FAILED at its y. -/
theorem test_scanCompletion_fault :
    let t := scanned 1 ⟨some 2324, some 251, some 251, false, 0, 0, .inside⟩
    let s := after (.scanCompletion true) { t with ssc := { t.ssc with refRaw := some 1901, badRun := 2 } }
    s.ssc.fault = true ∧ s.ssc.scanSet.map ScanSet.to = some ⟨251, false, .inside⟩
      ∧ hasAlert s.aou.live .converterFault = true ∧ hasAlert s.aou.live .sensorFail = false := by
  decide +kernel

/-- 8.3 and 8.5: converter codes, and flow weights with Kq = 200. -/
theorem test_valveTables :
    dacCode 0 = 0 ∧ dacCode 80 = 82 ∧ dacCode 250 = 256 ∧ dacCode 1000 = 1023
      ∧ flowWeight Params.default 81 = 16 ∧ flowWeight Params.default 12 = 2 := by decide

/-- A shed ramp at 500 ‰ stays there at a frost report while a retried fan turns (R143). -/
theorem test_shedStaysAtAReport :
    Vdr.settled Params.default .shedding
        { run.vdr with command := 500, role := .shedding, fansAtRest := false, frost := .guard } = 500
      ∧ Vdr.settled Params.default .shedding
        { run.vdr with command := 100, role := .shedding, fansAtRest := false, frost := .guard } = 250 := by
  decide +kernel

/-- 8.6: at the travel time the valve is stuck. -/
theorem test_travelTime :
    hasAlert (after .travelTimeReached { run with
      vdr := { run.vdr with check := .timing, travelCount := 90 } }).aou.live .valveStuck = true := by
  decide +kernel

/-! ### The allotment -/

/-- The worked case of chapter 4: D 384, T_mix 223, share 128, ceiling 213, three fans at 1000 ‰. -/
theorem test_allotment_worked :
    (after (.allotmentIssued false) computing).fde.allotment.map
        (fun a => (a.d, a.tMix, a.share, a.h, a.m, a.v)) = some (384, some 223, 128, 213, 3, 1000)
      ∧ (after (.allotmentIssued false) computing).fde.role = .carrying := by decide +kernel

/-- 5.5, allotment 0 of the rotation: the longest-rested cell is called, with m = 0, and starts to warm. -/
theorem test_allotment_calls :
    let r := computingAs .resting fun l => { l with role := .resting }
    let s := after (.allotmentIssued true) { r with fde := { r.fde with restAge := 5401 } }
    s.fde.role = .warming ∧ (s.timer .warm).running = true ∧ s.fde.allotment.map Allotment.m = some 0 := by
  decide +kernel

/-- 4.10: the staging table's m and v. -/
theorem test_stagingTable :
    staging { Params.default with nFit := 6 } .carrying false 100 6 0 0 0 = (3, 781)
      ∧ staging { Params.default with nFit := 6 } .carrying false 20 6 0 0 0 = (1, 469)
      ∧ staging { Params.default with nFit := 4 } .carrying false 5 4 0 0 0 = (1, 200) := by decide

/-- 4.14: −166 over 4, the exact half −41.5, goes up to −41. -/
theorem test_mixHalf : mixEstimate 4 (-166) none = some (-41) := by decide

/-! ### Timers -/

theorem test_tRot : (after .tRotExpiry (due .rot (withRole .carrying))).fde.rotateDue = true := by decide +kernel

theorem test_tWarm :
    let s := after .tWarmExpiry (due .warm (withRole .warming))
    s.fde.role = .carrying ∧ s.fde.coldJoin = true := by decide +kernel

theorem test_tShed :
    (after .tShedExpiry (due .shed (withRole .carrying))).fde.role = .shedding
      ∧ (after .tShedExpiry (due .shed (withRole .warming))).fde.role = .resting := by decide +kernel

theorem test_tExer :
    ((after .tExerExpiry (due .exer (withRole .resting))).fcc.channel 5).state = .queued
      ∧ ((after .tExerExpiry (due .exer { withRole .resting with
          cfm := { run.cfm with frost := .guard } })).fcc.channel 5).deferrals = 1 := by decide +kernel

theorem test_tIce :
    let s := withFan 2 (fun c => { c with state := .iced, retries := 3 })
      { withRole .resting with ssc := { run.ssc with scanSet := some fineSet } }
    ((after .tIceExpiry (due .ice s)).fcc.channel 2).state = .queued
      ∧ ((after .tIceExpiry (due .ice { s with ssc := run.ssc })).fcc.channel 2).state = .iced := by
  decide +kernel

theorem test_tGuard :
    (after .tGuardExpiry (due .guard { withFrost .guard with
        ssc := { run.ssc with scanSet := some fineSet } })).cfm.frost = .clear
      ∧ (after .tGuardExpiry (due .guard (withFrost .guard))).cfm.guardPending = true := by decide +kernel

/-- 6.8, cycle end 2940. -/
theorem test_tProt :
    let s := after .tProtExpiry (due .prot { withFrost .protect with
      ssc := { run.ssc with scanSet := some fineSet } })
    s.cfm.frost = .recover ∧ (s.timer .recov).main = 120 := by decide +kernel

/-- 6.8, cycle end 3540. -/
theorem test_tRecov :
    let s := after .tRecovExpiry (due .recov { withFrost .recover with
      fde := { run.fde with role := .protect } })
    s.cfm.frost = .clear ∧ s.fde.role = .resting := by decide +kernel

/-- 6.8, cycle end 680: the trip on stagnation, which forces the fans off. -/
theorem test_tStag :
    let s := after .tStagExpiry (due .stag (running 0))
    s.cfm.frost = .protect ∧ s.cfm.lastTrip = some [.stagnation] ∧ (s.fcc.channel 0).state = .off
      ∧ s.fde.role = .protect := by decide +kernel

theorem test_tOrd :
    hasAlert (after .tOrdExpiry (due .ord { run with
        ord := { run.ord with taken := true } })).aou.live .panelSilent = true
      ∧ hasAlert (after .tOrdExpiry (due .ord run)).aou.live .panelSilent = false := by decide +kernel

/-- PANEL_SILENT begins to qualify at a cycle end: counted there, or not (R171). -/
theorem test_tOrd_cadence :
    let s := due .ord { run with ord := { run.ord with taken := true } }
    let s' := { s with cadenceFirst := true }
    (after .tOrdExpiry s).aou.count = 1 ∧ (after .tOrdExpiry s').aou.count = 0
      ∧ (after .tOrdExpiry s').aou.line = true := by decide +kernel

/-- 9.4: T_GUARD's counts at cycle ends 4001 and 4002, and T_ROT's first minute. -/
theorem test_timerCounts :
    let g := Timer.count false ⟨2, 150⟩ ⟨true, 2, 150, 0, 0⟩
    g = ⟨true, 1, 150, 0, 0⟩ ∧ Timer.count false ⟨2, 150⟩ g = ⟨true, 2, 149, 0, 0⟩
      ∧ Timer.count true ⟨6, 240⟩ ⟨true, 6, 240, 59, 0⟩ = ⟨true, 5, 240, 0, 0⟩ := by decide

/-! ### Fans -/

/-- 7.9: the grant to channel 0, then, bit (0, 1) at 1, channel 1 before channel 0. -/
theorem test_fanInterval :
    let q := withFan 1 (FanChannel.toQueue .duty) (withFan 0 (FanChannel.toQueue .duty) run)
    (after .fanInterval q).fcc.permit = some 0 ∧ (after .fanInterval q).fcc.bits[0] = true
      ∧ (after .fanInterval (after .fanInterval { q with
          fcc := { q.fcc with bits := #v[true, false, false] } })).fcc.permit = some 1 := by decide +kernel

theorem test_spinUpWindowEnd :
    ((after .spinUpWindowEnd (starting 50)).fcc.channel 0).state = .kick
      ∧ ((after .spinUpWindowEnd (starting 49)).fcc.channel 0).state = .starting := by decide +kernel

theorem test_kickPhaseEnd :
    ((after .kickPhaseEnd (kicking .kick 20 0)).fcc.channel 0).phase = some .check
      ∧ ((after .kickPhaseEnd (kicking .kick 20 0)).fcc.channel 0).command = 300 := by decide +kernel

/-- 7.9: the third failed check window ices the channel. -/
theorem test_checkWindowEnd :
    ((after .checkWindowEnd (kicking .check 30 1)).fcc.channel 0).phase = some .kick
      ∧ ((after .checkWindowEnd (kicking .check 30 2)).fcc.channel 0).state = .iced
      ∧ (after .checkWindowEnd (kicking .check 30 2)).fcc.nAvail = 5
      ∧ hasAlert (after .checkWindowEnd (kicking .check 30 2)).aou.live .fanIce = true := by decide +kernel

theorem test_exerciseRunEnd :
    ((after (.exerciseRunEnd 4) (withFan 4 (fun c =>
      { c with state := .running, cls := some .exercise, phaseCount := 300 }) run)).fcc.channel 4).state
      = .off := by decide +kernel

/-- 7.9: 12 edges of 2 per revolution are 360 rpm, at which a fan turns; 4 edges, 120 rpm, are not. -/
theorem test_tach_turns :
    ((after (.tachMeasurementCompletion #v[12, 0, 0, 0, 0, 0]) (tachDue (starting 23))).fcc.channel 0).state
        = .running
      ∧ (after (.tachMeasurementCompletion #v[12, 0, 0, 0, 0, 0]) (tachDue (starting 23))).fcc.runOrder = [0]
      ∧ ((after (.tachMeasurementCompletion #v[4, 0, 0, 0, 0, 0]) (tachDue (starting 23))).fcc.channel 0).state
        = .starting := by decide +kernel

/-- A count too large for the stored speed still turns the fan (R129; log entry 12). -/
theorem test_tach_largeCount :
    ((after (.tachMeasurementCompletion #v[1000000, 0, 0, 0, 0, 0]) (tachDue (starting 23))).fcc.channel 0).state
      = .running := by decide +kernel

/-- 7.4: at 781 ‰ a fan stalls when three measurements read 468 rpm or less. -/
theorem test_tach_stalls :
    ((after (.tachMeasurementCompletion #v[15, 0, 0, 0, 0, 0]) (tachDue (running 2))).fcc.channel 0).state
        = .queued
      ∧ ((after (.tachMeasurementCompletion #v[16, 0, 0, 0, 0, 0]) (tachDue (running 2))).fcc.channel 0).stallRun
        = 0 := by decide +kernel

/-! ### The service port -/

theorem test_serviceCharacters :
    (after (.serviceRequestCharacter 0x52) run).svp.port = .receiving
      ∧ (after (.serviceRequestCharacter 0x51) run).svp.port = .quiet
      ∧ (after (.serviceCharacterDropped 0x52 true) run).svp.port = .quiet := by decide +kernel

theorem test_servicePortEnds :
    (after .serviceRequestTimeout (asked [0x52])).svp.port = .idle
      ∧ (after .serviceQuietEnd (porting .quiet)).svp.port = .idle
      ∧ (after .serviceResponseEnd (porting .sending)).svp.port = .quiet := by decide +kernel

/-- 12.3: records 10 … 73 of view 3 are clipped to fourteen; view 11 is refused. -/
theorem test_readRequest :
    (after (.readRequest 0) (asked [0x52, 3, 10, 70])).svp.copy.take 2 = [3, 14]
      ∧ (after (.readRequest 0) (asked [0x52, 11, 0, 1])).svp.answer = [0x15] := by decide +kernel

/-- STX carries the response, its first character 3 with the least significant bit first, and rests at mark
once a reset has abandoned it (R177). -/
theorem test_stxLine :
    let s := after (.readRequest 0) (asked [0x52, 3, 10, 70])
    (List.range 11).map s.stx = [false, true, true, false, false, false, false, false, false, true, false]
      ∧ (after .resetAsserted s).stx 0 = true := by decide +kernel

/-- 11.5: a service clear of all twelve categories removes PANEL_SILENT's flag and leaves FAN_ICE's. -/
theorem test_clearRequest :
    let s := after .clearRequest { asked [0x43, 0x0F, 0xFF] with
      aou := { run.aou with live := 0x004, latched := 0x404 } }
    s.aou.latched = 0x004 ∧ s.svp.answer = [0x06] := by decide +kernel

/-! ### Witnesses: states and operands that meet the hypotheses of each obligation, clause by clause -/

/-- Station 7 between reset release and load completion. -/
def waiting : State := after (.resetRelease 7 false) State.reset

/-- A whole image of 240 bytes: the sum 0x4E + 1 + 240 is 319. -/
def image240 : List Byte := [0x4E, 1, 240] ++ List.replicate 235 0 ++ [0x01, 0x3F]

/-- A state of the line block. -/
def withBus (b : BusState) (g : Lsc → Lsc) : State := { run with lsc := g { run.lsc with bus := b } }

/-- An order frame that sets loop 1 and not loop 0. -/
def orderCharsLoop1 : List Byte :=
  withCrc ([0xB4, 0x32, 0x00, 0, 0, 0, 0, 0x81, 0x04, 0x00, 0xFA] ++ List.replicate 15 0)

/-- A state whose role, frost state and drained attribute the VDR was last told, with an allotment received. -/
def reported (r : Role) (f : FrostState) (drained : Bool) : State :=
  { run with
    fde := { run.fde with role := r, drained := drained }
    cfm := { run.cfm with frost := f }
    vdr := { run.vdr with role := r, frost := f, drained := drained, allotmentReceived := true } }

theorem witness_ResetReleaseLatchesTheStraps :
    State.reset.released = false ∧ (State.reset.timer .ice).running = false
      ∧ (1 ≤ (1 : BitVec 5).toNat ∧ (24 : BitVec 5).toNat ≤ 24) ∧ (0 : BitVec 5).toNat = 0
      ∧ 25 ≤ (25 : BitVec 5).toNat ∧ run.released = true := by decide +kernel

theorem witness_SclHeldLowEndsTheReadWithNoAck :
    waiting.released = true ∧ waiting.cfl.state = .loading ∧ (waiting.cfl.read []).state = .loading
      ∧ (waiting.cfl.read (image240.take 239)).state = .loading
      ∧ (waiting.cfl.read image240).state = .done := by decide +kernel

theorem witness_GoodImageIsAccepted :
    waiting.released = true ∧ waiting.loaded = false ∧ waiting.cfl = Cfl.reset
      ∧ ∀ b ∈ [image48, image240], 48 ≤ b.length ∧ b.length ≤ 240 ∧ byteAt b 0 = 0x4E
        ∧ (byteAt b 2).toNat = b.length
        ∧ byteSum (b.take (b.length - 2)) % 65536 = (wordAt b (b.length - 2)).toNat := by decide +kernel

theorem witness_BadImageTakesTheDefaults :
    (LatchesLive waiting ∧ LatchesLive (after (.sclHoldTimeout [0x4E, 1]) waiting))
      ∧ (let c := (after (.sclHoldTimeout [0x4E, 1]) waiting).cfl
        c.state = .done ∧ c.outcome = some .noAck ∧ LoadOutcome.noAck ≠ .accepted)
      ∧ waiting.cfl = Cfl.reset ∧ byteAt [0x4F] 0 ≠ 0x4E
      ∧ ((byteAt [0x4E, 0, 47] 2).toNat < 48 ∧ 240 < (byteAt [0x4E, 0, 241] 2).toNat)
      ∧ (let b := image48.take 47 ++ [0x87]
        (byteAt b 2).toNat = b.length
          ∧ byteSum (b.take (b.length - 2)) % 65536 ≠ (wordAt b (b.length - 2)).toNat) := by
  unfold LatchesLive
  decide +kernel

theorem witness_LoadCompletionStartsTheBlocks :
    (waiting.cfl.complete false []).state = .done ∧ waiting.lsc.bus = .listen
      ∧ (after (.resetRelease 0 false) State.reset).lsc.bus = .unaddressed
      ∧ waiting.vdr.check ≠ .suspended ∧ (waiting.timer .ord).running = true
      ∧ (waiting.timer .rot).running = false
      ∧ waiting.aou.live &&& ~~~waiting.aou.latched = 0
      ∧ waiting.aou.cadence = .idle ∧ waiting.aou.count = 0 ∧ waiting.aou.line = false := by decide +kernel

theorem witness_CrystalTimeRunsTheSlotClock :
    waiting.loaded = false ∧ run.loaded = true ∧ run.lsc.position = some 90000
      ∧ run.lsc.ownSlotEntered = false ∧ 90000 < run.own * 40000
      ∧ run.own * 40000 ≤ 90000 + 190000 ∧ 90000 + 229999 < (run.own + 1) * 40000
      ∧ waiting.lsc.position = none ∧ 499998 + (1000000 - 999999) < 500000
      ∧ ¬ 499999 + (1000000 - 999999) < 500000
      ∧ ([189999, 190000, 229999, 230000].map fun e => (run.advance e).lsc.ownSlotEntered)
        = [false, true, true, false] := by decide +kernel

theorem witness_IdleLineBeginsFrames :
    ∀ i ∈ [999, 1000, 1199, 1200], let u := ({ run with lsc := { run.lsc with idle := i } } : State).advance 0
      u.lsc.rx = none ∧ u.lsc.sending = none ∧ u.lsc.idle = i := by decide +kernel

theorem witness_RejectedFramesAreCounted :
    judgeFrame (received []) = none
      ∧ (judgeFrame (received (orderChars 0 0 0 0 0))).isSome = true
      ∧ (∀ p ∈ [999, 5001], ¬ (0 * 40000 + 1000 ≤ p ∧ p ≤ 0 * 40000 + 5000))
      ∧ judgeFrame (received (bulletinChars bulletin12)) = some (.bulletin 12 (bulletinChars bulletin12))
      ∧ (∀ p ∈ [480999, 485001], ¬ (12 * 40000 + 1000 ≤ p ∧ p ≤ 12 * 40000 + 5000))
      ∧ (judgeFrame (received (orderChars 0 0 0 0 0))) = some (.order (orderChars 0 0 0 0 0))
      ∧ ((receiving none run).advance 0).lsc.rx = some ⟨none, 4600⟩
      ∧ ((receiving (some 480999) run).advance 0).lsc.rx = some ⟨some 480999, 4600⟩
      ∧ (12 ≠ run.own ∧ run.lsc.bus ≠ .listen ∧ ¬ (12 < run.own ∧ 12 ≤ run.lsc.anchor)) := by decide +kernel

theorem witness_AcceptedBulletinRefreshesItsRow :
    judgeFrame chars3 = some (.bulletin 3 (bulletinChars bulletin3)) ∧ 3 ≠ run.own
      ∧ run.lsc.bus ≠ .listen ∧ (3 < run.own ∧ 3 ≤ run.lsc.anchor) ∧ ¬ 12 < run.own
      ∧ ∀ p ∈ [481000, 485000], 12 * 40000 + 1000 ≤ p ∧ p ≤ 12 * 40000 + 5000
        ∧ ((receiving (some p) run).advance 0).lsc.rx = some ⟨some p, 4600⟩
        ∧ ∀ x ∈ [157999, 158000, 159999, 160000],
          (({ run with lsc := { run.lsc with rx := some ⟨some p, x⟩ } } : State).advance 0).lsc.rx
            = some ⟨some p, x⟩ := by decide +kernel

theorem witness_BulletinEndsTheListenWindow :
    let u := (receiving none (withBus .listen id)).advance 0
    u.lsc.rx = some ⟨none, 4600⟩ ∧ u.lsc.bus = .listen ∧ 3 ≠ u.own
      ∧ judgeFrame chars3 = some (.bulletin 3 (bulletinChars bulletin3)) := by decide +kernel

theorem witness_OwnAddressBulletinLeadsToDuplicate :
    (judgeFrame chars7).isSome = true
      ∧ ∀ b ∈ [BusState.listen, .joining, .active, .duplicate],
        ∀ own ∈ [none, some [0xB4]],
          let s := receiving (some 282000) (withBus b id)
          let u := ({ s with lsc := { s.lsc with sending := own } } : State).advance 0
          u.lsc.rx = some ⟨some 282000, 4600⟩ ∧ u.lsc.bus = b ∧ u.own = 7 ∧ u.lsc.sending = own := by
  decide +kernel

theorem witness_OrderFrameIsStoredAndTaken :
    judgeFrame (received (orderChars 0 0 0 0 0)) = some (.order (orderChars 0 0 0 0 0))
      ∧ judgeFrame (received orderCharsLoop1) = some (.order orderCharsLoop1)
      ∧ (orderOf (orderChars 0 0 0 0 0)).valid0 = true ∧ (orderOf (orderChars 0 0 0 0 0)).valid1 = false
      ∧ (orderOf orderCharsLoop1).valid0 = false ∧ (orderOf orderCharsLoop1).valid1 = true
      ∧ ∀ p ∈ [1000, 5000], ∀ b ∈ [BusState.unaddressed, .active],
        ((receiving (some p) (withBus b id)).advance 0).lsc.rx = some ⟨some p, 4600⟩ := by decide +kernel

theorem witness_OrderLevelsMoveTheRole :
    let o := orderOf (orderChars 0x40 0 0x40 0x40 0x40)
    (o.withdraw.getLsbD 6 && o.clearAlerts.getLsbD 6 && o.fanReset.getLsbD 6 && o.exercise.getLsbD 6) = true
      ∧ (orderOf (orderChars 0 0 0 0 0)).withdraw.getLsbD 6 = false
      ∧ run.fde.role ≠ .withdrawn ∧ (withRole .withdrawn).fde.role = .withdrawn
      ∧ run.ord.prevFanReset.getLsbD 6 = false ∧ run.ord.prevClear.getLsbD 6 = false
      ∧ run.ord.prevExercise.getLsbD 6 = false
      ∧ (∀ x ∈ [(FrostState.clear, true), (.guard, false)],
        ReportsCurrent (reported .withdrawn x.1 x.2)
          ∧ (reported .withdrawn x.1 x.2).vdr.allotmentReceived = true)
      ∧ (orderOf (orderChars 0x40 0x40 0 0 0)).drained.getLsbD 6 = true ∧ run.cfm.suspended = false
      ∧ (run.timer .exer).running = false := by
  unfold ReportsCurrent
  decide +kernel

theorem witness_OwnSlotStartComposesTheBulletin :
    let s := withBus .active fun l => { l with position := some 279999 }
    (s.advance 1).lsc.bus = .active ∧ (s.advance 1).lsc.ownSlotEntered = true
      ∧ (s.advance 1).lsc.ownSlotRaised = false ∧ s.fde.allotment = none ∧ s.ssc.scanSet = none
      ∧ computing.fde.allotment = some record7
      ∧ (withBus .joining id).lsc.bus ≠ .active ∧ (s.advance 0).lsc.ownSlotEntered = false
      ∧ (withBus .active fun l => { l with ownSlotRaised := true }).lsc.ownSlotRaised = true
      ∧ (after .fanInterval (withBus .active fun l => { l with ownSlotRaised := true })).lsc.ownSlotRaised
        = true := by decide +kernel

theorem witness_TransmissionOrCollision :
    ∀ p ∈ [282000, 319999],
      let u := (withBus .active fun l => { l with composed := some [1], position := some p }).advance 0
      u.lsc.bus = .active ∧ u.lsc.composed = some [1] ∧ u.lsc.position = some p
        ∧ u.own * 40000 + 2000 ≤ p ∧ p < (u.own + 1) * 40000
        ∧ ((withBus .active fun l => { l with sending := some [1] }).advance 0).lsc.sending = some [1]
        ∧ (∀ q ∈ [281999, 320000], q < u.own * 40000 + 2000 ∨ (u.own + 1) * 40000 ≤ q)
        ∧ [(1 : Byte)][0]? = some 1
        ∧ ∀ x ∈ [none, some ⟨2, false⟩, some ⟨1, true⟩], x ≠ some (⟨1, false⟩ : RxChar) := by
  decide +kernel

theorem witness_CleanTransmissionStoresTheOwnRow :
    ∀ a ∈ [(1 : BitVec 5), 24],
      let u := ({ withBus .active fun l => { l with sending := some [1] } with
        straps := ⟨a, false⟩ } : State).advance 0
      u.lsc.sending = some [1] ∧ 1 ≤ u.straps.address.toNat ∧ u.straps.address.toNat ≤ 24
        ∧ ∀ back ∈ [[], [none], [some ⟨1, true⟩]],
          back ≠ [(1 : Byte)].map fun c => some (⟨c, false⟩ : RxChar) := by decide +kernel

theorem witness_SilentListenWindowEntersActive :
    let u := (withBus .listen fun l => { l with window := some 5 }).advance 5
    u.lsc.bus = .listen ∧ u.lsc.window = some 0 := by decide +kernel

theorem witness_CycleEndAgesAndSnapshotsTheRows :
    let u := (withBus .listen fun l => { l with position := some 999999, sinceCycleEnd := some 499999 }).advance 1
    u.lsc.bus ≠ .unaddressed ∧ u.lsc.endPassed = true ∧ u.lsc.sinceCycleEnd = some 0
      ∧ u.params.holdLimit = 3
      ∧ (∀ r ∈ [(⟨some bulletin3, none, .absent, 0, .held, 2, false, 0, 0⟩ : Row),
          ⟨some bulletin3, none, .absent, 0, .held, 3, false, 0, 0⟩], r.heard = false ∧ r.state = .held) := by
  decide +kernel

theorem witness_CycleEndCountsAndLatches :
    ∀ b ∈ [BusState.active, .joining],
      let u := (withBus b fun l => { l with position := some 999999, isolation := 9 }).advance 1
      u.lsc.bus = b ∧ u.lsc.endPassed = true ∧ u.lsc.sinceCycleEnd = some 0 ∧ u.lsc.heard = []
        ∧ u.vdr.check = .idle ∧ u.lsc.joinCycleEnds = 0
        ∧ (after (.cycleEnd 0 false) u).lsc.joinCycleEnds = if b = .joining then 1 else 0 := by decide +kernel

theorem witness_AgeingMarkReachesOnlyTheTableAndTheAnchor :
    ∀ x ∈ [499999, 500000], ∀ b ∈ [BusState.unaddressed, .active],
      let u := (withBus b fun l => { l with endPassed := true, sinceCycleEnd := some x }).advance 0
      u.lsc.endPassed = true ∧ u.lsc.bus = b ∧ u.lsc.sinceCycleEnd = some x
        ∧ let s := withBus b fun l => { l with position := some 999999, sinceCycleEnd := some x }
        s.loaded = true ∧ s.lsc.endPassed = false ∧ s.lsc.position = some 999999
          ∧ 999999 + 1000000 < 2000000 := by decide +kernel

theorem witness_ConversionStoresTheRawCode :
    run.loaded = true ∧ run.ssc.nextChannel = (0 : Fin 7).val
      ∧ ({ run.ssc with nextChannel := 6 } : Ssc).nextChannel = (6 : Fin 7).val
      ∧ ({ run.ssc with nextChannel := 7 } : Ssc).nextChannel = 7 := by decide +kernel

theorem witness_ScanCompletionJudgesEveryChannel :
    ∀ code ∈ [(15 : BitVec 12), 16, 4079, 4080], ∀ failed ∈ [false, true], ∀ n ∈ [2, 6, 7],
      let s := scanned 1 ⟨some code, none, some 0, failed, n, n, .inside⟩
      s.loaded = true ∧ s.ssc.nextChannel = 8 ∧ s.ssc.channels[1].failed = failed
        ∧ (after (.scanCompletion false) s).ssc.fault = false := by decide +kernel

theorem witness_ReferenceCheckSetsAndClearsTheFaultFlag :
    ∀ code ∈ [(1949 : BitVec 12), 1950, 2146, 2147], ∀ fault ∈ [false, true],
      let s := scanned 1 Channel.reset
      let s' := { s with ssc := { s.ssc with refRaw := some code, fault := fault, badRun := 2, refGoodRun := 7 } }
      s'.loaded = true ∧ s'.ssc.nextChannel = 8 ∧ (s'.ssc.refRaw.getD 0).toNat = code.toNat := by decide +kernel

theorem witness_FilterStepsTowardTheReading :
    (⟨none, none, some (-40), false, 0, 0, .inside⟩ : Channel).failed = false
      ∧ (-51 : Int) ≤ -40 ∧ 2 * ((-40 : Int) - -40).natAbs < 2 ^ 1 := by decide

theorem witness_ComparatorSettlesInOneEvaluation : (-50 : Int) ≤ 900 ∧ (50 : Int) ≤ 50 ∧ (49 : Int) < 50 := by
  decide

theorem witness_ScanCompletionMovesTheFrostState :
    ∀ f ∈ [FrostState.clear, .guard, .protect, .recover], ∀ raw ∈ [(1500 : BitVec 12), 1499, 2324],
      let s := scanned 1 ⟨some raw, none, none, false, 0, 0, .inside⟩
      let s' := { s with cfm := { s.cfm with frost := f, guardPending := true, protectPending := true } }
      s'.loaded = true ∧ s'.ssc.nextChannel = 8 ∧ s'.cfm.suspended = false
        ∧ ((after (.scanCompletion false) s').ssc.scanSet.map fun set => set.to.ok) = some true
        ∧ let u := { reported .carrying .clear false with ssc := s.ssc }
        u.vdr.allotmentReceived = true ∧ ReportsCurrent u
          ∧ (raw = 1499 → (after (.scanCompletion false) u).cfm.frost = .guard) := by
  unfold ReportsCurrent
  decide +kernel

theorem witness_ScanCompletionChecksTheValve :
    ∀ raw ∈ [(4095 : BitVec 12), 3890, 3888, 2048],
      let s := scanned 6 ⟨some raw, none, some 950, false, 0, 0, .inside⟩
      s.loaded = true ∧ s.ssc.nextChannel = 8 ∧ (after (.scanCompletion true) s).vdr.command = s.vdr.command
        ∧ ∀ first ∈ [true, false],
          let u := { reported .resting .clear false with
            ssc := (scanned 1 ⟨some 1499, none, none, false, 0, 0, .inside⟩).ssc }
          (after (.scanCompletion first) u).vdr.command = 250 ∧ u.vdr.command = 1000
            ∧ ((after (.scanCompletion first) u).ssc.scanSet.map fun set => set.vf.ok) = some true := by
  decide +kernel

theorem witness_AllotmentIsOneRecord :
    run.fde.latched = none ∧ computing.fde.latched = some latched7 := by decide +kernel

theorem witness_FieldDutyFollowsTheSnapshot :
    computing.fde.latched = some latched7 ∧ computing.peers.length = 2
      ∧ (computing.peers.filter Member.outletValid).length = 2
      ∧ { computing with btb := Btb.reset }.peers = [] := by decide +kernel

theorem witness_OwnShareAndCeilingFollowTheRank :
    (∀ x ∈ [(179 : Int), 180, 189, 190],
        ownOutlet (some (scanSet ⟨x, true, .inside⟩ ⟨1000, true, .inside⟩)) = some x)
      ∧ ownOutlet none = none ∧ computing.fde.role = .carrying ∧ latched7.bus = .active
      ∧ (computingAs .resting id).fde.role ≠ .carrying
      ∧ (computingAs .carrying fun l => { l with bus := .joining }).fde.latched
        = some { latched7 with bus := .joining } := by decide +kernel

theorem witness_StagingFollowsTheRole :
    (after (.allotmentIssued false) computing).fde.allotment.map Allotment.share = some 128
      ∧ (after (.allotmentIssued false) (computingAs .carrying fun l => { l with bus := .joining })).fde.allotment.map
          Allotment.share = some 0
      ∧ (computingAs .shedding id).fde.role = .shedding ∧ (1000 : Int) - 100 ≥ 200 := by decide +kernel

theorem witness_StagingStaysInRange :
    computing.fde.latched = some latched7 ∧ 1 ≤ computing.params.nFit ∧ computing.params.vMin ≤ 1000
      ∧ latched7.runningCount ≤ latched7.nAvail ∧ (∀ a, computing.fde.allotment = some a → a.v ≤ 1000) := by
  refine ⟨by decide +kernel, by decide +kernel, by decide +kernel, by decide, fun a h => ?_⟩
  have h' : some record7 = some a := h
  cases h'
  decide

theorem witness_AllotmentDecidesTheRole :
    (∀ r ∈ [Role.init, .resting, .warming, .carrying, .shedding, .protect, .withdrawn],
        (computingAs r id).fde.latched = some latched7 ∧ (computingAs r id).fde.role = r)
      ∧ (after (.allotmentIssued false) (computingAs .warming id)).fde.allotment.map Allotment.share = some 128
      ∧ (after (.allotmentIssued false) (computingAs .shedding id)).fde.allotment.map Allotment.share = some 128
      ∧ (after (.allotmentIssued false) (computingAs .resting id)).fde.allotment.map Allotment.share = some 0 := by
  decide +kernel

theorem witness_FieldAlertsFollowTheComputation :
    computing.fde.latched = some latched7
      ∧ (computingAs .carrying fun l => { l with tSet := 219 }).fde.latched
        = some { latched7 with tSet := 219 } := by decide +kernel

theorem witness_MembersAreRankedInOneOrder :
    (bulletin3.member 3).before (bulletin12.member 12) = true
      ∧ (bulletin12.member 12).before (bulletin12.member 13) = true ∧ 3 ≠ 12 := by decide +kernel

theorem witness_SharesCarryTheDuty :
    ([bulletin3.member 3, bulletin12.member 12].map Member.address).Nodup
      ∧ ∀ m ∈ [bulletin3.member 3, bulletin12.member 12], m.eligible = true ∧ m.tier ≠ 3 := by decide +kernel

theorem witness_MixLiesBetweenTheOutlets :
    computing.fde.latched = some latched7 ∧ ownOutlet latched7.scan = some 251
      ∧ (∀ m ∈ computing.peers, m.outletValid = true → (-80 : Int) ≤ m.outlet ∧ m.outlet ≤ 251)
      ∧ (after (.allotmentIssued false) computing).fde.allotment.map Allotment.noBasis = some false := by
  decide +kernel

/-- The fans of `run`, and with them those of `computing`, are sound. -/
theorem fansSound_computing : FansSound computing := by
  unfold FansSound PermitExact RunOrderExact FanChannel.Sound
  decide +kernel

theorem witness_FansFollowTheRecord :
    computing.fde.latched = some latched7 ∧ FansSound computing
      ∧ (after (.allotmentIssued true) computing).fcc.k = 3 :=
  ⟨by decide +kernel, fansSound_computing, by decide +kernel⟩

theorem witness_ValveStepsAtAnAllotment :
    computing.fde.latched = some latched7 ∧ computing.vdr.frost = .clear
      ∧ (after (.allotmentIssued true) (computingAs .shedding fun l =>
          { l with bus := .joining })).fde.allotment.map Allotment.role = some .shedding := by decide +kernel

theorem witness_TimerIsDueAfterItsDuration : Timer.reset.running = false ∧ 1 ≤ 1 ∧ 1 ≤ 256 := by decide

theorem witness_RoleTimerExpiriesMoveTheRole :
    ∀ r ∈ [Role.warming, .carrying, .resting], ∀ id ∈ [TimerId.rot, .warm, .shed],
      ((due id (withRole r)).timer id).due = true ∧ (due id (withRole r)).fde.role = r
        ∧ (let s := { due id (withRole r) with
            vdr := { run.vdr with role := r, allotmentReceived := true } }
          s.vdr.role = s.fde.role ∧ s.vdr.frost = s.cfm.frost ∧ s.vdr.allotmentReceived = true) := by
  decide +kernel

theorem witness_FrostTimerExpiriesMoveTheMonitor :
    ∀ f ∈ [FrostState.clear, .guard, .protect, .recover], ∀ id ∈ [TimerId.guard, .prot, .recov, .stag],
      ((due id (withFrost f)).timer id).due = true ∧ (due id (withFrost f)).cfm.frost = f
        ∧ (withFrost f).cfm.suspended = false
        ∧ (fineSet.to.ok = true ∧ fineSet.tsl.ok = true ∧ fineSet.tsu.ok = true)
        ∧ (let s := due id (reported .withdrawn f false)
          ReportsCurrent s ∧ s.vdr.allotmentReceived = true ∧ (s.timer id).due = true ∧ s.cfm.frost = f) := by
  unfold ReportsCurrent
  decide +kernel

theorem witness_FanTimerExpiriesQueueTheFans :
    ∀ n ∈ [2, 3, 4],
      let s := withFan 0 (fun c => { c with deferrals := n })
        { withRole .resting with ssc := { run.ssc with scanSet := some fineSet } }
      ((due .exer s).timer .exer).due = true ∧ ((due .ice s).timer .ice).due = true
        ∧ (s.fcc.channel 0).state = .off ∧ (s.fcc.channel 0).deferrals = n
        ∧ s.params.iceAmbient ≤ fineSet.ta.value := by decide +kernel

theorem witness_OrderSilenceAndTravelTime :
    ((due .ord run).timer .ord).due = true ∧ (run.timer .ord).due = false ∧ run.vdr.check ≠ .timing
      ∧ run.params.travelTime ≤ 90 ∧ 89 < run.params.travelTime := by decide +kernel

theorem witness_FanIntervalGrantsTheFirstInPairOrder :
    let q := withFan 5 (FanChannel.toQueue .exercise) (withFan 1 (FanChannel.toQueue .duty) run)
    q.loaded = true ∧ q.fcc.permit = none ∧ (q.fcc.channel 1).state = .queued
      ∧ (starting 0).fcc.permit ≠ none ∧ ({ q.fcc with intervals := 9 } : Fcc).intervals = 9 := by decide +kernel

theorem witness_PhaseEndsMoveTheChannel :
    (∀ s ∈ [starting 50, kicking .kick 20 0, kicking .check 30 1, kicking .check 30 2],
        s.fcc.tachDue = false ∧ s.fcc.permit = some 0)
      ∧ ((starting 50).fcc.channel 0).phase = none ∧ run.params.spinUpWindow = 50
      ∧ run.params.kickTime = 20 ∧ run.params.checkWindow = 30 ∧ run.params.exerciseTime = 300
      ∧ (∀ x ∈ [(FanClass.duty, some 3, none), (.exercise, none, some 3)],
        let s := withFan 3 (FanChannel.toQueue x.1) (kicking .check 30 2)
        let first := fun cls => (s.fcc.pairTable s.params).find? fun j => decide
          (j ≠ 0 ∧ (s.fcc.channel j).state = .queued ∧ (s.fcc.channel j).cls = some cls)
        first .duty = x.2.1 ∧ first .exercise = x.2.2 ∧ (after .checkWindowEnd s).fcc.permit = some 3)
      ∧ (after .checkWindowEnd (kicking .check 30 2)).fcc.permit = none := by
  decide +kernel

theorem witness_TachMeasurementJudgesTheChannels :
    (tachDue (starting 10)).fcc.tachDue = true ∧ ((starting 10).fcc.channel 0).phaseCount = 10
      ∧ 15 * run.params.ratedSpeed = 100 * (6 * 60 / run.params.tachPulses)
      ∧ ((tachDue (running 1)).fcc.channel 0).stallRun < 2 ∧ ((running 2).fcc.channel 0).stallRun = 2
      ∧ FansSound (tachDue (starting 10)) ∧ FansSound (tachDue (running 2)) := by
  unfold FansSound PermitExact RunOrderExact FanChannel.Sound
  decide +kernel

theorem witness_ServicePortTakesItsCharacters :
    run.released = true
      ∧ (∀ p ∈ [PortState.idle, .sending, .quiet], (porting p).svp.port = p)
      ∧ (let s := after (.readRequest 0) (asked [0x52, 0, 0, 1])
        s.svp.port = .sending ∧ s.svp.answer[0]? = some 0)
      ∧ (asked [0x52, 0, 0]).svp.request = 0x52 :: [0, 0] ∧ (asked [0x43, 0]).svp.request = 0x43 :: [0] := by
  decide +kernel

theorem witness_ReadRequestAnswersTheSpan :
    ∀ v ∈ [(0 : Byte), 10, 11, 255],
      ((asked [0x52, v, 0, 0]).advance 0).svp.port = .receiving
        ∧ ((asked [0x52, v, 0, 0]).advance 0).svp.request = [0x52, v, 0, 0] := by decide +kernel

theorem witness_ClearRequestClearsTheMaskedFlags :
    (asked [0x43, 0x0F, 0xFF]).svp.port = .receiving
      ∧ (asked [0x43, 0x0F, 0xFF]).svp.request = [0x43, 0x0F, 0xFF] := by decide +kernel

theorem witness_BulletinSurvivesItsCharacters : bulletin3.InRange ∧ bulletin12.InRange := by
  unfold Bulletin.InRange
  decide

/-- `run` with a command waiting. -/
def stepping : State := { run with pending := [.fanInterval] }

theorem witness_EveryStepKeepsTheAlerts :
    LatchesLive stepping ∧ LineFollowsCadence stepping ∧ (∃ t, step stepping = .next t) := by
  refine ⟨?_, ?_, _, rfl⟩
  · unfold LatchesLive; decide +kernel
  · unfold LineFollowsCadence; decide +kernel

theorem witness_EveryStepKeepsTheFans :
    let s := { withRole .carrying with fcc := (running 0).fcc, pending := [.fanInterval] }
    (FansSound s ∧ FansOfRole s ∧ LatchedFans s) ∧ ∃ t, step s = .next t := by
  refine ⟨⟨?_, ?_, ?_⟩, _, rfl⟩
  · unfold FansSound PermitExact RunOrderExact FanChannel.Sound; decide +kernel
  · unfold FansOfRole; decide +kernel
  · unfold LatchedFans; decide +kernel

theorem witness_EveryStepKeepsTheCoilProtected :
    let s := { reported .carrying .guard false with
      itb := ((run.startTimer .rot).startTimer .guard).itb, pending := [.fanInterval] }
    (CoilProtected s ∧ FlagsOfRole s ∧ CommandHeld s ∧ NothingBeforeLoad s ∧ RangesSound s ∧ TimersOfState s)
      ∧ ∃ t, step s = .next t := by
  refine ⟨⟨?_, ?_, ?_, ?_, ?_, ?_⟩, _, rfl⟩
  · unfold CoilProtected ReportsCurrent SuspensionExact FrostForced; decide +kernel
  · unfold FlagsOfRole; decide +kernel
  · unfold CommandHeld; decide +kernel
  · unfold NothingBeforeLoad; decide +kernel
  · unfold RangesSound Params.InRange
    repeat' apply And.intro
    all_goals decide +kernel
  · unfold TimersOfState; decide +kernel

/-- `stepping` with a row and a bulletin in hand, as a station with one peer has them. -/
def steppingFull : State :=
  { stepping with
    btb := run.btb.modifyRow 3 (Row.arrive bulletin3)
    lsc := { run.lsc with composed := some (bulletinChars { bulletin3 with slot := 7, source := 7 }) } }

theorem witness_EveryStepKeepsTheTables :
    (RowsSound steppingFull ∧ BusSound steppingFull ∧ OwnFramesSound steppingFull
        ∧ RequestSound steppingFull ∧ RangesSound steppingFull)
      ∧ ∃ t, step steppingFull = .next t := by
  refine ⟨⟨?_, ⟨?_, ?_, ?_, ?_, ?_⟩, ?_, ⟨?_, ?_⟩, ?_⟩, _, rfl⟩
  · unfold RowsSound Row.Sound Bulletin.InRange; decide +kernel
  · decide +kernel
  · decide +kernel
  · decide +kernel
  · intro p h
    have h' : some 90000 = some p := h
    cases h'
    decide
  · decide +kernel
  · unfold OwnFramesSound; decide +kernel
  · decide +kernel
  · intro c cs h
    exact absurd h (by have : steppingFull.svp.request = [] := rfl; simp [this])
  · unfold RangesSound Params.InRange
    repeat' apply And.intro
    all_goals decide +kernel

/-- `stepping` as the defaults of its load left it: CONFIG_DEFAULT live. -/
def steppingLive : State := { stepping with aou := { run.aou with live := 0x800, latched := 0x800 } }

theorem witness_EveryStepKeepsTheLiveConditions :
    BusSound steppingLive ∧ LiveFollowsOwners steppingLive ∧ ∃ t, step steppingLive = .next t := by
  refine ⟨⟨by decide +kernel, by decide +kernel, by decide +kernel, fun p h => ?_, by decide +kernel⟩, ?_, _, rfl⟩
  · have h' : some 90000 = some p := h
    cases h'
    decide
  · unfold LiveFollowsOwners; decide +kernel

end Sys2Proof.Tests
end

section
/-! PROOFS. Fan channels: what each operation of the FCC does to the channels in hand, turning and ICED. -/

namespace Sys2Proof.Machine

/-- The channel is not taken in hand. -/
def FanChannel.Idles (c c' : FanChannel) : Prop := c'.inHand = true → c.inHand = true

/-- The channel is ICED where it was. -/
def FanChannel.SameIced (c c' : FanChannel) : Prop := c'.state = .iced ↔ c.state = .iced

/-- The channel turns where it did. -/
def FanChannel.SameTurning (c c' : FanChannel) : Prop := c'.turning = c.turning

/-- The channel is neither taken in hand nor iced or thawed. -/
def FanChannel.Calm (c c' : FanChannel) : Prop := c.Idles c' ∧ c.SameIced c'

theorem FanChannel.Idles.refl (c : FanChannel) : c.Idles c := id
theorem FanChannel.Idles.trans {a b c : FanChannel} (h : a.Idles b) (h' : b.Idles c) : a.Idles c :=
  fun hc => h (h' hc)
theorem FanChannel.SameIced.refl (c : FanChannel) : c.SameIced c := Iff.rfl
theorem FanChannel.SameIced.trans {a b c : FanChannel} (h : a.SameIced b) (h' : b.SameIced c) :
    a.SameIced c := Iff.trans h' h
theorem FanChannel.SameTurning.refl (c : FanChannel) : c.SameTurning c := rfl
theorem FanChannel.SameTurning.trans {a b c : FanChannel} (h : a.SameTurning b) (h' : b.SameTurning c) :
    a.SameTurning c := Eq.trans h' h
theorem FanChannel.Calm.refl (c : FanChannel) : c.Calm c := ⟨.refl c, .refl c⟩
theorem FanChannel.Calm.trans {a b c : FanChannel} (h : a.Calm b) (h' : b.Calm c) : a.Calm c :=
  ⟨h.1.trans h'.1, h.2.trans h'.2⟩

theorem FanChannel.state_ne_iced_of_inHand {c : FanChannel} (h : c.inHand = true) : c.state ≠ .iced := by
  intro hc; simp [FanChannel.inHand, hc] at h

/-- A record that stays in hand is calm. -/
theorem FanChannel.calm_of_inHand {c c' : FanChannel} (h : c.inHand = true) (h' : c'.inHand = true) :
    c.Calm c' :=
  ⟨fun _ => h, iff_of_false (state_ne_iced_of_inHand h') (state_ne_iced_of_inHand h)⟩

/-- A record whose state stands is calm. -/
theorem FanChannel.calm_of_state {c c' : FanChannel} (h : c'.state = c.state) : c.Calm c' := by
  simp [FanChannel.Calm, FanChannel.Idles, FanChannel.SameIced, FanChannel.inHand, h]

/-- A record not ICED is calm as it goes to OFF. -/
theorem FanChannel.calm_toOff {c : FanChannel} (h : c.state ≠ .iced) : c.Calm c.toOff := by
  simp [FanChannel.Calm, FanChannel.Idles, FanChannel.SameIced, FanChannel.inHand, FanChannel.toOff, h]

/-! ### Channel by channel -/

/-- A relation of records holds channel by channel. -/
def Fcc.Each (R : FanChannel → FanChannel → Prop) (f g : Fcc) : Prop :=
  ∀ i, R (f.channel i) (g.channel i)

section
variable {R : FanChannel → FanChannel → Prop}

theorem Fcc.Each.refl (refl : ∀ c, R c c) (f : Fcc) : f.Each R f := fun _ => refl _

theorem Fcc.Each.trans (trans : ∀ a b c, R a b → R b c → R a c) {f g h : Fcc} (hf : f.Each R g)
    (hg : g.Each R h) : f.Each R h := fun i => trans _ _ _ (hf i) (hg i)

/-- One record's change, and no other. -/
theorem Fcc.each_modify (refl : ∀ c, R c c) {f : Fcc} {i : Fin 6} {g : FanChannel → FanChannel}
    (h : R (f.channel i) (g (f.channel i))) : f.Each R (f.modify i g) := by
  intro j
  by_cases hj : j = i
  · subst hj; simpa using h
  · simpa [hj] using refl _

/-- A pass over channels, each of whose steps keeps the relation. -/
theorem Fcc.each_foldl (refl : ∀ c, R c c) (trans : ∀ a b c, R a b → R b c → R a c)
    {op : Fcc → Fin 6 → Fcc} (h : ∀ (f : Fcc) i, f.Each R (op f i)) (l : List (Fin 6)) (f : Fcc) :
    f.Each R (l.foldl op f) :=
  Fcc.foldl_keeps (P := f.Each R) (fun g i hg => hg.trans trans (h g i)) l (Fcc.Each.refl refl f)

end

theorem Fcc.calm_modify {f : Fcc} {i : Fin 6} {g : FanChannel → FanChannel}
    (h : (f.channel i).Calm (g (f.channel i))) : f.Each FanChannel.Calm (f.modify i g) :=
  Fcc.each_modify .refl h

theorem Fcc.calm_foldl {op : Fcc → Fin 6 → Fcc} (h : ∀ (f : Fcc) i, f.Each FanChannel.Calm (op f i))
    (l : List (Fin 6)) (f : Fcc) : f.Each FanChannel.Calm (l.foldl op f) :=
  Fcc.each_foldl .refl (fun _ _ _ => .trans) h l f

theorem Fcc.calm_refl (f : Fcc) : f.Each FanChannel.Calm f := Fcc.Each.refl .refl f

theorem Fcc.Each.calm_trans {f g h : Fcc} (hf : f.Each FanChannel.Calm g)
    (hg : g.Each FanChannel.Calm h) : f.Each FanChannel.Calm h := Fcc.Each.trans (fun _ _ _ => .trans) hf hg

/-- A calm change takes no channel in hand. -/
theorem Fcc.Each.idles {f g : Fcc} (h : f.Each FanChannel.Calm g) : f.Each FanChannel.Idles g :=
  fun i => (h i).1

/-- A calm change ices and thaws no channel. -/
theorem Fcc.Each.sameIced {f g : Fcc} (h : f.Each FanChannel.Calm g) : f.Each FanChannel.SameIced g :=
  fun i => (h i).2

theorem mem_fanChannels (i : Fin 6) : i ∈ fanChannels := by revert i; decide

/-- Whether any channel turns, where each turns that did (R121). -/
theorem Fcc.anyTurning_of_same {f g : Fcc} (h : f.Each FanChannel.SameTurning g) :
    g.anyTurning = f.anyTurning := by
  have hi : ∀ i, (g.channel i).turning = (f.channel i).turning := h
  simp only [Fcc.anyTurning, hi]

theorem Fcc.anyIced_iff (f : Fcc) : f.anyIced = true ↔ ∃ i, (f.channel i).state = .iced := by
  simp [Fcc.anyIced, mem_fanChannels]

/-! ### Forcing (R115, R124, R133) -/

theorem Fcc.calm_off {f : Fcc} {i : Fin 6} (h : (f.channel i).state ≠ .iced) :
    f.Each FanChannel.Calm (f.off i) :=
  Fcc.calm_modify (g := FanChannel.toOff) (FanChannel.calm_toOff h)

theorem Fcc.calm_forceOne (sel : FanChannel → Bool) (f : Fcc) (i : Fin 6) :
    f.Each FanChannel.Calm (Fcc.forceOne sel f i) := by
  unfold Fcc.forceOne
  split
  · next h => exact Fcc.calm_off (FanChannel.state_ne_iced_of_inHand (by simp_all))
  · exact Fcc.calm_refl f

theorem Fcc.calm_forceOff (sel : FanChannel → Bool) (f : Fcc) : f.Each FanChannel.Calm (f.forceOff sel) :=
  Fcc.calm_foldl (Fcc.calm_forceOne sel) _ f

theorem Fcc.calm_roleReport (r : Role) (f : Fcc) : f.Each FanChannel.Calm (f.roleReport r) :=
  Fcc.calm_forceOff _ f

theorem Fcc.calm_frostReport (old new : FrostState) (f : Fcc) :
    f.Each FanChannel.Calm (f.frostReport old new) := by
  unfold Fcc.frostReport
  repeat' split
  · exact Fcc.calm_forceOff _ f
  · exact Fcc.calm_forceOff _ f
  · exact Fcc.calm_refl f

/-- A channel in a pass that forces every channel ends out of hand. -/
theorem Fcc.foldl_forceOne_inHand {i : Fin 6} {l : List (Fin 6)} (hi : i ∈ l) (f : Fcc) :
    ((l.foldl (Fcc.forceOne fun _ => true) f).channel i).inHand = false := by
  have one : ∀ g : Fcc, ((Fcc.forceOne (fun _ => true) g i).channel i).inHand = false := by
    intro g
    unfold Fcc.forceOne
    split
    · simp [Fcc.channel_off, FanChannel.toOff, FanChannel.inHand]
    · simp_all
  induction l generalizing f with
  | nil => simp at hi
  | cons j l ih =>
    by_cases hl : i ∈ l
    · exact ih hl _
    · obtain rfl : i = j := by simpa [hl] using hi
      exact Bool.eq_false_iff.2 fun h =>
        Bool.eq_false_iff.1 (one f) ((Fcc.calm_foldl (Fcc.calm_forceOne _) l _ i).1 h)

/-- On entry to PROTECT no channel stays in hand (R115). -/
theorem Fcc.frostReport_protect_inHand (old : FrostState) (f : Fcc) (i : Fin 6) :
    ((f.frostReport old .protect).channel i).inHand = false := by
  simpa [Fcc.frostReport, Fcc.forceOff] using Fcc.foldl_forceOne_inHand (mem_fanChannels i) f

/-! ### Staging (R122 to R125) -/

theorem Fcc.calm_raiseConvert (m : Nat) (f : Fcc) (i : Fin 6) :
    f.Each FanChannel.Calm (Fcc.raiseConvert m f i) := by
  unfold Fcc.raiseConvert
  split
  · exact Fcc.calm_modify (g := FanChannel.toDuty) (FanChannel.calm_of_state rfl)
  · exact Fcc.calm_refl f

theorem Fcc.sameIced_raiseQueue (m : Nat) (f : Fcc) (i : Fin 6) :
    f.Each FanChannel.SameIced (Fcc.raiseQueue m f i) := by
  unfold Fcc.raiseQueue
  split
  · next h =>
    refine Fcc.each_modify .refl (g := FanChannel.toQueue .duty) ?_
    simp [FanChannel.SameIced, FanChannel.toQueue, h.2]
  · exact Fcc.Each.refl .refl f

theorem Fcc.calm_lower (m : Nat) (f : Fcc) : f.Each FanChannel.Calm (f.lower m) := by
  have queued : ∀ (g : Fcc) i, g.Each FanChannel.Calm (Fcc.lowerQueued m g i) := by
    intro g i
    unfold Fcc.lowerQueued
    split
    · next h => exact Fcc.calm_off (by simp [h.2.1])
    · exact Fcc.calm_refl g
  have starting : ∀ (g : Fcc) i, g.Each FanChannel.Calm (Fcc.lowerStarting m g i) := by
    intro g i
    unfold Fcc.lowerStarting
    split
    · next h => exact Fcc.calm_off (by rcases h.2.1 with h | h <;> simp [h])
    · exact Fcc.calm_refl g
  have running : ∀ (g : Fcc) i, g.Each FanChannel.Calm (Fcc.lowerRunning m g i) := by
    intro g i
    unfold Fcc.lowerRunning
    split
    · next h => exact Fcc.calm_off (by intro hi; simp [FanChannel.runningAs, hi] at h)
    · exact Fcc.calm_refl g
  exact ((Fcc.calm_foldl queued _ _).calm_trans (Fcc.calm_foldl starting _ _)).calm_trans
    (Fcc.calm_foldl running _ _)

theorem Fcc.calm_ramp (ramp v : Nat) (f : Fcc) : f.Each FanChannel.Calm (f.ramp ramp v) := by
  refine Fcc.calm_foldl (fun f i => ?_) _ f
  unfold Fcc.rampOne
  split
  · exact Fcc.calm_modify (FanChannel.calm_of_state rfl)
  · exact Fcc.calm_refl f

/-- In PROTECT and RECOVER staging takes no channel in hand (R115). -/
theorem Fcc.calm_stage {frost : FrostState} (h : frost.forces = true) (order ramp m v : Nat) (f : Fcc) :
    f.Each FanChannel.Calm (f.stage order ramp m v frost) := by
  have hf : frost = .protect ∨ frost = .recover := by cases frost <;> simp_all [FrostState.forces]
  refine Fcc.Each.calm_trans ?_ (Fcc.calm_ramp ramp v _)
  split
  · rw [Fcc.raise, if_pos hf]
    exact Fcc.calm_foldl (Fcc.calm_raiseConvert m) _ f
  · exact Fcc.calm_lower m f

theorem Fcc.sameIced_stage (order ramp m v : Nat) (frost : FrostState) (f : Fcc) :
    f.Each FanChannel.SameIced (f.stage order ramp m v frost) := by
  refine Fcc.Each.trans (fun _ _ _ => .trans) ?_ (Fcc.calm_ramp ramp v _).sameIced
  split
  · unfold Fcc.raise
    have converted := (Fcc.calm_foldl (Fcc.calm_raiseConvert m) (f.pairOrder order) f).sameIced
    split
    · exact converted
    · exact Fcc.Each.trans (fun _ _ _ => .trans) converted
        (Fcc.each_foldl .refl (fun _ _ _ => .trans) (Fcc.sameIced_raiseQueue m) _ _)
  · exact (Fcc.calm_lower m f).sameIced

/-! ### Starting, running and stopping (R127 to R135) -/

theorem Fcc.calm_grant (order startSpeed : Nat) (f : Fcc) :
    f.Each FanChannel.Calm (f.grant order startSpeed) := by
  unfold Fcc.grant
  split
  · next i _ h =>
    refine Fcc.calm_modify (g := FanChannel.toStart startSpeed) ?_
    have hq := Fcc.nextStart_queued h
    refine FanChannel.calm_of_inHand (by simp [FanChannel.inHand, hq]) ?_
    unfold FanChannel.toStart
    split <;> simp [FanChannel.inHand]
  · exact Fcc.calm_refl f

theorem Fcc.calm_interval (order startSpeed : Nat) (f : Fcc) :
    f.Each FanChannel.Calm (f.interval order startSpeed) := by
  have advanced : f.Each FanChannel.Calm f.advancePhases := by
    refine Fcc.calm_foldl (fun f i => ?_) _ f
    unfold Fcc.advanceOne
    split
    · exact Fcc.calm_modify (FanChannel.calm_of_state rfl)
    · exact Fcc.calm_refl f
  have counted : ∀ g : Fcc, g.Each FanChannel.Calm g.countTen := by
    intro g
    unfold Fcc.countTen
    split <;> exact Fcc.calm_refl g
  exact (advanced.calm_trans (counted _)).calm_trans (Fcc.calm_grant order startSpeed _)

/-- The permit's holder acts, if at all, in the state of its phase. -/
theorem Fcc.each_endPhase {R : FanChannel → FanChannel → Prop} (refl : ∀ c, R c c) {state : FanState}
    {phase : Option KickPhase} {time : Nat} {act : Fin 6 → Fcc → Fcc} {f : Fcc}
    (h : ∀ i, (f.channel i).state = state → f.Each R (act i f)) :
    f.Each R (f.endPhase state phase time act) := by
  unfold Fcc.endPhase
  split
  · split
    · next i _ hp => exact h i (by simp [Fcc.phaseEnded] at hp; exact hp.1.1.1)
    · exact Fcc.Each.refl refl f
  · exact Fcc.Each.refl refl f

theorem Fcc.calm_startKick {f : Fcc} {i : Fin 6} (h : (f.channel i).inHand = true) :
    f.Each FanChannel.Calm (f.startKick i) :=
  Fcc.calm_modify (g := FanChannel.toKick) (FanChannel.calm_of_inHand h rfl)

theorem Fcc.calm_startCheck (startSpeed : Nat) (f : Fcc) (i : Fin 6) :
    f.Each FanChannel.Calm (f.startCheck startSpeed i) := Fcc.calm_modify (FanChannel.calm_of_state rfl)

/-- A failed check window takes no channel in hand (R131). -/
theorem Fcc.idles_failWindow (order startSpeed : Nat) {f : Fcc} {i : Fin 6}
    (h : (f.channel i).state = .kick) : f.Each FanChannel.Idles (f.failWindow order startSpeed i) := by
  refine Fcc.Each.trans (fun _ _ _ => .trans) ?_ (Fcc.calm_grant order startSpeed _).idles
  have counted : f.Each FanChannel.Calm (f.countRetry i) := Fcc.calm_modify (FanChannel.calm_of_state rfl)
  unfold Fcc.failCheck
  split
  · exact (counted.calm_trans (Fcc.calm_startKick (by simp [Fcc.countRetry, FanChannel.inHand, h]))).idles
  · refine Fcc.Each.trans (fun _ _ _ => .trans) counted.idles (Fcc.each_modify .refl (g := FanChannel.toIced) ?_)
    simp [FanChannel.Idles, FanChannel.toIced, FanChannel.inHand]

theorem Fcc.calm_endExercise (time : Nat) (f : Fcc) (i : Fin 6) :
    f.Each FanChannel.Calm (f.endExercise time i) := by
  unfold Fcc.endExercise
  split
  · next h => exact Fcc.calm_off (by intro hi; simp [FanChannel.runningAs, hi] at h)
  · exact Fcc.calm_refl f

theorem Fcc.calm_enterRunning (exerciseSpeed : Nat) {f : Fcc} {i : Fin 6} (h : (f.channel i).inHand = true) :
    f.Each FanChannel.Calm (f.enterRunning exerciseSpeed i) := by
  have : f.Each FanChannel.Calm (f.modify i (FanChannel.toRunning exerciseSpeed)) :=
    Fcc.calm_modify (FanChannel.calm_of_inHand h rfl)
  unfold Fcc.enterRunning
  dsimp only
  split <;> exact this

theorem Fcc.calm_slow {f : Fcc} {i : Fin 6} (h : (f.channel i).inHand = true) :
    f.Each FanChannel.Calm (f.slow i) := by
  unfold Fcc.slow
  split
  · exact Fcc.calm_modify (g := FanChannel.toStalled) (FanChannel.calm_of_inHand h rfl)
  · exact Fcc.calm_modify (FanChannel.calm_of_state rfl)

theorem Fcc.calm_judge (rated exerciseSpeed speed : Nat) (i : Fin 6) (f : Fcc) :
    f.Each FanChannel.Calm (f.judge rated exerciseSpeed speed i) := by
  unfold Fcc.judge
  split
  · next hj =>
    split
    · exact Fcc.calm_enterRunning exerciseSpeed (by
        simp only [FanChannel.judged, Bool.or_eq_true, Bool.and_eq_true] at hj
        rcases hj with h | h <;> simp_all [FanChannel.inHand])
    · exact Fcc.calm_refl f
  · split
    · next hr =>
      split
      · exact Fcc.calm_slow (by simp [FanChannel.inHand, hr])
      · exact Fcc.calm_modify (FanChannel.calm_of_state rfl)
    · exact Fcc.calm_refl f

theorem Fcc.calm_tach (rated exerciseSpeed : Nat) (measured stored : Fin 6 → Nat) (f : Fcc) :
    f.Each FanChannel.Calm (f.tach rated exerciseSpeed measured stored) := by
  have taken : f.Each FanChannel.Calm { f with tachDue := false } := fun _ => .refl _
  refine taken.calm_trans (Fcc.calm_foldl (fun f i => ?_) _ _)
  unfold Fcc.measure
  split
  · exact Fcc.calm_refl f
  · exact (Fcc.calm_modify (FanChannel.calm_of_state rfl)).calm_trans (Fcc.calm_judge _ _ _ _ _)

/-! ### Exercise, ice retry, reset and fitting (R120, R134, R137, R139) -/

theorem Fcc.sameIced_exercise (frost : FrostState) (f : Fcc) :
    f.Each FanChannel.SameIced (f.exercise frost) := by
  refine Fcc.each_foldl .refl (fun _ _ _ => .trans) (fun f i => ?_) _ f
  unfold Fcc.exerciseOne
  split
  · next h =>
    split
    · refine Fcc.each_modify .refl (g := FanChannel.toQueue .exercise) ?_
      simp [FanChannel.SameIced, FanChannel.toQueue, h]
    · exact Fcc.each_modify .refl Iff.rfl
  · exact Fcc.Each.refl .refl f

theorem Fcc.sameTurning_exercise (frost : FrostState) (f : Fcc) :
    f.Each FanChannel.SameTurning (f.exercise frost) := by
  refine Fcc.each_foldl .refl (fun _ _ _ => .trans) (fun f i => ?_) _ f
  unfold Fcc.exerciseOne
  split
  · next h =>
    split
    · refine Fcc.each_modify .refl (g := FanChannel.toQueue .exercise) ?_
      simp only [FanChannel.SameTurning, FanChannel.turning, FanChannel.toQueue, h]
      rfl
    · exact Fcc.each_modify .refl rfl
  · exact Fcc.Each.refl .refl f

theorem Fcc.sameTurning_iceRetry (f : Fcc) : f.Each FanChannel.SameTurning f.iceRetry := by
  refine Fcc.each_foldl .refl (fun _ _ _ => .trans) (fun f i => ?_) _ f
  unfold Fcc.retryOne
  split
  · next h => exact Fcc.each_modify .refl (by simp only [FanChannel.SameTurning, FanChannel.turning, h]; rfl)
  · exact Fcc.Each.refl .refl f

theorem Fcc.idles_fanReset (f : Fcc) : f.Each FanChannel.Idles f.fanReset := by
  refine Fcc.each_foldl .refl (fun _ _ _ => .trans) (fun f i => ?_) _ f
  unfold Fcc.resetOne
  split
  · exact Fcc.each_modify .refl (by simp [FanChannel.Idles, FanChannel.inHand])
  · exact Fcc.Each.refl .refl f

theorem Fcc.sameTurning_fanReset (f : Fcc) : f.Each FanChannel.SameTurning f.fanReset := by
  refine Fcc.each_foldl .refl (fun _ _ _ => .trans) (fun f i => ?_) _ f
  unfold Fcc.resetOne
  split
  · next h =>
    refine Fcc.each_modify .refl ?_
    rcases h with h | h
    · simp only [FanChannel.SameTurning, FanChannel.turning, h]; rfl
    · simp only [FanChannel.SameTurning, FanChannel.turning, h]
  · exact Fcc.Each.refl .refl f

theorem Fcc.idles_fit (nFit : Nat) (f : Fcc) : f.Each FanChannel.Idles (f.fit nFit) := by
  refine Fcc.each_foldl .refl (fun _ _ _ => .trans) (fun f i => ?_) _ f
  unfold Fcc.fitOne
  split
  · refine Fcc.Each.trans (fun _ _ _ => .trans) (Fcc.each_modify .refl (g := FanChannel.toOff) ?_ :
      f.Each FanChannel.Idles (f.off i)) (Fcc.each_modify .refl ?_)
    · simp [FanChannel.Idles, FanChannel.inHand, FanChannel.toOff]
    · simp [FanChannel.Idles, FanChannel.inHand]
  · exact Fcc.Each.refl .refl f

end Sys2Proof.Machine
end

section
/-! PROOFS. Moves: what a step can do, said once. A command that reaches neither the line nor a reset is a chain
of moves, each what one owner does with its reports; an invariant is then checked move by move. -/

namespace Sys2Proof.Machine

/-- What every command keeps, and the queue does not touch, every step keeps. -/
theorem step_keeps {P : State → Prop} (queue : ∀ s cs, P s → P { s with pending := cs })
    (keeps : ∀ c s t, P s → exec c s = .next t → P t) {s t : State} (hs : P s)
    (hst : step s = .next t) : P t := by
  unfold step at hst
  split at hst
  · cases hst; exact hs
  · exact keeps _ _ _ (queue s _ hs) hst

/-- In a frost state and role that forbid fans, a value of the FCC takes no channel in hand (R115). -/
def State.FansAllowed (f : Fcc) (s : State) : Prop :=
  s.cfm.frost.forces = true → s.fde.role = .protect ∨ s.fde.role = .withdrawn →
    s.fcc.Each FanChannel.Idles f

/-! ### The service port (R177 to R179) -/

/-- The port is RECEIVING exactly while a request is in hand, which is never longer than its kind (R177). -/
def Svp.Sound (p : Svp) : Prop :=
  (p.port = .receiving ↔ p.request ≠ [])
    ∧ ∀ c cs, p.request = c :: cs → cs.length < requestLength c ∧ beginsRequest c = true

theorem requestSound_iff (s : State) : RequestSound s ↔ s.svp.Sound := Iff.rfl

/-- A port that is not RECEIVING has no request in hand. -/
theorem Svp.Sound.empty {p : Svp} (h : p.Sound) (port : p.port ≠ .receiving) : p.request = [] :=
  not_not.1 fun hr => port (h.1.2 hr)

theorem Svp.sound_of_empty {p : Svp} (port : p.port ≠ .receiving) (request : p.request = []) : p.Sound :=
  ⟨⟨fun h => absurd h port, fun h => absurd request h⟩, fun c cs h => by simp [request] at h⟩

theorem Svp.Sound.take {p : Svp} (h : p.Sound) (c : Byte) : (p.take c).Sound := by
  unfold Svp.take
  split
  · next idle =>
    split
    · next begins =>
      refine ⟨by simp, fun d cs hd => ?_⟩
      obtain ⟨rfl, rfl⟩ := List.cons.inj hd
      exact ⟨by unfold requestLength; split <;> simp, begins⟩
    · exact Svp.sound_of_empty (by simp) (h.empty (by simp [idle]))
  · next receiving =>
    split
    · exact h
    · next part =>
      obtain ⟨d, ds, hd⟩ := List.exists_cons_of_ne_nil (h.1.1 receiving)
      obtain ⟨-, begins⟩ := h.2 d ds hd
      refine ⟨by simp [receiving], fun e es he => ?_⟩
      simp only [hd, List.cons_append] at he
      obtain ⟨rfl, rfl⟩ := List.cons.inj he
      simp only [hd, requestWhole, List.length_cons, decide_eq_true_eq] at part
      exact ⟨by simp; omega, begins⟩
  · exact h
  · exact h

theorem Svp.Sound.drop {p : Svp} (h : p.Sound) (c : Byte) (framingError : Bool) :
    (p.drop c framingError).Sound := by
  unfold Svp.drop
  have dropped : Svp.Sound { p with port := .quiet, request := [] } := Svp.sound_of_empty (by simp) rfl
  split
  · split
    · exact dropped
    · exact h
  · split
    · exact dropped
    · exact h
  · exact h
  · exact h

theorem Svp.sound_answerOne (c : Byte) (p : Svp) : (p.answerOne c).Sound :=
  Svp.sound_of_empty (by simp [Svp.answerOne]) rfl

theorem Svp.sound_send (copy : List Byte) (p : Svp) : (p.send copy).Sound :=
  Svp.sound_of_empty (by simp [Svp.send]) rfl

/-- What one owner does at a time, with its reports, under the condition that its rule names. -/
inductive Move : State → State → Prop
  /-- A change of role outside an allotment (R86, R93). -/
  | changeRole (cause : RoleCause) (new : Role) (drained : Bool) (s : State)
      (forced : s.cfm.frost.forces = true → s.fde.role = .protect ∨ s.fde.role = .withdrawn →
        new = .protect ∨ new = .withdrawn) : Move s (s.changeRole cause new drained)
  /-- A change of the drained mark in WITHDRAWN (R101). -/
  | drain (drained : Bool) (s : State) (role : s.fde.role = .withdrawn) :
      Move s (s.putDrained drained).reportDrained
  /-- Rotate-due or cold-join set in CARRYING (R94, R95). -/
  | rotateDue (s : State) (role : s.fde.role = .carrying) : Move s s.setRotateDue
  | coldJoin (s : State) (role : s.fde.role = .carrying) : Move s s.setColdJoin
  /-- The changes of the frost state (R106 to R112). -/
  | enterProtect (causes : List TripCause) (s : State) (frost : s.cfm.frost ≠ .protect)
      (active : s.cfm.suspended = false) : Move s (s.enterProtect causes)
  | enterGuard (s : State) (frost : s.cfm.frost = .clear) (active : s.cfm.suspended = false) :
      Move s s.enterGuard
  | releaseGuard (s : State) (frost : s.cfm.frost = .guard) : Move s s.releaseGuard
  | enterRecover (s : State) (frost : s.cfm.frost = .protect)
      (spent : (s.timer .prot).running = false ∨ s.cfm.protectPending = true) : Move s s.enterRecover
  | endRecover (s : State) (frost : s.cfm.frost = .recover) (spent : (s.timer .recov).running = false) :
      Move s (s.setFrost .clear)
  /-- The release-pending marks (R107, R108, R110). -/
  | holdGuard (s : State) (frost : s.cfm.frost = .guard) (spent : (s.timer .guard).running = false) :
      Move s (s.putGuardPending true)
  | extendGuard (s : State) (frost : s.cfm.frost = .guard) :
      Move s ((s.putGuardPending false).startTimer .guard)
  | holdProtect (s : State) (frost : s.cfm.frost = .protect) (spent : (s.timer .prot).running = false) :
      Move s (s.putProtectPending true)
  /-- The stagnation watch's start, and those of the timers that no role or frost state bounds (R112, R136,
  R137, R161). -/
  | startStag (s : State) (active : s.cfm.suspended = false) : Move s (s.startTimer .stag)
  | startTimer (id : TimerId) (s : State) (free : id = .exer ∨ id = .ice ∨ id = .ord) :
      Move s (s.startTimer id)
  /-- The timer's part of an expiry (R156). -/
  | expire (id : TimerId) (s : State) : Move s (s.expire id)
  /-- The FCC takes a value and reports; where it can ice or thaw a channel, FAN_ICE too (R138, R141). -/
  | fans (f : Fcc) (s : State) (hand : s.FansAllowed f) (iced : s.fcc.Each FanChannel.SameIced f) :
      Move s (s.setFcc f)
  | fansIced (f : Fcc) (s : State) (hand : s.FansAllowed f) : Move s (s.setFcc f).reportIce
  /-- The FCC takes a value in which the same channels turn, so that it reports nothing to the VDR. -/
  | still (f : Fcc) (s : State) (hand : s.FansAllowed f) (iced : s.fcc.Each FanChannel.SameIced f)
      (turning : s.fcc.Each FanChannel.SameTurning f) : Move s { s with fcc := f }
  | stillIced (f : Fcc) (s : State) (hand : s.FansAllowed f)
      (turning : s.fcc.Each FanChannel.SameTurning f) : Move s (State.reportIce { s with fcc := f })
  /-- The travel check and the flow weight, with VALVE_STUCK (R146 to R149). -/
  | checkValve (v : Vdr) (s : State) (command : v.command = s.vdr.command) (role : v.role = s.vdr.role)
      (drained : v.drained = s.vdr.drained) (frost : v.frost = s.vdr.frost)
      (rest : v.fansAtRest = s.vdr.fansAtRest) (received : v.allotmentReceived = s.vdr.allotmentReceived) :
      Move s (State.reportStuck { s with vdr := v })
  /-- The SSC at a scan completion with its alerts, and at a conversion (R46, R49, R61). -/
  | judgeSensors (c : Ssc) (s : State) : Move s (State.reportSensors { s with ssc := c })
  | convert (c : Ssc) (s : State) (failed : ∀ i : Fin 7, c.channels[i].failed = s.ssc.channels[i].failed)
      (fault : c.fault = s.ssc.fault) : Move s { s with ssc := c }
  /-- The image read (R174). -/
  | readImage (c : Cfl) (s : State) (defaults : c.defaults = s.cfl.defaults) : Move s { s with cfl := c }
  /-- The ORD's record, and PANEL_SILENT (R161 to R165). -/
  | order (o : OrderDecoder) (s : State) (taken : s.ord.taken = true → o.taken = true) :
      Move s { s with ord := o }
  | panelSilent (on : Bool) (s : State) (taken : on = true → s.ord.taken = true) :
      Move s (s.report .panelSilent on)
  /-- The cadence's count, and a clear of flags (R168, R171). -/
  | countCadence (s : State) : Move s s.countCadence
  | clearAlerts (mask : AlertMask) (s : State) : Move s (s.clearAlerts mask)
  /-- The service port and the counter of the free values (R177; log entry 12). -/
  | port (p : Svp) (s : State) (sound : s.svp.Sound → p.Sound) : Move s { s with svp := p }
  | spend (n : Nat) (s : State) : Move s { s with freeCount := n }
  /-- The end of a computation (R64, R80). -/
  | issue (valveFirst : Bool) (l : Latched) (s : State) (latched : s.fde.latched = some l) :
      Move s (s.issue valveFirst l)

/-- A chain of moves. -/
abbrev Moves : State → State → Prop := Relation.ReflTransGen Move

/-- What every move keeps, a chain of moves keeps. -/
theorem Moves.keeps {P : State → Prop} (h : ∀ s t, Move s t → P s → P t) {s t : State} (hm : Moves s t)
    (hs : P s) : P t := by
  induction hm with
  | refl => exact hs
  | tail _ hb ih => exact h _ _ hb ih

theorem Move.moves {s t : State} (h : Move s t) : Moves s t := .single h

/-! ### What the moves of the frost monitor leave -/

/-- A monitor that takes a report of a role other than WITHDRAWN is not suspended (R117). -/
theorem State.changeRole_active (cause : RoleCause) {new : Role} (drained : Bool) (s : State)
    (h : new ≠ .withdrawn) : (s.changeRole cause new drained).cfm.suspended = false := by
  simp [State.changeRole, State.reportRole, State.cfmReport, Fde.enter, h]

/-- A monitor that is not suspended is not suspended by its own change of state (R116). -/
theorem State.setFrost_active (new : FrostState) {s : State} (h : s.cfm.suspended = false) :
    (s.setFrost new).cfm.suspended = false := by
  unfold State.setFrost State.frostRole
  split
  · exact State.changeRole_active _ _ _ (by simp)
  · split
    · exact State.changeRole_active _ _ _ (by simp)
    · simpa using h

theorem State.evaluate_active (set : ScanSet) {s : State} (h : s.cfm.suspended = false) :
    (s.evaluate set).cfm.suspended = false := by
  unfold State.evaluate
  split
  · exact State.setFrost_active _ (by simpa [Cfm.trip] using h)
  · split
    · split
      · exact State.setFrost_active _ (by simpa using h)
      · exact h
    · unfold State.watchGuard
      split
      · simpa using h
      · split
        · exact State.setFrost_active _ (by simpa using h)
        · exact h
    · split
      · exact State.setFrost_active _ (by simpa using h)
      · exact h
    · exact h

end Sys2Proof.Machine
end

section
/-! PROOFS. Chains of moves: what the commands that do not reach the line are made of. -/

namespace Sys2Proof.Machine

/-! ### Events and expiries -/

theorem Moves.countCadenceIf (b : Bool) (s : State) : Moves s (s.countCadenceIf b) := by
  cases b with
  | false => exact .refl
  | true => exact (Move.countCadence s).moves

theorem Moves.withCycleEnd {act : State → State} {s : State} (h : Moves s (act s)) :
    Moves s (s.withCycleEnd act) := h.trans (Moves.countCadenceIf _ _)

/-- A due expiry is the timer's part, then its owner's (R156). -/
theorem Moves.takeExpiry {id : TimerId} {owner : State → State} {s : State}
    (h : Moves (s.expire id) (owner (s.expire id))) : Moves s (s.takeExpiry id owner) := by
  unfold State.takeExpiry
  split
  · exact (Move.expire id s).moves.trans h
  · exact .refl

/-- A single-pass timer does not run after its expiry (R156). -/
theorem State.expire_running {id : TimerId} (h : id.repeating = false) (s : State) :
    ((s.expire id).timer id).running = false := by
  simp [State.timer_expire, Timer.expire, h]

/-! ### The role machine -/

theorem State.fccReport_setColdJoin (s : State) : s.setColdJoin.fccReport = s.fccReport.setColdJoin := by
  have role : s.setColdJoin.fde.role = s.fde.role := rfl
  have fans : ∀ f, s.setColdJoin.setFcc f = (s.setFcc f).setColdJoin := fun _ => rfl
  have start : ∀ u : State, u.setColdJoin.startTimer .exer = (u.startTimer .exer).setColdJoin := fun _ => rfl
  unfold State.fccReport State.startIf
  simp only [role, State.setColdJoin_fcc, fans, start]
  split <;> rfl

theorem State.suspend_setColdJoin (s : State) : s.setColdJoin.suspend = s.suspend.setColdJoin := by
  have record : s.setColdJoin.suspendCfm = s.suspendCfm.setColdJoin := rfl
  have timers : ∀ u : State, u.setColdJoin.stopFrostTimers = u.stopFrostTimers.setColdJoin := fun _ => rfl
  have alerts : ∀ u : State, u.setColdJoin.frostAlerts = u.frostAlerts.setColdJoin := fun _ => rfl
  have valve : ∀ u : State, u.setColdJoin.frostValve = u.frostValve.setColdJoin := fun _ => rfl
  unfold State.suspend
  rw [record, timers, alerts, valve]

theorem State.cfmReport_setColdJoin (s : State) : s.setColdJoin.cfmReport = s.cfmReport.setColdJoin := by
  have role : s.setColdJoin.fde.role = s.fde.role := rfl
  have drained : s.setColdJoin.fde.drained = s.fde.drained := rfl
  have resume : s.setColdJoin.resume = s.resume.setColdJoin := rfl
  unfold State.cfmReport
  simp only [role, drained, State.setColdJoin_cfm, State.suspend_setColdJoin, resume]
  split
  · split <;> rfl
  · rfl

/-- Cold-join stands apart from the reports of a role (R86, R94). -/
theorem State.reportRole_setColdJoin (s : State) : s.setColdJoin.reportRole = s.reportRole.setColdJoin := by
  have valve : s.setColdJoin.vdrReport = s.vdrReport.setColdJoin := rfl
  unfold State.reportRole
  rw [valve, State.fccReport_setColdJoin, State.cfmReport_setColdJoin]

theorem Moves.rotExpired (s : State) : Moves s s.rotExpired := by
  unfold State.rotExpired
  split
  · next h => exact (Move.rotateDue s h).moves
  · exact .refl

theorem Moves.warmExpired (s : State) : Moves s s.warmExpired := by
  unfold State.warmExpired
  split
  · next h =>
    rw [State.reportRole_setColdJoin]
    exact (Move.changeRole .warmExpiry .carrying false s (by simp [h])).moves.tail
      (Move.coldJoin _ (by simp [State.changeRole, Fde.enter]))
  · exact .refl

theorem Moves.shedExpired (s : State) : Moves s s.shedExpired := by
  unfold State.shedExpired
  split
  · next h => exact (Move.changeRole .shedExpiry .resting false s (by simp [h])).moves
  · split
    · next h => exact (Move.changeRole .shedExpiry .shedding false s (by simp [h])).moves
    · exact .refl

/-- The role that a restore enters is PROTECT where the frost state forces (R102). -/
theorem restoredRole_of_forces {f : FrostState} (h : f.forces = true) : restoredRole f = .protect := by
  cases f <;> simp_all [FrostState.forces, restoredRole]

theorem Moves.takeLevels (withdraw drained : Bool) (s : State) : Moves s (s.takeLevels withdraw drained) := by
  unfold State.takeLevels
  split
  · split
    · exact (Move.changeRole .withdraw .withdrawn drained s (fun _ _ => .inr rfl)).moves
    · next h =>
      split
      · exact (Move.drain drained s (not_not.1 h)).moves
      · exact .refl
  · split
    · exact (Move.changeRole .restore _ false s (fun h _ => .inl (restoredRole_of_forces h))).moves
    · exact .refl

/-! ### The frost monitor -/

theorem Moves.guardExpired {s : State} (h : (s.timer .guard).running = false) : Moves s s.guardExpired := by
  unfold State.guardExpired
  split
  · next hf =>
    split
    · exact (Move.releaseGuard s hf).moves
    · exact (Move.holdGuard s hf h).moves
  · exact .refl

theorem Moves.protExpired {s : State} (h : (s.timer .prot).running = false) : Moves s s.protExpired := by
  unfold State.protExpired
  split
  · next hf =>
    split
    · exact (Move.enterRecover s hf (.inl h)).moves
    · exact (Move.holdProtect s hf h).moves
  · exact .refl

theorem Moves.recovExpired {s : State} (h : (s.timer .recov).running = false) : Moves s s.recovExpired := by
  unfold State.recovExpired
  split
  · next hf => exact (Move.endRecover s hf h).moves
  · exact .refl

theorem Moves.stagExpired (s : State) : Moves s s.stagExpired := by
  unfold State.stagExpired
  split
  · exact .refl
  · next h =>
    obtain ⟨frost, active⟩ := not_or.1 h
    exact (Move.enterProtect _ s frost (by simpa using active)).moves

theorem Moves.evaluate (set : ScanSet) {s : State} (active : s.cfm.suspended = false) :
    Moves s (s.evaluate set) := by
  unfold State.evaluate
  split
  · next h =>
    refine (Move.enterProtect _ s (fun hp => h ?_) active).moves
    rw [hp]; rfl
  · split
    · next hf =>
      split
      · exact (Move.enterGuard s hf active).moves
      · exact .refl
    · next hf =>
      unfold State.watchGuard
      split
      · exact (Move.extendGuard s hf).moves
      · split
        · exact (Move.releaseGuard s hf).moves
        · exact .refl
    · next hf =>
      split
      · next h => exact (Move.enterRecover s hf (.inr h.1)).moves
      · exact .refl
    · exact .refl

theorem Moves.watchFlow (set : ScanSet) {s : State} (active : s.cfm.suspended = false) :
    Moves s (s.watchFlow set) := by
  have started := (Move.startStag s active).moves
  unfold State.watchFlow State.startIf
  split
  · exact started
  · split
    · exact started
    · exact .refl

theorem Moves.frostScan (set : ScanSet) (s : State) : Moves s (s.frostScan set) := by
  unfold State.frostScan
  split
  · exact .refl
  · next h =>
    have active : s.cfm.suspended = false := by simpa using h
    exact (Moves.evaluate set active).trans (Moves.watchFlow set (State.evaluate_active set active))

/-! ### The valve and the sensors -/

/-- A scan completion checks the travel and takes the flow weight; the command and the reports stand
(R146 to R149). -/
theorem Vdr.scan_eq (p : Params) (vf : Published) (v : Vdr) :
    (v.scan p vf).command = v.command ∧ (v.scan p vf).role = v.role ∧ (v.scan p vf).drained = v.drained
      ∧ (v.scan p vf).frost = v.frost ∧ (v.scan p vf).fansAtRest = v.fansAtRest
      ∧ (v.scan p vf).allotmentReceived = v.allotmentReceived := by
  unfold Vdr.scan Vdr.flowScan Vdr.checkScan
  by_cases hok : vf.ok = true
  · simp only [hok, if_true]
    repeat' split
    all_goals simp
  · simp [hok]

theorem Moves.valveScan (set : ScanSet) (s : State) : Moves s (s.valveScan set) := by
  obtain ⟨command, role, drained, frost, rest, received⟩ := Vdr.scan_eq s.params set.vf s.vdr
  exact (Move.checkValve _ s command role drained frost rest received).moves

theorem Moves.declareStuck (s : State) : Moves s s.declareStuck :=
  (Move.checkValve { s.vdr with stuck := true } s rfl rfl rfl rfl rfl rfl).moves

theorem Moves.completeScan (valveFirst : Bool) (s : State) : Moves s (s.completeScan valveFirst) := by
  have judged : Moves s s.judgeScan.reportSensors :=
    (Move.judgeSensors (s.ssc.complete s.params.channels) s).moves
  unfold State.completeScan
  split
  · next set _ =>
    refine judged.trans ?_
    unfold State.raiseScan
    split
    · exact (Moves.valveScan set _).trans (Moves.frostScan set _)
    · exact (Moves.frostScan set _).trans (Moves.valveScan set _)
  · exact judged

/-- A conversion stores a raw code alone (R46). -/
theorem Ssc.convert_eq (k : Fin 8) (code : BitVec 12) (c : Ssc) :
    (∀ i : Fin 7, (c.convert k code).channels[i].failed = c.channels[i].failed)
      ∧ (c.convert k code).fault = c.fault := by
  unfold Ssc.convert
  dsimp only
  split
  · refine ⟨fun i => ?_, rfl⟩
    simp only [Fin.getElem_fin, Vector.getElem_set]
    split
    · next h => simp [h]
    · rfl
  · exact ⟨fun _ => rfl, rfl⟩

/-! ### The fans -/

theorem State.fansAllowed_of_idles {f : Fcc} {s : State} (h : s.fcc.Each FanChannel.Idles f) :
    s.FansAllowed f := fun _ _ => h

theorem Moves.calmFans {f : Fcc} {s : State} (h : s.fcc.Each FanChannel.Calm f) : Moves s (s.setFcc f) :=
  (Move.fans f s (State.fansAllowed_of_idles h.idles) h.sameIced).moves

theorem Moves.exercise (s : State) : Moves s s.exercise := by
  unfold State.exercise
  split
  · next h =>
    exact (Move.still _ s (fun _ hr => by simp [h] at hr) (Fcc.sameIced_exercise _ _)
      (Fcc.sameTurning_exercise _ _)).moves
  · exact .refl

theorem Moves.iceExpired (s : State) : Moves s s.iceExpired := by
  unfold State.iceExpired
  split
  · next h =>
    exact (Move.stillIced _ s (fun hf _ => by simp [h.2.1, FrostState.forces] at hf)
      (Fcc.sameTurning_iceRetry _)).moves
  · exact .refl

theorem Moves.fanReset (s : State) : Moves s s.fanReset :=
  (Move.stillIced _ s (State.fansAllowed_of_idles (Fcc.idles_fanReset _)) (Fcc.sameTurning_fanReset _)).moves

/-! ### Orders and the ORD -/

theorem Moves.ordExpired (s : State) : Moves s s.ordExpired := by
  unfold State.ordExpired
  split
  · next h => exact (Move.panelSilent true s (fun _ => h)).moves
  · exact .refl

theorem Moves.takeEdges (o : Order) (s : State) : Moves s (s.takeEdges o) := by
  have reset : Moves s (s.takeFanReset o) := by
    unfold State.takeFanReset
    split
    · exact Moves.fanReset s
    · exact .refl
  have exercised : ∀ s : State, Moves s (s.takeExercise o) := by
    intro s
    unfold State.takeExercise
    split
    · exact Moves.exercise s
    · exact .refl
  have cleared : ∀ s : State, Moves s (s.takeClear o) := by
    intro s
    unfold State.takeClear
    split
    · exact (Move.clearAlerts _ s).moves
    · exact .refl
  exact (reset.trans (exercised _)).trans (cleared _)

theorem Moves.takeOrder (o : Order) (s : State) : Moves s (s.takeOrder o) := by
  have noted : Moves s s.noteOrder :=
    ((Move.startTimer .ord s (.inr (.inr rfl))).moves.tail
      (Move.panelSilent false _ (by simp))).tail (Move.order _ _ fun _ => rfl)
  have settings : Moves s.noteOrder (s.noteOrder.takeSettings o) :=
    (Move.order (s.noteOrder.ord.applySettings o) _ id).moves
  have levels : ∀ s : State, Moves s (s.takeWithdraw o) := fun s =>
    (Move.order (s.holdLevels o).ord s id).moves.trans (Moves.takeLevels _ _ (s.holdLevels o))
  exact (((noted.trans settings).trans (levels _)).trans (Moves.takeEdges o _)).tail (Move.order _ _ id)

/-! ### Commands -/

/-- The commands that reach the line, the load or the reset; the others are made of moves. -/
def reachesLine : Instr → Bool
  | .resetRelease _ _ | .configurationLoadCompletion _ _ | .frameStartDetected _ | .frameCompletion _ _
  | .ownSlotStart _ | .transmitInstant _ _ | .transmitReadbackMismatch _ | .cleanTransmission _
  | .listenWindowEndInSilence _ | .cycleEnd _ _ | .ageingMark _ | .readRequest _ | .resetAsserted
  | .strayCharacter _ => true
  | .sclHoldTimeout _ | .travelTimeReached | .allotmentIssued _ | .channelConversion _ _ | .scanCompletion _
  | .tRotExpiry | .tWarmExpiry | .tShedExpiry | .tExerExpiry | .tIceExpiry | .tGuardExpiry | .tProtExpiry
  | .tRecovExpiry | .tStagExpiry | .tOrdExpiry | .fanInterval | .spinUpWindowEnd | .kickPhaseEnd
  | .checkWindowEnd | .exerciseRunEnd _ | .tachMeasurementCompletion _ | .clearRequest
  | .serviceCharacterDropped _ _ | .serviceRequestTimeout | .serviceQuietEnd | .serviceResponseEnd
  | .serviceRequestCharacter _ => false

/-- The read of the image leaves the defaults flag (R174, R175). -/
theorem Cfl.read_defaults (bytes : List Byte) (c : Cfl) : (c.read bytes).defaults = c.defaults := by
  have one : ∀ (c : Cfl) b, (c.readByte b).defaults = c.defaults := by
    intro c b
    unfold Cfl.readByte
    dsimp only
    repeat' split
    all_goals rfl
  unfold Cfl.read
  induction bytes generalizing c with
  | nil => rfl
  | cons b bytes ih => exact (ih _).trans (one c b)

theorem exec_moves {c : Instr} {s t : State} (hc : reachesLine c = false) (he : exec c s = .next t) :
    Moves s t := by
  cases c <;> simp only [reachesLine, Bool.true_eq_false] at hc <;> simp only [exec] at he
  case sclHoldTimeout bytes =>
    unfold execSclHoldTimeout at he
    split at he
    · cases he
      refine (Move.readImage _ s ?_).moves
      split <;> exact Cfl.read_defaults bytes s.cfl
    · cases he; exact .refl
  case travelTimeReached =>
    unfold execTravelTimeReached at he
    split at he
    · cases he; exact Moves.withCycleEnd (Moves.declareStuck s)
    · cases he; exact .refl
  case allotmentIssued vf =>
    unfold execAllotmentIssued at he
    split at he
    · next l h => cases he; exact (Move.issue vf l s h).moves
    · cases he; exact .refl
  case channelConversion k code =>
    unfold execChannelConversion at he
    split at he
    · cases he
      obtain ⟨failed, fault⟩ := Ssc.convert_eq k code s.ssc
      exact (Move.convert _ s failed fault).moves
    · cases he; exact .refl
  case scanCompletion vf =>
    unfold execScanCompletion at he
    split at he
    · cases he; exact Moves.completeScan vf s
    · cases he; exact .refl
  case tRotExpiry => cases he; exact Moves.takeExpiry (Moves.rotExpired _)
  case tWarmExpiry => cases he; exact Moves.takeExpiry (Moves.warmExpired _)
  case tShedExpiry => cases he; exact Moves.takeExpiry (Moves.shedExpired _)
  case tExerExpiry => cases he; exact Moves.takeExpiry (Moves.exercise _)
  case tIceExpiry => cases he; exact Moves.takeExpiry (Moves.iceExpired _)
  case tGuardExpiry => cases he; exact Moves.takeExpiry (Moves.guardExpired (State.expire_running rfl s))
  case tProtExpiry => cases he; exact Moves.takeExpiry (Moves.protExpired (State.expire_running rfl s))
  case tRecovExpiry => cases he; exact Moves.takeExpiry (Moves.recovExpired (State.expire_running rfl s))
  case tStagExpiry => cases he; exact Moves.takeExpiry (Moves.withCycleEnd (Moves.stagExpired _))
  case tOrdExpiry => cases he; exact Moves.takeExpiry (Moves.withCycleEnd (Moves.ordExpired _))
  case fanInterval =>
    unfold execFanInterval at he
    split at he
    · cases he; exact Moves.calmFans (Fcc.calm_interval _ _ _)
    · cases he; exact .refl
  case spinUpWindowEnd =>
    cases he
    exact Moves.calmFans (Fcc.each_endPhase .refl fun i hi =>
      Fcc.calm_startKick (by simp [FanChannel.inHand, hi]))
  case kickPhaseEnd =>
    cases he
    exact Moves.calmFans (Fcc.each_endPhase .refl fun i _ => Fcc.calm_startCheck _ _ i)
  case checkWindowEnd =>
    cases he
    exact (Move.fansIced _ s (State.fansAllowed_of_idles (Fcc.each_endPhase .refl fun i hi =>
      Fcc.idles_failWindow _ _ hi))).moves
  case exerciseRunEnd i => cases he; exact Moves.calmFans (Fcc.calm_endExercise _ _ i)
  case tachMeasurementCompletion edges =>
    unfold execTachMeasurementCompletion at he
    split at he
    · cases he
      exact (Moves.calmFans (Fcc.calm_tach _ _ _ _ _)).tail (Move.spend _ _)
    · cases he; exact .refl
  case clearRequest =>
    unfold execClearRequest at he
    split at he
    · cases he; exact (Move.clearAlerts _ s).moves.tail (Move.port _ _ fun _ => Svp.sound_answerOne _ _)
    · cases he; exact .refl
  case serviceCharacterDropped b f =>
    unfold execServiceCharacterDropped at he
    split at he
    · cases he; exact (Move.port _ s fun h => h.drop b f).moves
    · cases he; exact .refl
  case serviceRequestTimeout =>
    unfold execServiceRequestTimeout at he
    split at he
    · cases he; exact (Move.port _ s fun _ => Svp.sound_of_empty (by simp) rfl).moves
    · cases he; exact .refl
  case serviceQuietEnd =>
    unfold execServiceQuietEnd at he
    split at he
    · next port =>
      cases he
      exact .single (.port _ s fun h => Svp.sound_of_empty (by simp) (h.empty (by simp [port])))
    · cases he; exact .refl
  case serviceResponseEnd =>
    unfold execServiceResponseEnd at he
    split at he
    · next port =>
      cases he
      exact .single (.port _ s fun h => Svp.sound_of_empty (by simp) (h.empty (by simp [port])))
    · cases he; exact .refl
  case serviceRequestCharacter b =>
    unfold execServiceRequestCharacter at he
    split at he
    · cases he; exact (Move.port _ s fun h => h.take b).moves
    · cases he; exact .refl

/-- No move reaches the line, the table, the straps, the parameters or the load. -/
theorem Move.frame {s t : State} (h : Move s t) :
    t.lsc = s.lsc ∧ t.btb = s.btb ∧ t.straps = s.straps ∧ t.params = s.params
      ∧ t.released = s.released ∧ t.loaded = s.loaded := by
  cases h <;> simp

theorem Moves.frame {s t : State} (h : Moves s t) :
    t.lsc = s.lsc ∧ t.btb = s.btb ∧ t.straps = s.straps ∧ t.params = s.params
      ∧ t.released = s.released ∧ t.loaded = s.loaded := by
  refine Moves.keeps (P := fun u => u.lsc = s.lsc ∧ u.btb = s.btb ∧ u.straps = s.straps
    ∧ u.params = s.params ∧ u.released = s.released ∧ u.loaded = s.loaded) (fun u v huv hu => ?_) h
    ⟨rfl, rfl, rfl, rfl, rfl, rfl⟩
  obtain ⟨h1, h2, h3, h4, h5, h6⟩ := huv.frame
  obtain ⟨g1, g2, g3, g4, g5, g6⟩ := hu
  exact ⟨h1.trans g1, h2.trans g2, h3.trans g3, h4.trans g4, h5.trans g5, h6.trans g6⟩

end Sys2Proof.Machine
end

section
/-! PROOFS. The valve command: where a report or an allotment puts it (R142, R143), and its range (R141). -/

namespace Sys2Proof.Machine

/-! ### The parameters that bound the command -/

theorem Params.InRange.guardOpening_le {p : Params} (h : p.InRange) : p.guardOpening ≤ 1000 := by
  obtain ⟨-, -, -, -, -, -, -, -, -, -, -, -, -, -, -, -, -, -, -, -, -, -, -, -, -, hg, -⟩ := h
  exact hg

theorem Params.InRange.trickleOpening_le {p : Params} (h : p.InRange) : p.trickleOpening ≤ 500 := by
  obtain ⟨-, -, -, -, -, -, -, -, -, -, -, -, -, -, -, -, -, -, -, -, -, -, -, -, -, -, ht, -⟩ := h
  exact ht.2

theorem minOpening_le {p : Params} (h : p.InRange) (f : FrostState) : minOpening p f ≤ 1000 := by
  have hg := h.guardOpening_le
  have ht := h.trickleOpening_le
  unfold minOpening
  split
  · exact Nat.max_le.2 ⟨hg, by omega⟩
  · omega

theorem trickleOpening_le_minOpening (p : Params) (f : FrostState) : p.trickleOpening ≤ minOpening p f := by
  unfold minOpening
  split
  · exact Nat.le_max_right _ _
  · exact Nat.le_refl _

theorem State.leastOpening_eq (s : State) : s.leastOpening = minOpening s.params s.cfm.frost := rfl

/-! ### Where the command stands -/

/-- A command stands where R142 puts it for the role, drained mark and frost state last reported. -/
def Vdr.PlacedAt (p : Params) (v : Vdr) (command : Nat) : Prop :=
  (v.frost.forces = true → command = 1000)
    ∧ (v.frost.forces = false →
      (v.role = .init ∨ v.role = .carrying ∨ v.role = .protect → command = 1000)
        ∧ (v.role = .warming ∨ v.role = .shedding → minOpening p v.frost ≤ command)
        ∧ (v.role = .resting → command = minOpening p v.frost)
        ∧ (v.role = .withdrawn → command = if v.drained then 0 else minOpening p v.frost))

/-- The command in force stands where R142 puts it. -/
def Vdr.Placed (p : Params) (v : Vdr) : Prop := v.PlacedAt p v.command

/-- A command placed for what one record was told is placed in a record that takes it and was told the
same. -/
theorem Vdr.PlacedAt.placed {p : Params} {v w : Vdr} {c : Nat} (h : v.PlacedAt p c)
    (command : w.command = c) (role : w.role = v.role) (drained : w.drained = v.drained)
    (frost : w.frost = v.frost) : w.Placed p := by
  unfold Vdr.Placed Vdr.PlacedAt
  rwa [command, role, drained, frost]

/-- A command that is placed stands at the trickle opening or above it, but in a drained withdrawal
(R142). -/
theorem Vdr.Placed.trickle_le {p : Params} {v : Vdr} (h : v.Placed p) (hp : p.InRange)
    (hd : ¬ (v.role = .withdrawn ∧ v.drained = true)) : p.trickleOpening ≤ v.command := by
  have least := trickleOpening_le_minOpening p v.frost
  have ht := hp.trickleOpening_le
  obtain ⟨forced, free⟩ := h
  cases hf : v.frost.forces with
  | true => have := forced hf; omega
  | false =>
    obtain ⟨wide, above, rest, withdrawn⟩ := free hf
    cases hr : v.role with
    | init => have := wide (.inl hr); omega
    | carrying => have := wide (.inr (.inl hr)); omega
    | protect => have := wide (.inr (.inr hr)); omega
    | warming => have := above (.inl hr); omega
    | shedding => have := above (.inr hr); omega
    | resting => have := rest hr; omega
    | withdrawn =>
      have := withdrawn hr
      have dry : v.drained = false := by simpa [hr] using hd
      simp only [dry, Bool.false_eq_true, if_false] at this
      omega

/-- The target is in its place (R142). -/
theorem Vdr.target_placed {p : Params} (hp : p.InRange) (v : Vdr) : v.PlacedAt p (v.target p) := by
  have least := minOpening_le hp v.frost
  unfold Vdr.PlacedAt Vdr.target
  cases hf : v.frost <;> cases hr : v.role <;> simp_all [FrostState.forces]
  all_goals split <;> simp [least]

/-- What a report settles is in its place (R143). -/
theorem Vdr.settled_placed {p : Params} (hp : p.InRange) (before : Role) (v : Vdr) :
    v.PlacedAt p (v.settled p before) := by
  have least := minOpening_le hp v.frost
  have target := Vdr.target_placed hp v
  unfold Vdr.PlacedAt Vdr.settled at *
  cases hf : v.frost <;> cases hr : v.role <;> simp_all [FrostState.forces]
  all_goals split <;> simp [least]

/-- What an allotment steps to is in its place (R143). -/
theorem Vdr.stepped_placed {p : Params} (hp : p.InRange) (v : Vdr) : v.PlacedAt p (v.stepped p) := by
  have least := minOpening_le hp v.frost
  have target := Vdr.target_placed hp v
  unfold Vdr.PlacedAt Vdr.stepped at *
  cases hf : v.frost <;> cases hr : v.role <;> simp_all [FrostState.forces]
  all_goals split <;> simp [least]

/-! ### The range of the command (R141) -/

theorem Vdr.target_le {p : Params} (hp : p.InRange) (v : Vdr) : v.target p ≤ 1000 := by
  have least := minOpening_le hp v.frost
  unfold Vdr.target
  repeat' split
  all_goals simp_all

theorem Vdr.settled_le {p : Params} (hp : p.InRange) (before : Role) {v : Vdr} (hv : v.command ≤ 1000) :
    v.settled p before ≤ 1000 := by
  have least := minOpening_le hp v.frost
  have target := Vdr.target_le hp v
  unfold Vdr.settled
  repeat' split
  all_goals simp_all

theorem Vdr.stepped_le {p : Params} (hp : p.InRange) {v : Vdr} (hv : v.command ≤ 1000) :
    v.stepped p ≤ 1000 := by
  have least := minOpening_le hp v.frost
  have target := Vdr.target_le hp v
  unfold Vdr.stepped
  repeat' split
  all_goals simp_all <;> omega

theorem Vdr.act_le {p : Params} (hp : p.InRange) (before : Role) {v : Vdr} (hv : v.command ≤ 1000) :
    (v.act p before).command ≤ 1000 := by
  rw [(Vdr.act_eq p before v).1]
  split
  · exact Vdr.settled_le hp before hv
  · exact hv

/-! ### Reports and allotments -/

/-- A role or drained report, after which the command is placed once an allotment was received (R86,
R143). -/
theorem Vdr.roleReport_eq (p : Params) (r : Role) (d : Bool) (v : Vdr) :
    (v.roleReport p r d).role = r ∧ (v.roleReport p r d).drained = d
      ∧ (v.roleReport p r d).frost = v.frost ∧ (v.roleReport p r d).fansAtRest = v.fansAtRest
      ∧ (v.roleReport p r d).allotmentReceived = v.allotmentReceived
      ∧ (v.roleReport p r d).stuck = v.stuck := by
  obtain ⟨-, role, drained, frost, rest, received, stuck, -⟩ :=
    Vdr.act_eq p v.role { v with role := r, drained := d }
  exact ⟨role, drained, frost, rest, received, stuck⟩

/-- A frost report (R113, R114, R143). -/
theorem Vdr.frostReport_eq (p : Params) (f : FrostState) (v : Vdr) :
    (v.frostReport p f).role = v.role ∧ (v.frostReport p f).drained = v.drained
      ∧ (v.frostReport p f).frost = f ∧ (v.frostReport p f).fansAtRest = v.fansAtRest
      ∧ (v.frostReport p f).allotmentReceived = v.allotmentReceived
      ∧ (v.frostReport p f).stuck = v.stuck := by
  obtain ⟨-, role, drained, frost, rest, received, stuck, -⟩ :=
    Vdr.act_eq p v.role { v with frost := f }
  exact ⟨role, drained, frost, rest, received, stuck⟩

/-- An allotment issued (R141, R143). -/
theorem Vdr.allotment_eq (p : Params) (r : Role) (d : Bool) (v : Vdr) :
    (v.allotment p r d).role = r ∧ (v.allotment p r d).drained = d
      ∧ (v.allotment p r d).frost = v.frost ∧ (v.allotment p r d).fansAtRest = v.fansAtRest
      ∧ (v.allotment p r d).allotmentReceived = true ∧ (v.allotment p r d).stuck = v.stuck := by
  obtain ⟨-, role, drained, frost, rest, received, stuck, -⟩ :=
    Vdr.setCommand_eq p (Vdr.stepped p { v with role := r, drained := d, allotmentReceived := true })
      { v with role := r, drained := d, allotmentReceived := true }
  exact ⟨role, drained, frost, rest, received, stuck⟩

/-- A report acted on places the command; before the first allotment the command stands (R141, R143). -/
theorem Vdr.act_placed {p : Params} (hp : p.InRange) (before : Role) (v : Vdr) :
    ((v.act p before).allotmentReceived = true → (v.act p before).Placed p)
      ∧ ((v.act p before).allotmentReceived = false → (v.act p before).command = v.command) := by
  obtain ⟨command, role, drained, frost, -, received, -⟩ := Vdr.act_eq p before v
  rw [received]
  refine ⟨fun h => ?_, fun h => by simp [command, h]⟩
  rw [if_pos h] at command
  exact (Vdr.settled_placed hp before v).placed command role drained frost

theorem Vdr.roleReport_placed {p : Params} (hp : p.InRange) (r : Role) (d : Bool) (v : Vdr) :
    ((v.roleReport p r d).allotmentReceived = true → (v.roleReport p r d).Placed p)
      ∧ ((v.roleReport p r d).allotmentReceived = false → (v.roleReport p r d).command = v.command) :=
  Vdr.act_placed hp v.role { v with role := r, drained := d }

theorem Vdr.frostReport_placed {p : Params} (hp : p.InRange) (f : FrostState) (v : Vdr) :
    ((v.frostReport p f).allotmentReceived = true → (v.frostReport p f).Placed p)
      ∧ ((v.frostReport p f).allotmentReceived = false → (v.frostReport p f).command = v.command) :=
  Vdr.act_placed hp v.role { v with frost := f }

theorem Vdr.roleReport_le {p : Params} (hp : p.InRange) (r : Role) (d : Bool) {v : Vdr}
    (hv : v.command ≤ 1000) : (v.roleReport p r d).command ≤ 1000 :=
  Vdr.act_le hp v.role (v := { v with role := r, drained := d }) hv

theorem Vdr.frostReport_le {p : Params} (hp : p.InRange) (f : FrostState) {v : Vdr}
    (hv : v.command ≤ 1000) : (v.frostReport p f).command ≤ 1000 :=
  Vdr.act_le hp v.role (v := { v with frost := f }) hv

theorem Vdr.allotment_placed {p : Params} (hp : p.InRange) (r : Role) (d : Bool) (v : Vdr) :
    (v.allotment p r d).Placed p := by
  obtain ⟨command, role, drained, frost, -⟩ :=
    Vdr.setCommand_eq p (Vdr.stepped p { v with role := r, drained := d, allotmentReceived := true })
      { v with role := r, drained := d, allotmentReceived := true }
  exact (Vdr.stepped_placed hp _).placed command role drained frost

theorem Vdr.allotment_le {p : Params} (hp : p.InRange) (r : Role) (d : Bool) {v : Vdr}
    (hv : v.command ≤ 1000) : (v.allotment p r d).command ≤ 1000 := by
  have command := (Vdr.setCommand_eq p
    (Vdr.stepped p { v with role := r, drained := d, allotmentReceived := true })
    { v with role := r, drained := d, allotmentReceived := true }).1
  exact command.trans_le (Vdr.stepped_le hp hv)

end Sys2Proof.Machine
end

section
/-! PROOFS. The coil: what the frost state, the valve, the fans and the role keep between them (R85, R86, R113 to
R117, R141 to R143). `CoilReady` is what holds before the VDR and the CFM take a report, `CoilTold` before the
CFM takes it, `CoilSound` between two commands. -/

namespace Sys2Proof.Machine

/-- What holds of frost state, fans, role and parameters while a change of role is still to be reported. -/
structure CoilReady (s : State) : Prop where
  frost : s.vdr.frost = s.cfm.frost
  rest : s.vdr.fansAtRest = !s.fcc.anyTurning
  early : s.vdr.allotmentReceived = false → s.vdr.command = 1000
  clear : s.cfm.suspended = true → s.cfm.frost = .clear
  idle : s.cfm.frost.forces = true → ∀ i, (s.fcc.channel i).inHand = false
  flags : FlagsOfRole s
  ranges : RangesSound s

/-- What holds once the VDR has taken the report of role and drained mark. -/
structure CoilTold (s : State) : Prop extends CoilReady s where
  role : s.cfm.frost.forces = true → s.fde.role = .protect ∨ s.fde.role = .withdrawn
  toldRole : s.vdr.role = s.fde.role
  toldDrained : s.vdr.drained = s.fde.drained
  placed : s.vdr.allotmentReceived = true → s.vdr.Placed s.params

/-- What holds between two commands. -/
structure CoilSound (s : State) : Prop extends CoilTold s where
  suspension : s.cfm.suspended = true ↔ s.fde.role = .withdrawn ∧ s.fde.drained = true

/-- `CoilSound` is what the Safety predicates of the coil say together. -/
theorem coilSound_iff (s : State) :
    CoilSound s ↔ CoilProtected s ∧ FlagsOfRole s ∧ CommandHeld s ∧ RangesSound s := by
  constructor
  · intro h
    obtain ⟨hp, hc⟩ := h.ranges
    refine ⟨⟨⟨h.toldRole, h.toldDrained, h.frost, h.rest⟩, ⟨h.suspension, h.clear⟩,
      fun hf => ⟨h.idle hf, h.role hf⟩, ?_⟩, h.flags, ⟨hp.trickleOpening_le, ?_, ?_⟩, h.ranges⟩
    · intro hf
      cases hr : s.vdr.allotmentReceived with
      | false => exact h.early hr
      | true =>
        have forces : s.vdr.frost.forces = true := by simpa [hr, h.frost] using hf
        exact (h.placed hr).1 forces
    · intro hr hf
      have free := (h.placed hr).2 (by simpa [h.frost] using hf)
      rwa [h.toldRole, h.toldDrained, h.frost] at free
    · intro hr hd
      exact (h.placed hr).trickle_le hp (by rwa [h.toldRole, h.toldDrained])
  · rintro ⟨⟨⟨toldRole, toldDrained, frost, rest⟩, ⟨suspension, clear⟩, forced, command⟩, flags,
      ⟨-, held, -⟩, ranges⟩
    refine ⟨⟨⟨frost, rest, fun hr => command (.inr hr), clear, fun hf => (forced hf).1, flags, ranges⟩,
      fun hf => (forced hf).2, toldRole, toldDrained, fun hr => ⟨fun hf => ?_, fun hf => ?_⟩⟩, suspension⟩
    · exact command (.inl (by rwa [frost] at hf))
    · rw [toldRole, toldDrained, frost]
      exact held hr (by rwa [frost] at hf)

/-! ### Changes that leave the coil alone -/

/-- `t` has the coil's own items as `s` has them; timers, pending marks and the other blocks may differ. -/
def SameCoil (s t : State) : Prop :=
  t.params = s.params ∧ t.fcc = s.fcc ∧ t.cfm.frost = s.cfm.frost ∧ t.cfm.suspended = s.cfm.suspended
    ∧ (t.fde.role = s.fde.role ∧ t.fde.restAge = s.fde.restAge ∧ t.fde.rotateDue = s.fde.rotateDue
      ∧ t.fde.coldJoin = s.fde.coldJoin ∧ t.fde.drained = s.fde.drained)
    ∧ t.vdr.command = s.vdr.command ∧ t.vdr.role = s.vdr.role ∧ t.vdr.drained = s.vdr.drained
    ∧ t.vdr.frost = s.vdr.frost ∧ t.vdr.fansAtRest = s.vdr.fansAtRest
    ∧ t.vdr.allotmentReceived = s.vdr.allotmentReceived

theorem CoilReady.congr {s t : State} (h : CoilReady s) (same : SameCoil s t) : CoilReady t := by
  obtain ⟨params, fcc, frost, suspended, ⟨role, restAge, rotateDue, coldJoin, drained⟩, command, -, -,
    vdrFrost, rest, received⟩ := same
  constructor
  · rw [vdrFrost, frost]; exact h.frost
  · rw [rest, fcc]; exact h.rest
  · rw [received, command]; exact h.early
  · rw [suspended, frost]; exact h.clear
  · rw [frost, fcc]; exact h.idle
  · have := h.flags; unfold FlagsOfRole at *; rwa [role, restAge, rotateDue, coldJoin, drained]
  · have := h.ranges; unfold RangesSound at *; rwa [params, command]

theorem CoilTold.congr {s t : State} (h : CoilTold s) (same : SameCoil s t) : CoilTold t := by
  have ready := h.toCoilReady.congr same
  obtain ⟨params, -, frost, -, ⟨role, -, -, -, drained⟩, command, vdrRole, vdrDrained, vdrFrost, -,
    received⟩ := same
  refine ⟨ready, ?_, ?_, ?_, ?_⟩
  · rw [frost, role]; exact h.role
  · rw [vdrRole, role]; exact h.toldRole
  · rw [vdrDrained, drained]; exact h.toldDrained
  · rw [received, params]
    exact fun hr => Vdr.PlacedAt.placed (h.placed hr) command vdrRole vdrDrained vdrFrost

theorem CoilSound.congr {s t : State} (h : CoilSound s) (same : SameCoil s t) : CoilSound t := by
  have told := h.toCoilTold.congr same
  obtain ⟨-, -, -, suspended, ⟨role, -, -, -, drained⟩, -⟩ := same
  exact ⟨told, by rw [suspended, role, drained]; exact h.suspension⟩

/-! ### The fans -/

/-- The FCC takes a value that the frost state allows, and reports (R115, R141). -/
theorem CoilReady.setFcc {s : State} (h : CoilReady s) {f : Fcc}
    (hand : s.cfm.frost.forces = true → s.fcc.Each FanChannel.Idles f) : CoilReady (s.setFcc f) where
  frost := h.frost
  rest := rfl
  early := h.early
  clear := h.clear
  idle hf i := Bool.eq_false_iff.2 fun hi => Bool.eq_false_iff.1 (h.idle hf i) (hand hf i hi)
  flags := h.flags
  ranges := h.ranges

theorem CoilTold.setFcc {s : State} (h : CoilTold s) {f : Fcc}
    (hand : s.cfm.frost.forces = true → s.fcc.Each FanChannel.Idles f) : CoilTold (s.setFcc f) :=
  ⟨h.toCoilReady.setFcc hand, h.role, h.toldRole, h.toldDrained, h.placed⟩

theorem CoilSound.setFcc {s : State} (h : CoilSound s) {f : Fcc} (hand : s.FansAllowed f) :
    CoilSound (s.setFcc f) :=
  ⟨h.toCoilTold.setFcc fun hf => hand hf (h.role hf), h.suspension⟩

/-- With the same channels turning, the value alone is what it is with its report (R141). -/
theorem CoilSound.still {s : State} (h : CoilSound s) {f : Fcc} (hand : s.FansAllowed f)
    (turning : s.fcc.Each FanChannel.SameTurning f) : CoilSound { s with fcc := f } := by
  refine (h.setFcc hand).congr ?_
  simp [SameCoil, State.setFcc, State.reportFans, h.rest, Fcc.anyTurning_of_same turning]

/-! ### Reports of a role (R86, R116, R117, R133) -/

/-- The VDR takes the report of role and drained mark; a forcing frost state must allow the role. -/
theorem CoilReady.vdrReport {s : State} (h : CoilReady s)
    (role : s.cfm.frost.forces = true → s.fde.role = .protect ∨ s.fde.role = .withdrawn) :
    CoilTold s.vdrReport := by
  obtain ⟨hp, hc⟩ := h.ranges
  obtain ⟨toldRole, toldDrained, frost, rest, received, -⟩ :=
    Vdr.roleReport_eq s.params s.fde.role s.fde.drained s.vdr
  obtain ⟨placed, stands⟩ := Vdr.roleReport_placed hp s.fde.role s.fde.drained s.vdr
  exact
    { frost := frost.trans h.frost
      rest := rest.trans h.rest
      early := fun hr => (stands hr).trans (h.early (received.symm.trans hr))
      clear := h.clear
      idle := h.idle
      flags := h.flags
      ranges := ⟨hp, Vdr.roleReport_le hp _ _ hc⟩
      role := role
      toldRole := toldRole
      toldDrained := toldDrained
      placed := placed }

/-- The FCC takes the report of role. -/
theorem CoilTold.fccReport {s : State} (h : CoilTold s) : CoilTold s.fccReport := by
  refine (h.setFcc fun _ => (Fcc.calm_roleReport s.fde.role s.fcc).idles).congr ?_
  unfold State.fccReport
  simp [SameCoil]

/-- The monitor is suspended: CLEAR, reported to the VDR (R116). -/
theorem CoilTold.suspend {s : State} (h : CoilTold s) : CoilTold s.suspend := by
  obtain ⟨hp, hc⟩ := h.ranges
  obtain ⟨toldRole, toldDrained, frost, rest, received, -⟩ := Vdr.frostReport_eq s.params .clear s.vdr
  obtain ⟨placed, stands⟩ := Vdr.frostReport_placed hp .clear s.vdr
  have le := Vdr.frostReport_le hp .clear hc
  constructor
  case toCoilReady =>
    constructor
    · simp [frost, Cfm.suspend]
    · simp [rest, h.rest]
    · simpa using fun hr => (stands hr).trans (h.early (received.symm.trans hr))
    · simp [Cfm.suspend]
    · simp [Cfm.suspend, FrostState.forces]
    · simpa [FlagsOfRole] using h.flags
    · exact ⟨by simpa using hp, by simpa using le⟩
  case role => simp [Cfm.suspend, FrostState.forces]
  case toldRole => simp [toldRole, h.toldRole]
  case toldDrained => simp [toldDrained, h.toldDrained]
  case placed => simpa using placed

/-- The CFM takes the report of role and drained mark: suspended exactly in a drained withdrawal. -/
theorem CoilTold.cfmReport {s : State} (h : CoilTold s) : CoilSound s.cfmReport := by
  unfold State.cfmReport
  split
  · next hw =>
    split
    · next hs => exact ⟨h, iff_of_true hs hw⟩
    · exact ⟨h.suspend, by simpa [Cfm.suspend] using hw⟩
  · next hw =>
    exact ⟨⟨⟨h.frost, h.rest, h.early, by simp, h.idle, h.flags, h.ranges⟩, h.role, h.toldRole,
      h.toldDrained, h.placed⟩, iff_of_false (by simp) hw⟩

/-- The role machine enters a role (R93). -/
theorem CoilReady.enterRole {s : State} (h : CoilReady s) (cause : RoleCause) (new : Role) (drained : Bool) :
    CoilReady (s.enterRole cause new drained) := by
  constructor
  · simpa using h.frost
  · simpa using h.rest
  · simpa using h.early
  · simpa using h.clear
  · simpa using h.idle
  · simp +contextual [FlagsOfRole, Fde.enter]
  · simpa [RangesSound] using h.ranges

/-- A change of role with its reports, to a role that a forcing frost state allows (R98). -/
theorem CoilReady.changeRole {s : State} (h : CoilReady s) (cause : RoleCause) {new : Role} (drained : Bool)
    (role : s.cfm.frost.forces = true → new = .protect ∨ new = .withdrawn) :
    CoilSound (s.changeRole cause new drained) :=
  ((h.enterRole cause new drained).vdrReport
    (by simpa [Fde.enter] using role)).fccReport.cfmReport

/-! ### Changes of the frost state (R98, R99, R113 to R115) -/

/-- A change of frost state, announced to the VDR and the FCC. -/
theorem CoilSound.announceFrost {s : State} (h : CoilSound s) {new : FrostState}
    (active : s.cfm.suspended = false) (recover : new = .recover → s.cfm.frost.forces = true) :
    CoilReady (s.announceFrost new) := by
  obtain ⟨hp, hc⟩ := h.ranges
  obtain ⟨-, -, frost, -, received, -⟩ := Vdr.frostReport_eq s.params new s.vdr
  obtain ⟨-, stands⟩ := Vdr.frostReport_placed hp new s.vdr
  have le := Vdr.frostReport_le hp new hc
  have forces : new.forces = true → new = .protect ∨ s.cfm.frost.forces = true := by
    cases new <;> simp_all [FrostState.forces]
  constructor
  · simp [State.announceFrost_vdr, frost]
  · simp [State.announceFrost_vdr]
  · simpa [State.announceFrost_vdr] using fun hr => (stands hr).trans (h.early (received.symm.trans hr))
  · simp [active]
  · intro hf i
    rw [State.announceFrost_fcc]
    rcases forces (by simpa using hf) with rfl | hs
    · exact Fcc.frostReport_protect_inHand _ _ i
    · exact Bool.eq_false_iff.2 fun hi =>
        Bool.eq_false_iff.1 (h.idle hs i) ((Fcc.calm_frostReport _ _ _ i).1 hi)
  · simpa [FlagsOfRole] using h.flags
  · exact ⟨by simpa using hp, by simpa [State.announceFrost_vdr] using le⟩

/-- A change of frost state that the role need not follow. -/
theorem CoilSound.announceFrost_sound {s : State} (h : CoilSound s) {new : FrostState}
    (active : s.cfm.suspended = false) (recover : new = .recover → s.cfm.frost.forces = true)
    (role : new.forces = true → s.fde.role = .protect ∨ s.fde.role = .withdrawn) :
    CoilSound (s.announceFrost new) := by
  obtain ⟨vdrRole, vdrDrained, frost, -, -, -⟩ := Vdr.frostReport_eq s.params new s.vdr
  obtain ⟨placed, -⟩ := Vdr.frostReport_placed h.ranges.1 new s.vdr
  refine ⟨⟨h.announceFrost active recover, ?_, ?_, ?_, ?_⟩, ?_⟩
  · simpa using role
  · simp [State.announceFrost_vdr, vdrRole, h.toldRole]
  · simp [State.announceFrost_vdr, vdrDrained, h.toldDrained]
  · simp only [State.announceFrost_vdr, State.announceFrost_frame]
    exact fun hr => Vdr.PlacedAt.placed (placed hr) rfl rfl rfl rfl
  · simpa using h.suspension

/-- A change of frost state with the role machine's part keeps the coil sound (R98, R99). -/
theorem CoilSound.setFrost {s : State} (h : CoilSound s) {new : FrostState} (active : s.cfm.suspended = false)
    (recover : new = .recover → s.cfm.frost.forces = true) : CoilSound (s.setFrost new) := by
  have ready := h.announceFrost active recover
  unfold State.setFrost State.frostRole
  split
  · exact ready.changeRole _ _ fun _ => .inl rfl
  · next hr =>
    split
    · next hc => exact ready.changeRole _ _ (by simp [hc.2.1, FrostState.forces])
    · refine h.announceFrost_sound active recover fun hf => ?_
      by_cases hn : new = .protect
      · by_contra hno
        exact hr (by simpa [hn] using hno)
      · exact h.role (recover (by cases new <;> simp_all [FrostState.forces]))

/-- Timers and the monitor's marks do not bear on what frost state, role and valve keep. -/
theorem SameCoil.of_cfm {s t : State} (params : t.params = s.params) (fcc : t.fcc = s.fcc)
    (frost : t.cfm.frost = s.cfm.frost) (suspended : t.cfm.suspended = s.cfm.suspended)
    (fde : t.fde = s.fde) (vdr : t.vdr = s.vdr) : SameCoil s t := by
  simp [SameCoil, params, fcc, frost, suspended, fde, vdr]

/-! ### The end of a computation -/

/-- Stage 10 leaves PROTECT and WITHDRAWN alone (R79). -/
theorem State.decide_of_apart {s : State} (h : s.fde.role = .protect ∨ s.fde.role = .withdrawn) (l : Latched)
    (share : Nat) : s.decide l share = s := by
  rcases h with h | h <;> simp [State.decide, h]

/-- Stage 10 keeps frost state, fans and valve as they are, and the flags with the role. -/
theorem CoilSound.decide {s : State} (h : CoilSound s) (l : Latched) (share : Nat) :
    CoilReady (s.decide l share) := by
  have ready := h.toCoilReady
  unfold State.decide
  split
  · unfold State.decideInit
    split
    · exact ready.enterRole _ _ _
    · exact ready
  · next hr =>
    unfold State.decideResting
    split
    · exact ready.enterRole _ _ _
    · exact { ready with flags := by have := h.flags; simp_all [FlagsOfRole, State.rest] }
  · unfold State.decideWarming
    have stop : CoilReady (s.stopTimer .shed) := ready.congr (.of_cfm (by simp) (by simp) (by simp) (by simp)
      (by simp) (by simp))
    split
    · split
      · exact stop.enterRole _ _ _
      · exact stop
    · exact ready.congr (.of_cfm (by simp) (by simp) (by simp) (by simp) (by simp) (by simp))
  · next hr =>
    have kept : ∀ u : State, CoilReady u → u.fde.role = .carrying → CoilReady (u.testColdJoin l) :=
      fun u hu role => { hu with flags := by have := hu.flags; simp_all [FlagsOfRole, State.testColdJoin] }
    unfold State.decideCarrying
    split
    · exact kept _ (ready.congr (.of_cfm (by simp) (by simp) (by simp) (by simp) (by simp) (by simp)))
        (by simpa using hr)
    · exact kept _ (ready.congr (.of_cfm (by simp) (by simp) (by simp) (by simp) (by simp) (by simp)))
        (by simpa using hr)
  · unfold State.decideShedding
    repeat' split
    · exact ready.enterRole _ _ _
    · exact ready.enterRole _ _ _
    · exact ready
  · exact ready
  · exact ready

/-- Stage 10 brings no cell into WITHDRAWN. -/
theorem State.decide_ne_withdrawn {s : State} (h : s.fde.role ≠ .withdrawn) (l : Latched) (share : Nat) :
    (s.decide l share).fde.role ≠ .withdrawn := by
  unfold State.decide State.decideInit State.decideResting State.decideWarming State.decideCarrying
    State.decideShedding State.testColdJoin
  repeat' split
  all_goals simp_all [Fde.enter, State.rest]

/-- The FCC stages and ramps at an allotment, within what the frost state allows (R115, R123 to R125). -/
theorem State.stageFans_idles {s : State} (hf : s.cfm.frost.forces = true) (changed : Bool) (m v : Nat) :
    s.fcc.Each FanChannel.Idles (Fcc.stage s.params.pairOrder s.params.fanRamp m v s.cfm.frost
      (if changed then s.fcc.roleReport s.fde.role else s.fcc)) := by
  refine Fcc.Each.trans (fun _ _ _ => .trans) ?_ (Fcc.calm_stage hf _ _ _ _ _).idles
  split
  · exact (Fcc.calm_roleReport _ _).idles
  · exact Fcc.Each.refl .refl _

theorem State.stageFans_sameCoil (changed : Bool) (m v : Nat) (s : State) :
    SameCoil (s.setFcc (Fcc.stage s.params.pairOrder s.params.fanRamp m v s.cfm.frost
      (if changed then s.fcc.roleReport s.fde.role else s.fcc))) (s.stageFans changed m v) := by
  unfold State.stageFans
  simp [SameCoil]

theorem CoilReady.stageFans {s : State} (h : CoilReady s) (changed : Bool) (m v : Nat) :
    CoilReady (s.stageFans changed m v) :=
  (h.setFcc fun hf => State.stageFans_idles hf changed m v).congr (State.stageFans_sameCoil changed m v s)

theorem CoilTold.stageFans {s : State} (h : CoilTold s) (changed : Bool) (m v : Nat) :
    CoilTold (s.stageFans changed m v) :=
  (h.setFcc fun hf => State.stageFans_idles hf changed m v).congr (State.stageFans_sameCoil changed m v s)

/-- The VDR takes the allotment and steps (R143). -/
theorem CoilReady.stepValve {s : State} (h : CoilReady s)
    (role : s.cfm.frost.forces = true → s.fde.role = .protect ∨ s.fde.role = .withdrawn) :
    CoilTold s.stepValve := by
  obtain ⟨hp, hc⟩ := h.ranges
  obtain ⟨toldRole, toldDrained, frost, rest, received, -⟩ :=
    Vdr.allotment_eq s.params s.fde.role s.fde.drained s.vdr
  exact
    { frost := frost.trans h.frost
      rest := rest.trans h.rest
      early := fun hr => absurd (received.symm.trans hr) (by simp)
      clear := h.clear
      idle := h.idle
      flags := h.flags
      ranges := ⟨hp, Vdr.allotment_le hp _ _ hc⟩
      role := role
      toldRole := toldRole
      toldDrained := toldDrained
      placed := fun _ => Vdr.allotment_placed hp _ _ _ }

/-- The end of a computation keeps the coil sound (R79, R80, R143). -/
theorem CoilSound.issue {s : State} (h : CoilSound s) (valveFirst : Bool) (l : Latched) :
    CoilSound (s.issue valveFirst l) := by
  have recorded : ∀ u : State, SameCoil u
      (((u.conclude l (s.fieldResult l) (s.ownResult l) (s.issueTarget l)).reportField (s.fieldResult l))) := by
    intro u; simp [SameCoil, State.conclude, Fde.conclude]
  have ready : CoilReady ((s.decideAndRecord l).reportField (s.fieldResult l)) :=
    (h.decide l (s.ownResult l).share).congr (recorded _)
  have role : s.cfm.frost.forces = true →
      (s.decideAndRecord l).fde.role = .protect ∨ (s.decideAndRecord l).fde.role = .withdrawn := by
    intro hf
    have hr := h.role hf
    unfold State.decideAndRecord
    rw [State.decide_of_apart hr]
    exact hr
  have suspension : s.cfm.suspended = true ↔ (s.decideAndRecord l).fde.role = .withdrawn
      ∧ (s.decideAndRecord l).fde.drained = true := by
    rw [h.suspension]
    unfold State.decideAndRecord
    by_cases hw : s.fde.role = .withdrawn
    · rw [State.decide_of_apart (.inr hw)]; rfl
    · exact iff_of_false (fun hd => hw hd.1) fun hd => State.decide_ne_withdrawn hw _ _ hd.1
  have told : CoilTold (((s.decideAndRecord l).reportField (s.fieldResult l)).raiseAllotment valveFirst
      ((s.decideAndRecord l).fde.role != s.fde.role) (s.ownResult l).m (s.ownResult l).v) := by
    unfold State.raiseAllotment
    split
    · exact (ready.stepValve (by simpa using role)).stageFans _ _ _
    · exact (ready.stageFans _ _ _).stepValve (by simpa using role)
  refine CoilSound.congr (s := ((s.decideAndRecord l).reportField (s.fieldResult l)).raiseAllotment valveFirst
    ((s.decideAndRecord l).fde.role != s.fde.role) (s.ownResult l).m (s.ownResult l).v) ⟨told, ?_⟩ ?_
  · simpa using suspension
  · unfold State.issue; simp [SameCoil]

/-! ### Every move -/

theorem CoilSound.move {s t : State} (hm : Move s t) (h : CoilSound s) : CoilSound t := by
  cases hm with
  | changeRole cause new drained s forced =>
    exact h.toCoilReady.changeRole _ _ fun hf => forced hf (h.role hf)
  | drain drained s role =>
    have ready : CoilReady (s.putDrained drained) :=
      { h.toCoilReady with flags := by have := h.flags; simp_all [FlagsOfRole, State.putDrained] }
    exact (ready.vdrReport fun _ => .inr role).cfmReport
  | rotateDue s role =>
    exact { h with flags := by have := h.flags; simp_all [FlagsOfRole, State.setRotateDue] }
  | coldJoin s role =>
    exact { h with flags := by have := h.flags; simp_all [FlagsOfRole, State.setColdJoin] }
  | enterProtect causes s frost active =>
    have tripped : CoilSound { s.protectTimers with cfm := s.cfm.trip causes } :=
      h.congr (by simp [SameCoil, Cfm.trip])
    exact tripped.setFrost active (by simp)
  | enterGuard s frost active =>
    have started : CoilSound ((s.startTimer .guard).putGuardPending false) := h.congr (by simp [SameCoil])
    exact started.setFrost (by simpa using active) (by simp)
  | releaseGuard s frost =>
    have stopped : CoilSound ((s.stopTimer .guard).putGuardPending false) := h.congr (by simp [SameCoil])
    have active : s.cfm.suspended = false :=
      Bool.eq_false_iff.2 fun hs => by simpa [frost] using h.clear hs
    exact stopped.setFrost (by simpa using active) (by simp)
  | enterRecover s frost spent =>
    have started : CoilSound ((s.startTimer .recov).putProtectPending false) := h.congr (by simp [SameCoil])
    have active : s.cfm.suspended = false :=
      Bool.eq_false_iff.2 fun hs => by simpa [frost] using h.clear hs
    exact started.setFrost (by simpa using active) (by simp [frost, FrostState.forces])
  | endRecover s frost spent =>
    have active : s.cfm.suspended = false :=
      Bool.eq_false_iff.2 fun hs => by simpa [frost] using h.clear hs
    exact h.setFrost active (by simp)
  | fans f s hand iced => exact h.setFcc hand
  | fansIced f s hand => exact (h.setFcc hand).congr (by simp [SameCoil])
  | still f s hand iced turning => exact h.still hand turning
  | stillIced f s hand turning => exact (h.still hand turning).congr (by simp [SameCoil])
  | issue valveFirst l s latched => exact h.issue valveFirst l
  | checkValve v s command role drained frost rest received =>
    exact h.congr (by simp [SameCoil, command, role, drained, frost, rest, received])
  | holdGuard s frost spent => exact h.congr (by simp [SameCoil])
  | extendGuard s frost => exact h.congr (by simp [SameCoil])
  | holdProtect s frost spent => exact h.congr (by simp [SameCoil])
  | startStag s active => exact h.congr (by simp [SameCoil])
  | startTimer id s free => exact h.congr (by simp [SameCoil])
  | expire id s => exact h.congr (by simp [SameCoil])
  | judgeSensors c s => exact h.congr (by simp [SameCoil])
  | convert c s failed fault => exact h.congr (by simp [SameCoil])
  | readImage c s defaults => exact h.congr (by simp [SameCoil])
  | order o s taken => exact h.congr (by simp [SameCoil])
  | panelSilent on s taken => exact h.congr (by simp [SameCoil])
  | countCadence s => exact h.congr (by simp [SameCoil])
  | clearAlerts mask s => exact h.congr (by simp [SameCoil])
  | port p s => exact h.congr (by simp [SameCoil])
  | spend n s => exact h.congr (by simp [SameCoil])

end Sys2Proof.Machine
end

section
/-! PROOFS. Which timers run: in the roles and frost states that have them, along every move (R94 to R96, R104,
R108 to R112, R116). -/

namespace Sys2Proof.Machine

/-! ### Which timers an operation starts and stops -/

theorem State.running_startTimer (a b : TimerId) (s : State) :
    ((s.startTimer b).timer a).running = true ↔ a = b ∨ (s.timer a).running = true := by
  rw [State.timer_startTimer]
  by_cases h : a = b
  · rw [if_pos h]
    unfold Timer.start
    split
    · simp_all
    · simp [h, Timer.load]
  · simp [h]

theorem State.running_stopTimer (a b : TimerId) (s : State) :
    ((s.stopTimer b).timer a).running = true ↔ a ≠ b ∧ (s.timer a).running = true := by
  rw [State.timer_stopTimer]
  by_cases h : a = b <;> simp [h, Timer.stop]

theorem State.running_startIf (on : Bool) (a b : TimerId) (s : State) :
    ((s.startIf on b).timer a).running = true ↔ (on = true ∧ a = b) ∨ (s.timer a).running = true := by
  cases on <;> simp [State.startIf, State.running_startTimer]

theorem State.running_stopIf (on : Bool) (a b : TimerId) (s : State) :
    ((s.stopIf on b).timer a).running = true ↔ ¬ (on = true ∧ a = b) ∧ (s.timer a).running = true := by
  cases on <;> simp [State.stopIf, State.running_stopTimer]

/-- An expiry that leaves a timer running is another timer's, or a repeating one's (R156). -/
theorem State.running_of_expire {a b : TimerId} {s : State} (h : ((s.expire b).timer a).running = true)
    (hb : b.repeating = false ∨ a ≠ b) : (s.timer a).running = true := by
  rw [State.timer_expire] at h
  by_cases hab : a = b
  · subst hab
    have single : a.repeating = false := by simpa using hb
    simp [Timer.expire, single] at h
  · simpa [hab] using h

/-! ### The role machine's timers -/

/-- T_WARM, T_ROT and T_SHED run only in the roles that have them (R94 to R96). -/
def RoleTimers (s : State) : Prop :=
  ((s.timer .warm).running = true → s.fde.role = .warming)
    ∧ ((s.timer .rot).running = true → s.fde.role = .carrying)
    ∧ ((s.timer .shed).running = true → s.fde.role = .warming ∨ s.fde.role = .carrying)

/-- The monitor's timers run only in the frost states that have them, for a monitor about to enter `frost`,
and its pending marks stand only there (R108 to R111, R116). -/
def FrostTimersFor (frost : FrostState) (s : State) : Prop :=
  ((s.timer .guard).running = true → frost = .guard) ∧ ((s.timer .prot).running = true → frost = .protect)
    ∧ ((s.timer .recov).running = true → frost = .recover)
    ∧ (s.cfm.guardPending = true → frost = .guard ∧ ¬ (s.timer .guard).running = true)
    ∧ (s.cfm.protectPending = true → frost = .protect ∧ ¬ (s.timer .prot).running = true)
    ∧ (s.cfm.suspended = true → ¬ (s.timer .stag).running = true)

theorem timersOfState_iff (s : State) :
    TimersOfState s ↔ RoleTimers s ∧ FrostTimersFor s.cfm.frost s := by
  simp only [TimersOfState, RoleTimers, FrostTimersFor, and_assoc]

/-- Starts, stops and expiries of the other timers do not bear on the role machine's. -/
theorem RoleTimers.of_running {s t : State} (h : RoleTimers s)
    (running : ∀ id, id = .warm ∨ id = .rot ∨ id = .shed → (t.timer id).running = true →
      (s.timer id).running = true) (role : t.fde.role = s.fde.role) : RoleTimers t := by
  obtain ⟨warm, rot, shed⟩ := h
  unfold RoleTimers
  rw [role]
  exact ⟨fun hr => warm (running _ (by simp) hr), fun hr => rot (running _ (by simp) hr),
    fun hr => shed (running _ (by simp) hr)⟩

theorem RoleTimers.congr {s t : State} (h : RoleTimers s) (itb : t.itb = s.itb)
    (role : t.fde.role = s.fde.role) : RoleTimers t :=
  h.of_running (fun id _ hr => by rwa [State.timer_congr itb] at hr) role

theorem FrostTimersFor.of_running {s t : State} {f : FrostState} (h : FrostTimersFor f s)
    (running : ∀ id, id = .guard ∨ id = .prot ∨ id = .recov ∨ id = .stag →
      (t.timer id).running = true → (s.timer id).running = true)
    (guardPending : t.cfm.guardPending = true → s.cfm.guardPending = true)
    (protectPending : t.cfm.protectPending = true → s.cfm.protectPending = true)
    (suspended : t.cfm.suspended = true → s.cfm.suspended = true) : FrostTimersFor f t := by
  obtain ⟨guard, prot, recov, heldGuard, heldProt, stag⟩ := h
  have stopped : ∀ id, id = .guard ∨ id = .prot ∨ id = .recov ∨ id = .stag →
      ¬ (s.timer id).running = true → ¬ (t.timer id).running = true := fun id hid hs ht =>
    hs (running id hid ht)
  exact ⟨fun hr => guard (running _ (by simp) hr), fun hr => prot (running _ (by simp) hr),
    fun hr => recov (running _ (by simp) hr),
    fun hp => ⟨(heldGuard (guardPending hp)).1, stopped _ (by simp) (heldGuard (guardPending hp)).2⟩,
    fun hp => ⟨(heldProt (protectPending hp)).1, stopped _ (by simp) (heldProt (protectPending hp)).2⟩,
    fun hs => stopped _ (by simp) (stag (suspended hs))⟩

/-! ### The role machine -/

/-- The timers of a role entered (R93). -/
theorem RoleTimers.enterRole {s : State} (h : RoleTimers s) (cause : RoleCause) (new : Role) (drained : Bool) :
    RoleTimers (s.enterRole cause new drained) := by
  obtain ⟨warm, rot, shed⟩ := h
  have timers : ∀ id, ((s.enterRole cause new drained).timer id).running
      = ((s.roleTimers s.fde.role new).timer id).running := fun _ => rfl
  have role : (s.enterRole cause new drained).fde.role = new := rfl
  unfold RoleTimers
  simp only [timers, role, State.roleTimers, State.running_startIf, State.running_stopIf]
  refine ⟨?_, ?_, ?_⟩
  · cases new <;> simp
    all_goals grind
  · cases new <;> simp
    all_goals grind
  · cases new <;> simp
    all_goals grind

/-- A change of role moves no timer but its own three (R93). -/
theorem State.running_enterRole {a : TimerId} (ha : a ≠ .warm ∧ a ≠ .rot ∧ a ≠ .shed) (cause : RoleCause)
    (new : Role) (drained : Bool) (s : State) :
    ((s.enterRole cause new drained).timer a).running = true ↔ (s.timer a).running = true := by
  have timers : (s.enterRole cause new drained).timer a = (s.roleTimers s.fde.role new).timer a := rfl
  rw [timers]
  simp [State.roleTimers, State.running_startIf, State.running_stopIf, ha]

/-- The FCC starts no timer but T_EXER at a report of a role (R136). -/
theorem State.running_fccReport {a : TimerId} (ha : a ≠ .exer) (s : State) :
    (s.fccReport.timer a).running = true ↔ (s.timer a).running = true := by
  have bank : ∀ f, (s.setFcc f).timer a = s.timer a := fun f => State.timer_congr (State.setFcc_itb f s) a
  simp [State.fccReport, State.running_startIf, ha, bank]

/-- The timers of a monitor that is suspended (R116). -/
theorem State.running_suspend (a : TimerId) (s : State) : (s.suspend.timer a).running = true
    ↔ (a ≠ .guard ∧ a ≠ .prot ∧ a ≠ .recov ∧ a ≠ .stag) ∧ (s.timer a).running = true := by
  have bank : s.suspend.timer a = s.suspendCfm.stopFrostTimers.timer a := rfl
  have before : s.suspendCfm.timer a = s.timer a := rfl
  rw [bank]
  simp only [State.stopFrostTimers, State.running_stopTimer, before]
  tauto

/-- The CFM starts no timer at a report of a role (R116, R117). -/
theorem State.running_of_cfmReport {a : TimerId} {s : State} (h : (s.cfmReport.timer a).running = true) :
    (s.timer a).running = true := by
  unfold State.cfmReport at h
  split at h
  · split at h
    · exact h
    · rw [State.running_suspend] at h; simp_all
  · exact h

theorem State.running_of_reportRole {a : TimerId} (ha : a ≠ .exer) {s : State}
    (h : (s.reportRole.timer a).running = true) : (s.timer a).running = true := by
  have told := State.running_of_cfmReport h
  rwa [State.running_fccReport ha] at told

theorem RoleTimers.changeRole {s : State} (h : RoleTimers s) (cause : RoleCause) (new : Role)
    (drained : Bool) : RoleTimers (s.changeRole cause new drained) :=
  (h.enterRole cause new drained).of_running
    (fun id hid hr => State.running_of_reportRole (by rintro rfl; simp at hid) hr)
    (by simp [State.changeRole])

/-- A monitor that takes a report of a role keeps its timers in their states (R116, R117). -/
theorem FrostTimersFor.cfmReport {s : State} (h : FrostTimersFor s.cfm.frost s) :
    FrostTimersFor s.cfmReport.cfm.frost s.cfmReport := by
  unfold State.cfmReport
  split
  · split
    · exact h
    · simp [FrostTimersFor, State.running_suspend, Cfm.suspend]
  · exact h.of_running (fun _ _ => id) id id (by simp)

theorem FrostTimersFor.changeRole {s : State} (h : FrostTimersFor s.cfm.frost s) (cause : RoleCause)
    (new : Role) (drained : Bool) :
    FrostTimersFor (s.changeRole cause new drained).cfm.frost (s.changeRole cause new drained) := by
  have told : FrostTimersFor (s.enterRole cause new drained).vdrReport.fccReport.cfm.frost
      (s.enterRole cause new drained).vdrReport.fccReport := by
    simp only [State.fccReport_frame, State.vdrReport_cfm, State.enterRole_frame]
    refine h.of_running (fun id hid hr => ?_) (by simp) (by simp) (by simp)
    rw [State.running_fccReport (by rintro rfl; simp at hid)] at hr
    exact (State.running_enterRole (by refine ⟨?_, ?_, ?_⟩ <;> rintro rfl <;> simp at hid) cause new
      drained s).1 hr
  exact told.cfmReport

/-! ### The frost monitor -/

theorem RoleTimers.setFrost {s : State} (h : RoleTimers s) (new : FrostState) : RoleTimers (s.setFrost new) := by
  have announced : RoleTimers (s.announceFrost new) := h.congr (by simp) (by simp)
  unfold State.setFrost State.frostRole
  split
  · exact announced.changeRole _ _ _
  · split
    · exact announced.changeRole _ _ _
    · exact announced

theorem State.setFrost_frost (new : FrostState) (s : State) :
    (s.setFrost new).cfm.frost = new := by
  unfold State.setFrost State.frostRole
  split
  · simp [State.changeRole, State.reportRole, State.cfmReport, Fde.enter]
  · split
    · simp [State.changeRole, State.reportRole, State.cfmReport, Fde.enter]
    · simp

/-- A change to a frost state that the running timers and the pending marks allow. -/
theorem FrostTimersFor.setFrost {s : State} {new : FrostState} (h : FrostTimersFor new s) :
    FrostTimersFor (s.setFrost new).cfm.frost (s.setFrost new) := by
  have announced : FrostTimersFor (s.announceFrost new).cfm.frost (s.announceFrost new) := by
    rw [State.announceFrost_cfm]
    exact h.of_running
      (fun id _ hr => by rwa [State.timer_congr (s := s) (t := s.announceFrost new) (by simp)] at hr)
      (by simp) (by simp) (by simp)
  unfold State.setFrost State.frostRole
  split
  · exact announced.changeRole _ _ _
  · split
    · exact announced.changeRole _ _ _
    · exact announced

/-! ### The end of a computation -/

theorem RoleTimers.decide {s : State} (h : RoleTimers s) (l : Latched) (share : Nat) :
    RoleTimers (s.decide l share) := by
  have stop : RoleTimers (s.stopTimer .shed) :=
    h.of_running (fun id _ hr => by simp_all [State.running_stopTimer]) (by simp)
  have start : s.fde.role = .warming ∨ s.fde.role = .carrying → RoleTimers (s.startTimer .shed) := by
    intro hr
    obtain ⟨warm, rot, -⟩ := h
    refine ⟨?_, ?_, ?_⟩
    · simpa [State.running_startTimer] using warm
    · simpa [State.running_startTimer] using rot
    · simpa using fun _ => hr
  unfold State.decide
  split
  · unfold State.decideInit
    split
    · exact h.enterRole _ _ _
    · exact h
  · unfold State.decideResting
    split
    · exact h.enterRole _ _ _
    · exact h.congr rfl rfl
  · next hr =>
    unfold State.decideWarming
    split
    · split
      · exact stop.enterRole _ _ _
      · exact stop
    · exact start (.inl hr)
  · next hr =>
    unfold State.decideCarrying
    split
    · exact stop.congr rfl rfl
    · exact (start (.inr hr)).congr rfl rfl
  · unfold State.decideShedding
    repeat' split
    · exact h.enterRole _ _ _
    · exact h.enterRole _ _ _
    · exact h
  · exact h
  · exact h

/-- Stage 10 moves no timer but the role machine's (R87 to R93). -/
theorem State.running_decide {a : TimerId} (ha : a ≠ .warm ∧ a ≠ .rot ∧ a ≠ .shed) (l : Latched)
    (share : Nat) (s : State) : ((s.decide l share).timer a).running = true ↔ (s.timer a).running = true := by
  have enter := fun cause new d (u : State) => State.running_enterRole ha cause new d u
  have rest : s.rest.timer a = s.timer a := rfl
  have cold : ∀ u : State, (u.testColdJoin l).timer a = u.timer a := fun _ => rfl
  unfold State.decide State.decideInit State.decideResting State.decideWarming State.decideCarrying
    State.decideShedding
  repeat' split
  all_goals simp [enter, rest, cold, State.running_startTimer, State.running_stopTimer, ha]

/-- The reports and the staging of an allotment start no timer but T_EXER (R136). -/
theorem State.running_issue {a : TimerId} (ha : a ≠ .exer) (valveFirst : Bool) (l : Latched) (s : State) :
    ((s.issue valveFirst l).timer a).running = true
      ↔ ((s.decide l (s.ownResult l).share).timer a).running = true := by
  have staged : ∀ (u : State) changed m v, 
      ((u.stageFans changed m v).timer a).running = true ↔ (u.timer a).running = true := by
    intro u changed m v
    have bank : ∀ f, (u.setFcc f).timer a = u.timer a := fun f => State.timer_congr (State.setFcc_itb f u) a
    simp [State.stageFans, State.running_startIf, ha, bank]
  have stepped : ∀ u : State, u.stepValve.timer a = u.timer a := fun _ => rfl
  have recorded : ((s.decideAndRecord l).reportField (s.fieldResult l)).timer a
      = (s.decide l (s.ownResult l).share).timer a := rfl
  have spent : ∀ u : State, u.spend.timer a = u.timer a := fun _ => rfl
  unfold State.issue State.raiseAllotment
  split <;> simp only [spent, staged, stepped, recorded]

/-- The end of a computation leaves the role that stage 10 decided (R80). -/
theorem State.issue_role (valveFirst : Bool) (l : Latched) (s : State) :
    (s.issue valveFirst l).fde.role = (s.decide l (s.ownResult l).share).fde.role := by
  simp [State.issue, State.decideAndRecord, State.conclude, Fde.conclude]

/-! ### Every move -/

/-- A timer that no role bounds may start. -/
theorem RoleTimers.startTimer {s : State} (h : RoleTimers s) {id : TimerId}
    (free : id ≠ .warm ∧ id ≠ .rot ∧ id ≠ .shed) : RoleTimers (s.startTimer id) := by
  refine h.of_running (fun a ha hr => ?_) (by simp)
  rcases (State.running_startTimer a id s).1 hr with rfl | hr
  · simp [free] at ha
  · exact hr

theorem RoleTimers.stopTimer {s : State} (h : RoleTimers s) (id : TimerId) : RoleTimers (s.stopTimer id) :=
  h.of_running (fun a _ hr => ((State.running_stopTimer a id s).1 hr).2) (by simp)

/-- A timer that no frost state bounds may start. -/
theorem FrostTimersFor.startTimer {s : State} {f : FrostState} (h : FrostTimersFor f s) {id : TimerId}
    (free : id ≠ .guard ∧ id ≠ .prot ∧ id ≠ .recov ∧ id ≠ .stag) : FrostTimersFor f (s.startTimer id) := by
  refine h.of_running (fun a ha hr => ?_) (by simp) (by simp) (by simp)
  rcases (State.running_startTimer a id s).1 hr with rfl | hr
  · simp [free] at ha
  · exact hr

theorem RoleTimers.move {s t : State} (hm : Move s t) (h : RoleTimers s) : RoleTimers t := by
  cases hm with
  | changeRole cause new drained s forced => exact h.changeRole _ _ _
  | drain drained s role =>
    exact h.of_running (fun id _ hr => State.running_of_cfmReport (s := (s.putDrained drained).vdrReport) hr)
      (by simp [State.putDrained])
  | enterProtect causes s frost active =>
    have timers : RoleTimers s.protectTimers := ((h.stopTimer .guard).stopTimer .recov).startTimer (by simp)
    exact RoleTimers.setFrost (s := { s.protectTimers with cfm := s.cfm.trip causes }) (timers.congr rfl rfl) _
  | enterGuard s frost active =>
    exact RoleTimers.setFrost (s := (s.startTimer .guard).putGuardPending false)
      ((h.startTimer (by simp)).congr rfl rfl) _
  | releaseGuard s frost =>
    exact RoleTimers.setFrost (s := (s.stopTimer .guard).putGuardPending false)
      ((h.stopTimer .guard).congr rfl rfl) _
  | enterRecover s frost spent =>
    exact RoleTimers.setFrost (s := (s.startTimer .recov).putProtectPending false)
      ((h.startTimer (by simp)).congr rfl rfl) _
  | endRecover s frost spent => exact h.setFrost _
  | extendGuard s frost =>
    exact RoleTimers.startTimer (s := s.putGuardPending false) (h.congr rfl rfl) (by simp)
  | startStag s active => exact h.startTimer (by simp)
  | startTimer id s free => exact h.startTimer (by rcases free with rfl | rfl | rfl <;> simp)
  | expire id s =>
    refine h.of_running (fun a ha hr => State.running_of_expire hr ?_) (by simp)
    rcases ha with rfl | rfl | rfl <;> cases id <;> simp [TimerId.repeating]
  | issue valveFirst l s latched =>
    exact (h.decide l (s.ownResult l).share).of_running
      (fun a ha hr => (State.running_issue (by rintro rfl; simp at ha) valveFirst l s).1 hr)
      (State.issue_role valveFirst l s)
  | rotateDue | coldJoin | holdGuard | holdProtect => exact h.congr rfl rfl
  | fans | fansIced | still | stillIced | checkValve | judgeSensors | convert | readImage | order | panelSilent
  | countCadence | clearAlerts | port | spend => exact h.congr (by simp) (by simp)

/-- What the monitor's timers and marks keep, from one move to the next. -/
theorem FrostTimersFor.move {s t : State} (hm : Move s t) (h : FrostTimersFor s.cfm.frost s) :
    FrostTimersFor t.cfm.frost t := by
  obtain ⟨guard, prot, recov, heldGuard, heldProt, stag⟩ := h
  have h : FrostTimersFor s.cfm.frost s := ⟨guard, prot, recov, heldGuard, heldProt, stag⟩
  cases hm with
  | changeRole cause new drained s forced => exact h.changeRole _ _ _
  | drain drained s role => exact FrostTimersFor.cfmReport (s := (s.putDrained drained).vdrReport) h
  | enterProtect causes s frost active =>
    refine FrostTimersFor.setFrost (s := { s.protectTimers with cfm := s.cfm.trip causes }) ?_
    have bank : ∀ a, State.timer a { s.protectTimers with cfm := s.cfm.trip causes }
        = s.protectTimers.timer a := fun _ => rfl
    simp_all [FrostTimersFor, State.protectTimers, State.running_startTimer, State.running_stopTimer, Cfm.trip]
  | enterGuard s frost active =>
    refine FrostTimersFor.setFrost (s := (s.startTimer .guard).putGuardPending false) ?_
    have bank : ∀ a, ((s.startTimer .guard).putGuardPending false).timer a = (s.startTimer .guard).timer a :=
      fun _ => rfl
    simp_all [FrostTimersFor, State.running_startTimer]
  | releaseGuard s frost =>
    refine FrostTimersFor.setFrost (s := (s.stopTimer .guard).putGuardPending false) ?_
    have bank : ∀ a, ((s.stopTimer .guard).putGuardPending false).timer a = (s.stopTimer .guard).timer a :=
      fun _ => rfl
    simp_all [FrostTimersFor, State.running_stopTimer]
  | enterRecover s frost spent =>
    refine FrostTimersFor.setFrost (s := (s.startTimer .recov).putProtectPending false) ?_
    have bank : ∀ a, ((s.startTimer .recov).putProtectPending false).timer a = (s.startTimer .recov).timer a :=
      fun _ => rfl
    have still : ¬ (s.timer .prot).running = true := by
      rcases spent with hp | hp
      · simp [hp]
      · exact (heldProt hp).2
    simp_all [FrostTimersFor, State.running_startTimer]
  | endRecover s frost spent =>
    refine FrostTimersFor.setFrost ?_
    simp_all [FrostTimersFor]
  | holdGuard s frost spent =>
    exact ⟨guard, prot, recov, fun _ => ⟨frost, Bool.eq_false_iff.1 spent⟩, heldProt, stag⟩
  | holdProtect s frost spent =>
    exact ⟨guard, prot, recov, heldGuard, fun _ => ⟨frost, Bool.eq_false_iff.1 spent⟩, stag⟩
  | extendGuard s frost =>
    have bank : ∀ a, (s.putGuardPending false).timer a = s.timer a := fun _ => rfl
    simp_all [FrostTimersFor, State.running_startTimer]
  | startStag s active => simp_all [FrostTimersFor, State.running_startTimer]
  | startTimer id s free =>
    exact FrostTimersFor.startTimer h (by rcases free with rfl | rfl | rfl <;> simp)
  | expire id s =>
    refine h.of_running (fun a ha hr => State.running_of_expire hr ?_) (by simp) (by simp) (by simp)
    rcases ha with rfl | rfl | rfl | rfl <;> cases id <;> simp [TimerId.repeating]
  | issue valveFirst l s latched =>
    have cfm : (s.issue valveFirst l).cfm = s.cfm := by simp
    rw [cfm]
    refine h.of_running (fun a ha hr => ?_) (by simp) (by simp) (by simp)
    have decided := (State.running_issue (by rintro rfl; simp at ha) valveFirst l s).1 hr
    exact (State.running_decide (by refine ⟨?_, ?_, ?_⟩ <;> rintro rfl <;> simp at ha) _ _ s).1 decided
  | rotateDue | coldJoin => exact h
  | fans | fansIced | still | stillIced | checkValve | judgeSensors | convert | readImage | order | panelSilent
  | countCadence | clearAlerts | port | spend => exact h

end Sys2Proof.Machine
end

section
/-! PROOFS. What the reports of role and frost state leave of the VDR and the FDE, and what follows for the
parameters and the command (R141, R176) and for the time before load completion (R14, R16, R44, R63). -/

namespace Sys2Proof.Machine

/-! ### The VDR under reports -/

/-- The VDR after reports: no allotment came, stuck stands, and the command keeps its range. -/
structure Vdr.Told (p : Params) (v w : Vdr) : Prop where
  received : w.allotmentReceived = v.allotmentReceived
  stuck : w.stuck = v.stuck
  range : p.InRange → v.command ≤ 1000 → w.command ≤ 1000

theorem Vdr.Told.refl (p : Params) (v : Vdr) : v.Told p v := ⟨rfl, rfl, fun _ h => h⟩

theorem Vdr.Told.trans {p : Params} {u v w : Vdr} (h : u.Told p v) (h' : v.Told p w) : u.Told p w :=
  ⟨h'.received.trans h.received, h'.stuck.trans h.stuck, fun hp hc => h'.range hp (h.range hp hc)⟩

theorem Vdr.told_roleReport (p : Params) (r : Role) (d : Bool) (v : Vdr) : v.Told p (v.roleReport p r d) := by
  obtain ⟨-, -, -, -, received, stuck⟩ := Vdr.roleReport_eq p r d v
  exact ⟨received, stuck, fun hp hc => Vdr.roleReport_le hp r d hc⟩

theorem Vdr.told_frostReport (p : Params) (f : FrostState) (v : Vdr) : v.Told p (v.frostReport p f) := by
  obtain ⟨-, -, -, -, received, stuck⟩ := Vdr.frostReport_eq p f v
  exact ⟨received, stuck, fun hp hc => Vdr.frostReport_le hp f hc⟩

/-- The FCC's report of the fans at rest (R141). -/
theorem Vdr.told_fans (p : Params) (b : Bool) (v : Vdr) : v.Told p { v with fansAtRest := b } :=
  ⟨rfl, rfl, fun _ h => h⟩

theorem State.told_cfmReport (s : State) : s.vdr.Told s.params s.cfmReport.vdr := by
  unfold State.cfmReport
  repeat' split
  · exact .refl _ _
  · rw [State.suspend_vdr]; exact Vdr.told_frostReport _ _ _
  · exact .refl _ _

theorem State.told_reportRole (s : State) : s.vdr.Told s.params s.reportRole.vdr := by
  have valve : s.vdr.Told s.params s.vdrReport.vdr := Vdr.told_roleReport _ _ _ _
  have fans : s.vdrReport.vdr.Told s.params s.vdrReport.fccReport.vdr := by
    rw [State.fccReport_vdr]; exact Vdr.told_fans _ _ _
  have monitor := State.told_cfmReport s.vdrReport.fccReport
  simp only [State.fccReport_frame, State.vdrReport_params] at monitor
  exact (valve.trans fans).trans monitor

theorem State.told_changeRole (cause : RoleCause) (new : Role) (drained : Bool) (s : State) :
    s.vdr.Told s.params (s.changeRole cause new drained).vdr := by
  have told := State.told_reportRole (s.enterRole cause new drained)
  simp only [State.enterRole_frame] at told
  exact told

theorem State.told_setFrost (new : FrostState) (s : State) : s.vdr.Told s.params (s.setFrost new).vdr := by
  have announced : s.vdr.Told s.params (s.announceFrost new).vdr := by
    rw [State.announceFrost_vdr]
    exact (Vdr.told_frostReport _ _ _).trans (Vdr.told_fans _ _ _)
  have changed := fun cause role d => State.told_changeRole cause role d (s.announceFrost new)
  simp only [State.announceFrost_frame] at changed
  unfold State.setFrost State.frostRole
  repeat' split
  · exact announced.trans (changed _ _ _)
  · exact announced.trans (changed _ _ _)
  · exact announced

/-! ### The FDE under changes of role -/

/-- A change of role leaves the computation in progress and the overcool count (R83, R93). -/
@[simp] theorem State.changeRole_fde (cause : RoleCause) (new : Role) (drained : Bool) (s : State) :
    (s.changeRole cause new drained).fde = s.fde.enter cause new drained := by
  simp [State.changeRole]

theorem State.setFrost_fde (new : FrostState) (s : State) :
    (s.setFrost new).fde.latched = s.fde.latched ∧ (s.setFrost new).fde.overcool = s.fde.overcool := by
  unfold State.setFrost State.frostRole
  repeat' split
  all_goals simp [Fde.enter]

/-! ### Every move -/

/-- A move that does not end a computation tells the VDR of no allotment and leaves the computation in
progress. -/
theorem Move.told {s t : State} (hm : Move s t) (h : s.fde.latched = none) :
    t.vdr.allotmentReceived = s.vdr.allotmentReceived ∧ t.fde.latched = none := by
  cases hm with
  | changeRole cause new drained s forced =>
    exact ⟨(State.told_changeRole _ _ _ s).received, by simpa [Fde.enter] using h⟩
  | drain drained s role =>
    have valve := Vdr.told_roleReport s.params s.fde.role drained s.vdr
    have monitor := State.told_cfmReport (s.putDrained drained).vdrReport
    exact ⟨monitor.received.trans valve.received, by simpa [State.putDrained] using h⟩
  | enterProtect causes s frost active =>
    exact ⟨((State.told_setFrost .protect { s.protectTimers with cfm := s.cfm.trip causes }).received).trans
        (by simp),
      (State.setFrost_fde _ _).1.trans (by simpa using h)⟩
  | enterGuard s frost active =>
    exact ⟨(State.told_setFrost _ _).received.trans (by simp), (State.setFrost_fde _ _).1.trans (by simpa using h)⟩
  | releaseGuard s frost =>
    exact ⟨(State.told_setFrost _ _).received.trans (by simp), (State.setFrost_fde _ _).1.trans (by simpa using h)⟩
  | enterRecover s frost spent =>
    exact ⟨(State.told_setFrost _ _).received.trans (by simp), (State.setFrost_fde _ _).1.trans (by simpa using h)⟩
  | endRecover s frost spent =>
    exact ⟨(State.told_setFrost _ _).received, (State.setFrost_fde _ _).1.trans h⟩
  | checkValve v s command role drained frost rest received => exact ⟨received, h⟩
  | issue valveFirst l s latched => simp [latched] at h
  | rotateDue | coldJoin => exact ⟨rfl, h⟩
  | holdGuard | extendGuard | holdProtect | startStag | startTimer | expire => exact ⟨rfl, h⟩
  | fans | fansIced | still | stillIced | judgeSensors | convert | readImage | order | panelSilent
  | countCadence | clearAlerts | port | spend => exact ⟨rfl, h⟩

theorem NothingBeforeLoad.move {s t : State} (hm : Move s t) (h : NothingBeforeLoad s) :
    NothingBeforeLoad t := by
  obtain ⟨lsc, -, -, -, -, loaded⟩ := hm.frame
  intro ht
  obtain ⟨position, rx, sending, window, endPassed, latched, received⟩ := h (loaded.symm.trans ht)
  obtain ⟨told, none⟩ := hm.told latched
  rw [lsc]
  exact ⟨position, rx, sending, window, endPassed, none, told.trans received⟩

theorem RangesSound.move {s t : State} (hm : Move s t) (h : RangesSound s) : RangesSound t := by
  obtain ⟨-, -, -, params, -, -⟩ := hm.frame
  obtain ⟨hp, hc⟩ := h
  refine ⟨by rwa [params], ?_⟩
  cases hm with
  | changeRole cause new drained s forced => exact (State.told_changeRole _ _ _ s).range hp hc
  | drain drained s role =>
    have valve := Vdr.told_roleReport s.params s.fde.role drained s.vdr
    have monitor := State.told_cfmReport (s.putDrained drained).vdrReport
    exact monitor.range hp (valve.range hp hc)
  | enterProtect causes s frost active =>
    exact (State.told_setFrost .protect { s.protectTimers with cfm := s.cfm.trip causes }).range
      (by simpa using hp) (by simpa using hc)
  | enterGuard s frost active =>
    exact (State.told_setFrost _ _).range (by simpa using hp) (by simpa using hc)
  | releaseGuard s frost =>
    exact (State.told_setFrost _ _).range (by simpa using hp) (by simpa using hc)
  | enterRecover s frost spent =>
    exact (State.told_setFrost _ _).range (by simpa using hp) (by simpa using hc)
  | endRecover s frost spent => exact (State.told_setFrost _ _).range hp hc
  | checkValve v s command role drained frost rest received => exact command.trans_le hc
  | issue valveFirst l s latched =>
    have stepped : ∀ u : State, u.params = s.params → u.vdr.command = s.vdr.command →
        u.stepValve.vdr.command ≤ 1000 := fun u hu hv =>
      Vdr.allotment_le (by rwa [hu]) _ _ (by rwa [hv])
    have staged : ∀ (u : State) changed m v, (u.stageFans changed m v).vdr.command = u.vdr.command := by
      intro u changed m v
      unfold State.stageFans
      simp [State.setFcc, State.reportFans]
    unfold State.issue State.raiseAllotment
    split
    · simpa [staged] using stepped ((s.decideAndRecord l).reportField (s.fieldResult l)) (by simp) (by simp)
    · simpa using stepped
        (((s.decideAndRecord l).reportField (s.fieldResult l)).stageFans
          ((s.decideAndRecord l).fde.role != s.fde.role) (s.ownResult l).m (s.ownResult l).v) (by simp)
          (by simp [staged])
  | rotateDue | coldJoin => exact hc
  | holdGuard | extendGuard | holdProtect | startStag | startTimer | expire => exact hc
  | fans | fansIced | still | stillIced | judgeSensors | convert | readImage | order | panelSilent
  | countCadence | clearAlerts | port | spend => exact hc

end Sys2Proof.Machine
end

section
/-! PROOFS. The parameters of an image lie in their ranges (R48, R151, R175, R176). -/

namespace Sys2Proof.Machine

theorem clampNat_mem {lo hi : Nat} (h : lo ≤ hi) (x : Nat) : lo ≤ clampNat lo hi x ∧ clampNat lo hi x ≤ hi := by
  unfold clampNat
  repeat' split
  all_goals omega

theorem clampInt_mem {lo hi : Int} (h : lo ≤ hi) (x : Int) : lo ≤ clampInt lo hi x ∧ clampInt lo hi x ≤ hi := by
  unfold clampInt
  repeat' split
  all_goals omega

theorem param8_mem {lo hi dflt : Nat} (hl : lo ≤ dflt) (hh : dflt ≤ hi) (img : List Byte) (off : Nat) :
    lo ≤ param8 img off lo hi dflt ∧ param8 img off lo hi dflt ≤ hi := by
  unfold param8
  split
  · exact clampNat_mem (hl.trans hh) _
  · exact ⟨hl, hh⟩

theorem param16_mem {lo hi dflt : Nat} (hl : lo ≤ dflt) (hh : dflt ≤ hi) (img : List Byte) (off : Nat) :
    lo ≤ param16 img off lo hi dflt ∧ param16 img off lo hi dflt ≤ hi := by
  unfold param16
  split
  · exact clampNat_mem (hl.trans hh) _
  · exact ⟨hl, hh⟩

theorem paramSigned_mem {lo hi dflt : Int} (hl : lo ≤ dflt) (hh : dflt ≤ hi) (img : List Byte) (off : Nat) :
    lo ≤ paramSigned img off lo hi dflt ∧ paramSigned img off lo hi dflt ≤ hi := by
  unfold paramSigned
  split
  · exact clampInt_mem (hl.trans hh) _
  · exact ⟨hl, hh⟩

/-- The ranges of a measurement channel's parameters (R48, R176). -/
def ChannelParams.InRange (i : Nat) (c : ChannelParams) : Prop :=
  (-32768 ≤ c.offset ∧ c.offset ≤ 32767) ∧ (-32768 ≤ c.span ∧ c.span ≤ 32767) ∧ c.shift ≤ 3
    ∧ c.hysteresis ≤ 255 ∧ ((channelRange i).1 ≤ c.low ∧ c.low ≤ (channelRange i).2)
    ∧ ((channelRange i).1 ≤ c.high ∧ c.high ≤ (channelRange i).2)

/-- The ranges of a timer's parameters (R151, R176). -/
def TimerParams.InRange (t : TimerParams) : Prop := (1 ≤ t.p ∧ t.p ≤ 64) ∧ (1 ≤ t.c ∧ t.c ≤ 256)

theorem paramChannel_inRange {i : Nat} {dflt : ChannelParams} (h : dflt.InRange i) (img : List Byte) :
    (paramChannel img i dflt).InRange i := by
  obtain ⟨offset, span, shift, hysteresis, low, high⟩ := h
  exact ⟨paramSigned_mem offset.1 offset.2 _ _, paramSigned_mem span.1 span.2 _ _,
    (param8_mem (Nat.zero_le _) shift _ _).2, (param8_mem (Nat.zero_le _) hysteresis _ _).2,
    paramSigned_mem low.1 low.2 _ _, paramSigned_mem high.1 high.2 _ _⟩

theorem paramTimer_inRange {dflt : TimerParams} (h : dflt.InRange) (img : List Byte) (i : Nat) :
    (paramTimer img i dflt).InRange :=
  ⟨param8_mem h.1.1 h.1.2 _ _, param16_mem h.2.1 h.2.2 _ _⟩

theorem defaultChannels_inRange (i : Fin 7) : (defaultChannels[i]).InRange i := by
  revert i
  unfold ChannelParams.InRange
  decide

theorem defaultTimers_inRange (i : Fin 10) : (defaultTimers[i]).InRange := by
  revert i
  unfold TimerParams.InRange
  decide

theorem Params.ofImage_inRange (img : List Byte) : (Params.ofImage img).InRange := by
  have n8 := fun {lo hi dflt : Nat} (hl : lo ≤ dflt) (hh : dflt ≤ hi) off => param8_mem hl hh img off
  have n16 := fun {lo hi dflt : Nat} (hl : lo ≤ dflt) (hh : dflt ≤ hi) off => param16_mem hl hh img off
  have s16 := fun {lo hi dflt : Int} (hl : lo ≤ dflt) (hh : dflt ≤ hi) off => paramSigned_mem hl hh img off
  have channel : ∀ i : Fin 7, ((Params.ofImage img).channels[i]).InRange i := by
    intro i
    have h := paramChannel_inRange (defaultChannels_inRange i) img
    fin_cases i <;> exact h
  have timer : ∀ i : Fin 10, ((Params.ofImage img).timers[i]).InRange := by
    intro i
    have h := paramTimer_inRange (defaultTimers_inRange i) img i
    fin_cases i <;> exact h
  refine ⟨n8 ?_ ?_ _, n8 ?_ ?_ _, (n8 ?_ ?_ _).2, n8 ?_ ?_ _, (n8 ?_ ?_ _).2, (n8 ?_ ?_ _).2, n8 ?_ ?_ _,
    n8 ?_ ?_ _, (n8 ?_ ?_ _).2, n8 ?_ ?_ _, n8 ?_ ?_ _, (n8 ?_ ?_ _).2, n8 ?_ ?_ _, n8 ?_ ?_ _, n8 ?_ ?_ _,
    n16 ?_ ?_ _, (n16 ?_ ?_ _).2, n16 ?_ ?_ _, n16 ?_ ?_ _, n16 ?_ ?_ _, n16 ?_ ?_ _, n16 ?_ ?_ _,
    n16 ?_ ?_ _, s16 ?_ ?_ _, (n16 ?_ ?_ _).2, (n16 ?_ ?_ _).2, n16 ?_ ?_ _, n16 ?_ ?_ _, n16 ?_ ?_ _,
    n16 ?_ ?_ _, s16 ?_ ?_ _, s16 ?_ ?_ _, s16 ?_ ?_ _, s16 ?_ ?_ _, channel, timer⟩
  all_goals decide

/-- An image without a byte gives every parameter its default (R175). -/
theorem Params.default_eq_ofImage : Params.default = Params.ofImage [] := by decide

theorem Params.default_inRange : Params.default.InRange :=
  Params.default_eq_ofImage ▸ Params.ofImage_inRange []

theorem Cfl.params_inRange (c : Cfl) : c.params.InRange := by
  unfold Cfl.params
  split
  · exact Params.default_inRange
  · exact Params.ofImage_inRange _

end Sys2Proof.Machine
end

section
/-! PROOFS. The commands that reach the line, seen from the owners of the coil: the parameters, the role machine,
the monitor, the fans, the valve and the timers stand but where an order, a cycle end or the load moves them. -/

namespace Sys2Proof.Machine

/-- Parameters, role machine, monitor, fans, valve and timers stand. -/
def SameOwners (s t : State) : Prop :=
  t.params = s.params ∧ t.fde = s.fde ∧ t.cfm = s.cfm ∧ t.fcc = s.fcc ∧ t.vdr = s.vdr ∧ t.itb = s.itb

theorem SameOwners.refl (s : State) : SameOwners s s := ⟨rfl, rfl, rfl, rfl, rfl, rfl⟩

theorem SameOwners.trans {s t u : State} (h : SameOwners s t) (h' : SameOwners t u) : SameOwners s u := by
  obtain ⟨h1, h2, h3, h4, h5, h6⟩ := h
  obtain ⟨g1, g2, g3, g4, g5, g6⟩ := h'
  exact ⟨g1.trans h1, g2.trans h2, g3.trans h3, g4.trans h4, g5.trans h5, g6.trans h6⟩

theorem SameOwners.advance (dt : Nat) (s : State) : SameOwners s (s.advance dt) := by simp [SameOwners]

/-- Timers of the role machine and the monitor as the Safety predicates have them, with what the coil keeps. -/
structure CoilTimed (s : State) : Prop where
  coil : CoilSound s
  roleTimers : RoleTimers s
  frostTimers : FrostTimersFor s.cfm.frost s

theorem CoilTimed.moves {s t : State} (hm : Moves s t) (h : CoilTimed s) : CoilTimed t :=
  hm.keeps (fun _ _ huv hu =>
    ⟨hu.coil.move huv, hu.roleTimers.move huv, hu.frostTimers.move huv⟩) h

theorem CoilTimed.congr {s t : State} (h : CoilTimed s) (same : SameOwners s t) : CoilTimed t := by
  obtain ⟨params, fde, cfm, fcc, vdr, itb⟩ := same
  refine ⟨h.coil.congr (by simp [SameCoil, params, fde, cfm, fcc, vdr]),
    h.roleTimers.congr itb (by rw [fde]), ?_⟩
  rw [cfm]
  exact h.frostTimers.of_running (fun id _ hr => by rwa [State.timer_congr itb] at hr) (by simp [cfm])
    (by simp [cfm]) (by simp [cfm])

/-! ### Frames -/

theorem SameOwners.endFrame (s : State) : SameOwners s s.endFrame := by simp [SameOwners]

/-- A candidate judged against a window is accepted as it stands or leaves the owners alone (R13). -/
theorem State.windowed_cases (k : Nat) (start : Option Nat) (accept : State → State) (s : State) :
    s.windowed k start accept = accept s ∨ SameOwners s (s.windowed k start accept) := by
  unfold State.windowed
  split
  · split
    · exact .inl rfl
    · exact .inr (.refl s)
  · exact .inr (.refl s)

theorem SameOwners.acceptBulletin (k : Nat) (cs : List Byte) (s : State) : SameOwners s (s.acceptBulletin k cs) := by
  simp [SameOwners]

/-- Of the frames only an order that is taken reaches the owners (R6, R161). -/
theorem State.completeFrame_owners (r : RxFrame) (chars : List RxChar) (s : State) :
    ∃ u, SameOwners s u ∧ Moves u (s.completeFrame r chars) := by
  have settled : ∀ t, SameOwners s t → ∃ u, SameOwners s u ∧ Moves u t := fun t ht => ⟨t, ht, .refl⟩
  have ended := SameOwners.endFrame s
  unfold State.completeFrame
  split
  · refine settled _ (ended.trans ?_)
    simp [SameOwners]
  · next e _ =>
    unfold State.validFrame
    split
    · next cs _ =>
      rcases State.windowed_cases 0 r.start (State.acceptOrder cs) s.endFrame with h | h
      · rw [h]
        unfold State.acceptOrder
        split
        · exact ⟨s.endFrame.storeOrder cs, ended.trans (by simp [SameOwners]), Moves.takeOrder _ _⟩
        · exact settled _ (ended.trans (by simp [SameOwners]))
      · exact settled _ (ended.trans h)
    · next k cs _ =>
      repeat' split
      · exact settled _ (ended.trans (by simp [SameOwners]))
      · exact settled _ (ended.trans (by simp [SameOwners]))
      · exact settled _ (ended.trans (by simp [SameOwners]))
      · rcases State.windowed_cases k r.start (State.acceptBulletin k cs) s.endFrame with h | h
        · rw [h]
          exact settled _ (ended.trans (.acceptBulletin k cs _))
        · exact settled _ (ended.trans h)

/-! ### Cycle end and load completion -/

theorem State.timer_countTimer (a b : TimerId) (s : State) : (s.countTimer b).timer a
    = if a = b then (s.timer b).count b.minute (s.timerParams b) else s.timer a :=
  State.timer_setTimer a b _ s

/-- A count of cycle ends starts and stops no timer (R155). -/
theorem Timer.count_running (minute : Bool) (tp : TimerParams) (t : Timer) :
    (t.count minute tp).running = t.running := by
  unfold Timer.count Timer.baseUnit
  repeat' split
  all_goals rfl

/-- Each timer counts a cycle end once (R155). -/
theorem State.timer_countTimers (a : TimerId) (s : State) :
    s.countTimers.timer a = (s.timer a).count a.minute (s.timerParams a) := by
  have params : ∀ (u : State) b c, (u.countTimer b).timerParams c = u.timerParams c := fun _ _ _ => rfl
  unfold State.countTimers allTimers
  cases a <;> simp [State.timer_countTimer, params]

theorem State.timer_reloadRunning (a b : TimerId) (s : State) : (s.reloadRunning b).timer a
    = if a = b ∧ (s.timer b).running = true then (s.timer b).load (s.timerParams b) else s.timer a := by
  unfold State.reloadRunning
  split
  · next h => simp [State.timer_setTimer, h]
  · next h => simp [h]

/-- Each running timer is loaded once with the parameters handed out (R152). -/
theorem State.timer_reloadTimers (a : TimerId) (s : State) : s.reloadTimers.timer a
    = if (s.timer a).running = true then (s.timer a).load (s.timerParams a) else s.timer a := by
  have params : ∀ (u : State) b c, (u.reloadRunning b).timerParams c = u.timerParams c := by
    intro u b c; unfold State.timerParams; simp
  unfold State.reloadTimers allTimers
  cases a <;> simp [State.timer_reloadRunning, params]

theorem Vdr.cycleEnd_eq (p : Params) (v : Vdr) : (v.cycleEnd p).command = v.command
    ∧ (v.cycleEnd p).role = v.role ∧ (v.cycleEnd p).drained = v.drained ∧ (v.cycleEnd p).frost = v.frost
    ∧ (v.cycleEnd p).fansAtRest = v.fansAtRest
    ∧ (v.cycleEnd p).allotmentReceived = v.allotmentReceived ∧ (v.cycleEnd p).stuck = v.stuck := by
  unfold Vdr.cycleEnd
  split <;> simp

/-- The VDR and the FDE at a cycle end (R63, R146). -/
theorem State.endCycle_vdr (cadenceFirst : Bool) (s : State) :
    (s.endCycle cadenceFirst).vdr = s.vdr.cycleEnd s.params := by
  simp [State.endCycle, State.countTravel]

/-- A timer's parameters depend on the parameters in force alone. -/
theorem State.timerParams_congr {s t : State} (h : t.params = s.params) (a : TimerId) :
    t.timerParams a = s.timerParams a := by
  unfold State.timerParams
  rw [h]

theorem State.endCycle_timer (cadenceFirst : Bool) (s : State) (a : TimerId) :
    (s.endCycle cadenceFirst).timer a = (s.timer a).count a.minute (s.timerParams a) := by
  have after : ∀ u : State, ((u.countTravel.countCadenceIf (!cadenceFirst)).countJoining).timer a = u.timer a :=
    fun u => State.timer_congr (by simp) a
  unfold State.endCycle
  dsimp only
  rw [after, State.timer_countTimers, State.timer_congr (s := s) (by simp),
    State.timerParams_congr (s := s) (by simp)]

/-- A cycle end keeps the coil: it latches the inputs of a computation, counts the timers and the travel
(R63, R146, R155). -/
theorem CoilTimed.endCycle {s : State} (h : CoilTimed s) (cadenceFirst : Bool) :
    CoilTimed (s.endCycle cadenceFirst) := by
  have fde : (s.endCycle cadenceFirst).fde.role = s.fde.role := by
    simp [State.endCycle, State.latch]
  have running : ∀ id, ((s.endCycle cadenceFirst).timer id).running = (s.timer id).running := fun id => by
    rw [State.endCycle_timer, Timer.count_running]
  refine ⟨h.coil.congr ?_, h.roleTimers.of_running (fun id _ hr => by rwa [running] at hr) fde, ?_⟩
  · have latched : SameCoil s { s with fde := (s.endCycle cadenceFirst).fde } := by
      simp [SameCoil, State.endCycle, State.latch]
    obtain ⟨command, role, drained, frost, rest, received, -⟩ := Vdr.cycleEnd_eq s.params s.vdr
    obtain ⟨-, -, -, -, flags, -⟩ := latched
    simpa [SameCoil, State.endCycle_vdr, command, role, drained, frost, rest, received] using flags
  · rw [(State.endCycle_frame cadenceFirst s).2.2.2.2.2.2.1]
    exact h.frostTimers.of_running (fun id _ hr => by rwa [running] at hr) (by simp) (by simp) (by simp)

/-- Load completion before the first allotment keeps the coil: the parameters are handed out in their ranges,
fans that are not fitted stop, and the running timers run on (R120, R146, R152, R175). -/
theorem CoilTimed.completeLoad {s : State} (h : CoilTimed s) (early : s.vdr.allotmentReceived = false) :
    CoilTimed s.completeLoad := by
  have check : s.vdr.startCheck.command = s.vdr.command ∧ s.vdr.startCheck.role = s.vdr.role
      ∧ s.vdr.startCheck.drained = s.vdr.drained ∧ s.vdr.startCheck.frost = s.vdr.frost
      ∧ s.vdr.startCheck.fansAtRest = s.vdr.fansAtRest
      ∧ s.vdr.startCheck.allotmentReceived = s.vdr.allotmentReceived := by
    unfold Vdr.startCheck
    split <;> simp
  obtain ⟨command, role, drained, frost, rest, received⟩ := check
  obtain ⟨coil, roleTimers, frostTimers⟩ := h
  have handed : CoilTold s.handOut :=
    { frost := frost.trans coil.frost
      rest := rest.trans coil.rest
      early := fun _ => command.trans (coil.early early)
      clear := coil.clear
      idle := coil.idle
      flags := coil.flags
      ranges := ⟨Cfl.params_inRange _, command.trans_le coil.ranges.2⟩
      role := coil.role
      toldRole := role.trans coil.toldRole
      toldDrained := drained.trans coil.toldDrained
      placed := fun hr => absurd (received.symm.trans hr) (by simp [early]) }
  have fitted : CoilSound s.handOut.fitFans :=
    ⟨handed.setFcc fun _ => Fcc.idles_fit _ _, coil.suspension⟩
  have bank : ∀ id, s.completeLoad.timer id = s.handOut.fitFans.reportIce.reloadTimers.timer id := fun id =>
    State.timer_congr (by simp [State.completeLoad]) id
  have before : ∀ id, s.handOut.fitFans.reportIce.timer id = s.timer id := fun id =>
    State.timer_congr (by simp) id
  have running : ∀ id, (s.completeLoad.timer id).running = (s.timer id).running := fun id => by
    rw [bank, State.timer_reloadTimers, before]
    split
    · next hr => simp [Timer.load, hr]
    · rfl
  refine ⟨fitted.congr (by simp [SameCoil, State.completeLoad]),
    roleTimers.of_running (fun id _ hr => by rwa [running] at hr) (by simp), ?_⟩
  rw [(State.completeLoad_frame s).2.2.2.2.2.1]
  exact frostTimers.of_running (fun id _ hr => by rwa [running] at hr) (by simp) (by simp) (by simp)

/-! ### Every command -/

/-- A command that reaches the line, but for a cycle end, a reset, its release and the load, leaves the owners
to the order that a frame may bring. -/
theorem exec_owners {c : Instr} {s t : State} (hc : reachesLine c = true) (he : exec c s = .next t) :
    (∃ u, SameOwners s u ∧ Moves u t) ∨ (∃ a loop, c = .resetRelease a loop)
      ∨ (∃ ok bytes, c = .configurationLoadCompletion ok bytes) ∨ (∃ e f, c = .cycleEnd e f)
      ∨ c = .resetAsserted := by
  have settled : SameOwners s t → ∃ u, SameOwners s u ∧ Moves u t := fun h => ⟨t, h, .refl⟩
  cases c <;> simp only [reachesLine, Bool.false_eq_true] at hc <;> simp only [exec] at he
  case resetRelease a loop => exact .inr (.inl ⟨a, loop, rfl⟩)
  case configurationLoadCompletion ok bytes => exact .inr (.inr (.inl ⟨ok, bytes, rfl⟩))
  case cycleEnd e f => exact .inr (.inr (.inr (.inl ⟨e, f, rfl⟩)))
  case resetAsserted => exact .inr (.inr (.inr (.inr rfl)))
  case frameCompletion e chars =>
    refine .inl ?_
    unfold execFrameCompletion at he
    dsimp only at he
    split at he
    · next r _ =>
      cases he
      obtain ⟨u, same, moves⟩ := State.completeFrame_owners r chars (s.advance e)
      exact ⟨u, (SameOwners.advance e s).trans same, moves⟩
    · cases he; exact settled (.advance e s)
  case frameStartDetected e =>
    refine .inl (settled ?_)
    unfold execFrameStartDetected at he
    dsimp only at he
    split at he <;> cases he <;> simp [SameOwners]
  case strayCharacter e =>
    refine .inl (settled ?_)
    unfold execStrayCharacter at he
    dsimp only at he
    split at he <;> cases he <;> simp [SameOwners]
  case ownSlotStart e =>
    refine .inl (settled ?_)
    unfold execOwnSlotStart at he
    dsimp only at he
    split at he <;> cases he <;> simp [SameOwners]
  case transmitInstant e busy =>
    refine .inl (settled ?_)
    unfold execTransmitInstant at he
    dsimp only at he
    repeat' split at he
    all_goals cases he; simp [SameOwners]
  case transmitReadbackMismatch r =>
    refine .inl (settled ?_)
    unfold execTransmitReadbackMismatch at he
    dsimp only at he
    repeat' split at he
    all_goals cases he; simp [SameOwners]
  case cleanTransmission r =>
    refine .inl (settled ?_)
    unfold execCleanTransmission at he
    dsimp only at he
    repeat' split at he
    all_goals cases he; simp [SameOwners]
  case listenWindowEndInSilence e =>
    refine .inl (settled ?_)
    unfold execListenWindowEndInSilence at he
    dsimp only at he
    split at he <;> cases he <;> simp [SameOwners]
  case ageingMark e =>
    refine .inl (settled ?_)
    unfold execAgeingMark at he
    dsimp only at he
    split at he <;> cases he <;> simp [SameOwners]
  case readRequest e =>
    refine .inl (settled ?_)
    unfold execReadRequest at he
    dsimp only at he
    split at he <;> cases he <;> simp [SameOwners]

/-- After a reset the coil's items stand as they must. -/
theorem CoilTimed.reset : CoilTimed State.reset := by
  have flags : FlagsOfRole State.reset := by unfold FlagsOfRole; decide
  refine ⟨⟨⟨⟨rfl, by decide, by decide, by decide, by decide, flags, Params.default_inRange, by decide⟩,
    by decide, rfl, rfl, fun hr => absurd hr (by decide)⟩, by decide⟩, ?_, ?_⟩
  · unfold RoleTimers; decide
  · unfold FrostTimersFor; decide

theorem CoilTimed.exec {c : Instr} {s t : State} (h : CoilTimed s) (load : NothingBeforeLoad s)
    (he : exec c s = .next t) : CoilTimed t := by
  cases hc : reachesLine c with
  | false => exact h.moves (exec_moves hc he)
  | true =>
    rcases exec_owners hc he with ⟨u, same, moves⟩ | ⟨a, loop, rfl⟩ | ⟨ok, bytes, rfl⟩ | ⟨e, f, rfl⟩ | rfl
    · exact (h.congr same).moves moves
    · simp only [Machine.exec, execResetRelease] at he
      split at he
      · cases he; exact h
      · cases he
        have latched : CoilTimed (s.latchStraps a loop) := h.congr (by simp [SameOwners])
        exact latched.moves ((Move.startTimer .ice _ (by simp)).moves.tail (Move.startTimer .ord _ (by simp)))
    · simp only [Machine.exec, execConfigurationLoadCompletion] at he
      split at he
      · next hl =>
        cases he
        have early := (load (by simpa using hl.2)).2.2.2.2.2.2
        split
        · exact CoilTimed.completeLoad (h.congr (by simp [SameOwners])) early
        · exact h.congr (by simp [SameOwners])
      · cases he; exact h
    · simp only [Machine.exec, execCycleEnd] at he
      have advanced := h.congr (SameOwners.advance e s)
      split at he
      · cases he; exact advanced.endCycle f
      · cases he; exact advanced
    · cases he; exact CoilTimed.reset.congr (by simp [SameOwners])

end Sys2Proof.Machine
end

section
/-! PROOFS. Line events: what every command is made of, those that reach the line, the load and the reset
included; and what the line keeps before the load (R14, R16, R44, R63). -/

namespace Sys2Proof.Machine

/-- What a command `c` does at a time: a move, or one event of the line, under the condition its rule names. -/
inductive Line (c : Instr) : State → State → Prop
  | move {s t : State} (h : Move s t) : Line c s t
  | advance (dt : Nat) (s : State) : Line c s (s.advance dt)
  | release (address : BitVec 5) (loop : Bool) (s : State) (early : s.released = false) :
      Line c s (s.latchStraps address loop)
  | load (f : Cfl) (s : State) (early : s.loaded = false) : Line c s (State.completeLoad { s with cfl := f })
  | beginFrame (s : State) (loaded : s.loaded = true) :
      Line c s { s with lsc := { s.lsc with rx := some ⟨s.lsc.position, 0⟩ } }
  | stray (s : State) : Line c s { s with lsc := { s.lsc with idle := 0 } }
  | frame (r : RxFrame) (chars : List RxChar) (s : State) (rx : s.lsc.rx = some r) :
      Line c s (s.completeFrame r chars)
  | compose (s : State) (active : s.lsc.bus = .active) : Line c s s.compose
  | send (s : State) (due : s.transmitDue = true) :
      Line c s { s with lsc := { s.lsc with sending := s.lsc.composed, composed := none } }
  | mismatch (s : State) (sends : s.transmitDue = true ∨ s.lsc.sending.isSome = true) : Line c s s.mismatch
  | endClean (cs : List Byte) (s : State) (sending : s.lsc.sending = some cs) : Line c s (s.endClean cs)
  | openActive (s : State) (listen : s.lsc.bus = .listen) (silent : s.lsc.window = some 0) :
      Line c s (State.compose { s.jump (s.own * slotUs) with
        lsc := { (s.jump (s.own * slotUs)).lsc with bus := .active, window := none } })
  | endCycle (cadenceFirst : Bool) (s : State) (hc : ∃ e, c = .cycleEnd e cadenceFirst)
      (raises : s.lsc.bus.raisesCycleEnd = true) (passed : s.lsc.endPassed = true) :
      Line c s (s.endCycle cadenceFirst)
  | markAgeing (s : State) (hc : ∃ e, c = .ageingMark e) (bad : s.lsc.bus = .unaddressed)
      (passed : s.lsc.endPassed = true) : Line c s s.markAgeing
  | reset (s : State) (hc : c = .resetAsserted) :
      Line c s { State.reset with
        pending := s.pending, freeCount := s.freeCount, cadenceFirst := s.cadenceFirst }

/-- A chain of a command's events. -/
abbrev Lines (c : Instr) : State → State → Prop := Relation.ReflTransGen (Line c)

theorem Lines.keeps {P : State → Prop} {c : Instr} (h : ∀ s t, Line c s t → P s → P t) {s t : State}
    (hl : Lines c s t) (hs : P s) : P t := by
  induction hl with
  | refl => exact hs
  | tail _ hb ih => exact h _ _ hb ih

theorem Moves.lines {c : Instr} {s t : State} (h : Moves s t) : Lines c s t :=
  Relation.ReflTransGen.mono (fun _ _ => Line.move) _ _ h

theorem Lines.advance (c : Instr) (dt : Nat) (s : State) : Lines c s (s.advance dt) := .single (.advance dt s)

theorem Lines.advanceThen {c : Instr} {dt : Nat} {s t : State} (h : Line c (s.advance dt) t) : Lines c s t :=
  (Lines.advance c dt s).tail h

/-- The image read ends or goes on; the defaults flag is judged at load completion (R174, R175). -/
theorem Cfl.complete_defaults (ok : Bool) (bytes : List Byte) (f : Cfl) :
    (f.complete ok bytes).defaults = f.defaults := by
  unfold Cfl.complete
  split
  · rfl
  · split
    · exact Cfl.read_defaults bytes f
    · rfl

theorem exec_lines {c : Instr} {s t : State} (he : exec c s = .next t) : Lines c s t := by
  cases hc : reachesLine c with
  | false => exact (exec_moves hc he).lines
  | true =>
    cases c <;> simp only [reachesLine, Bool.false_eq_true] at hc <;> simp only [exec] at he
    case resetRelease a loop =>
      unfold execResetRelease at he
      split at he
      · cases he; exact .refl
      · next h =>
        cases he
        exact ((Relation.ReflTransGen.single (.release a loop s (by simpa using h))).tail
          (.move (.startTimer .ice _ (by simp)))).tail (.move (.startTimer .ord _ (by simp)))
    case configurationLoadCompletion ok bytes =>
      unfold execConfigurationLoadCompletion at he
      split at he
      · next h =>
        cases he
        split
        · exact .single (.load _ s (by simpa using h.2))
        · exact (Move.readImage _ s (Cfl.complete_defaults ok bytes s.cfl)).moves.lines
      · cases he; exact .refl
    case frameStartDetected e =>
      unfold execFrameStartDetected at he
      dsimp only at he
      split at he
      · next h => cases he; exact Lines.advanceThen (.beginFrame _ h.1)
      · cases he; exact Lines.advance _ e s
    case strayCharacter e =>
      unfold execStrayCharacter at he
      dsimp only at he
      split at he
      · cases he; exact Lines.advanceThen (.stray _)
      · cases he; exact Lines.advance _ e s
    case frameCompletion e chars =>
      unfold execFrameCompletion at he
      dsimp only at he
      split at he
      · next r h => cases he; exact Lines.advanceThen (.frame r chars _ h)
      · cases he; exact Lines.advance _ e s
    case ownSlotStart e =>
      unfold execOwnSlotStart at he
      dsimp only at he
      split at he
      · next h => cases he; exact Lines.advanceThen (.compose _ h.1)
      · cases he; exact Lines.advance _ e s
    case transmitInstant e busy =>
      unfold execTransmitInstant at he
      dsimp only at he
      split at he
      · next h =>
        split at he
        · cases he; exact Lines.advanceThen (.mismatch _ (.inl h))
        · cases he; exact Lines.advanceThen (.send _ h)
      · cases he; exact Lines.advance _ e s
    case transmitReadbackMismatch r =>
      unfold execTransmitReadbackMismatch at he
      dsimp only at he
      split at he
      · next cs h =>
        split at he
        · cases he; exact Lines.advanceThen (.mismatch _ (.inr (by simp [h])))
        · cases he; exact Lines.advance _ r.elapsed s
      · cases he; exact Lines.advance _ r.elapsed s
    case cleanTransmission r =>
      unfold execCleanTransmission at he
      dsimp only at he
      split at he
      · next cs h =>
        split at he
        · cases he; exact Lines.advanceThen (.endClean cs _ h)
        · cases he; exact Lines.advance _ r.elapsed s
      · cases he; exact Lines.advance _ r.elapsed s
    case listenWindowEndInSilence e =>
      unfold execListenWindowEndInSilence at he
      dsimp only at he
      split at he
      · next h => cases he; exact Lines.advanceThen (.openActive _ h.1 h.2)
      · cases he; exact Lines.advance _ e s
    case cycleEnd e f =>
      unfold execCycleEnd at he
      dsimp only at he
      split at he
      · next h => cases he; exact Lines.advanceThen (.endCycle f _ ⟨e, rfl⟩ h.1 h.2)
      · cases he; exact Lines.advance _ e s
    case ageingMark e =>
      unfold execAgeingMark at he
      dsimp only at he
      split at he
      · next h => cases he; exact Lines.advanceThen (.markAgeing _ ⟨e, rfl⟩ h.1 h.2)
      · cases he; exact Lines.advance _ e s
    case readRequest e =>
      unfold execReadRequest at he
      dsimp only at he
      split at he
      · next view start count _ _ =>
        cases he
        have served : Move (s.advance e) ((s.advance e).serve view start count) := by
          unfold State.serve
          split
          · exact .port _ _ fun _ => Svp.sound_answerOne _ _
          · exact .port _ _ fun _ => Svp.sound_send _ _
        exact ((Lines.advance _ e s).tail (.move served)).tail (.move (.spend _ _))
      · cases he; exact Lines.advance _ e s
    case resetAsserted => cases he; exact .single (.reset s rfl)

/-! ### Before the load -/

/-- Before the load crystal time does not reach the LSC (R7; log entry 2). -/
theorem State.advance_of_unloaded {s : State} (h : s.loaded = false) (dt : Nat) : s.advance dt = s := by
  simp [State.advance, h]

theorem State.completeLoad_loaded (s : State) : s.completeLoad.loaded = true := by
  simp [State.completeLoad, State.handOut]

theorem NothingBeforeLoad.of_loaded {s t : State} (same : t.loaded = s.loaded)
    (early : s.loaded = false → False) : NothingBeforeLoad t := fun ht =>
  (early (same.symm.trans ht)).elim

/-- There is no slot position to take, and so no frame, transmission, listen window or end of slot 24, before the
load (R14, R16, R44, R63). -/
theorem NothingBeforeLoad.line {c : Instr} {s t : State} (hl : Line c s t) (h : NothingBeforeLoad s) :
    NothingBeforeLoad t := by
  cases hl with
  | move hm => exact h.move hm
  | load f s early => exact fun ht => by simp [State.completeLoad_loaded] at ht
  | reset s hc => exact fun _ => ⟨rfl, rfl, rfl, rfl, rfl, rfl, rfl⟩
  | release | compose | stray => exact h
  | advance dt s =>
    intro ht
    have hs : s.loaded = false := by simpa using ht
    rw [State.advance_of_unloaded hs]; exact h hs
  | beginFrame s loaded => exact .of_loaded (s := s) rfl (by simp [loaded])
  | frame r chars s rx => exact .of_loaded (s := s) (by simp) fun hs => by simp_all [NothingBeforeLoad]
  | send s due => exact .of_loaded (s := s) rfl fun hs => by simp_all [NothingBeforeLoad, State.transmitDue]
  | mismatch s sends =>
    exact .of_loaded (s := s) rfl fun hs => by simp_all [NothingBeforeLoad, State.transmitDue]
  | endClean cs s sending => exact .of_loaded (s := s) rfl fun hs => by simp_all [NothingBeforeLoad]
  | openActive s listen silent => exact .of_loaded (s := s) rfl fun hs => by simp_all [NothingBeforeLoad]
  | endCycle f s hc raises passed => exact .of_loaded (s := s) (by simp) fun hs => by simp_all [NothingBeforeLoad]
  | markAgeing s hc bad passed =>
    exact .of_loaded (s := s) rfl fun hs => by simp_all [NothingBeforeLoad]

theorem NothingBeforeLoad.exec {c : Instr} {s t : State} (h : NothingBeforeLoad s)
    (he : exec c s = .next t) : NothingBeforeLoad t :=
  (exec_lines he).keeps (fun _ _ => NothingBeforeLoad.line) h

/-! ### The coil along every step -/

/-- Settles O58: the coil's items are kept move by move, and the commands that reach the line touch them only in
an order, a cycle end, the load and a reset; the load finds no allotment. -/
theorem everyStepKeepsTheCoilProtected : Obligations.EveryStepKeepsTheCoilProtected := by
  intro s t ⟨protected_, flags, held, early, ranges, timers⟩ hst
  obtain ⟨roleTimers, frostTimers⟩ := (timersOfState_iff s).1 timers
  have start : CoilTimed s ∧ NothingBeforeLoad s :=
    ⟨⟨(coilSound_iff s).2 ⟨protected_, flags, held, ranges⟩, roleTimers, frostTimers⟩, early⟩
  obtain ⟨⟨coil, roleTimers', frostTimers'⟩, early'⟩ :=
    step_keeps (P := fun u => CoilTimed u ∧ NothingBeforeLoad u)
      (fun _ _ h => ⟨h.1.congr ⟨rfl, rfl, rfl, rfl, rfl, rfl⟩, h.2⟩)
      (fun _ _ _ h he => ⟨h.1.exec h.2 he, h.2.exec he⟩) start hst
  obtain ⟨protected', flags', held', ranges'⟩ := (coilSound_iff t).1 coil
  exact ⟨protected', flags', held', early', ranges', (timersOfState_iff t).2 ⟨roleTimers', frostTimers'⟩⟩

end Sys2Proof.Machine
end

section
/-! PROOFS. Arrivals: what a frame at its end is made of; and the bus state's rules at every step (R7, R14, R16,
R19, R21, R23). -/

namespace Sys2Proof.Machine

/-- Characters that R4 judges a bulletin of station k. -/
def BulletinFrom (k : Nat) (cs : List Byte) : Prop :=
  1 ≤ k ∧ k ≤ 24 ∧ cs.length = 21 ∧ (byteAt cs 3).toNat = k ∧ byteAt cs 3 = byteAt cs 2

theorem bulletinFrom_of_judgeFrame {chars : List RxChar} {k : Nat} {cs : List Byte}
    (h : judgeFrame chars = some (.bulletin k cs)) : BulletinFrom k cs := by
  unfold judgeFrame at h
  dsimp only at h
  split at h
  · cases h
  · split at h
    · next hv =>
      obtain ⟨-, length, same, low, high⟩ := hv
      cases h
      exact ⟨low, high, length, rfl, same⟩
    · split at h <;> cases h

/-- What a frame at its end does at a time. -/
inductive Arrival : State → State → Prop
  | move {s t : State} (h : Move s t) : Arrival s t
  | crc (k : Nat) (s : State) : Arrival s { s with btb := s.btb.countCrc k }
  | misaligned (k : Nat) (s : State) : Arrival s { s with btb := s.btb.countMisaligned k }
  | order (cs : List Byte) (s : State) : Arrival s (s.storeOrder cs)
  | jump (p : Nat) (s : State) (range : p < cycleUs) : Arrival s (s.jump p)
  | bulletin (k : Nat) (cs : List Byte) (s : State) (valid : BulletinFrom k cs) :
      Arrival s (s.acceptBulletin k cs)
  | join (s : State) (listen : s.lsc.bus = .listen) : Arrival s s.join
  | duplicate (s : State) (bus : s.lsc.bus = .listen ∨ s.lsc.bus = .joining ∨ s.lsc.bus = .active) :
      Arrival s s.enterDuplicate

abbrev Arrivals : State → State → Prop := Relation.ReflTransGen Arrival

theorem Arrivals.keeps {P : State → Prop} (h : ∀ s t, Arrival s t → P s → P t) {s t : State}
    (ha : Arrivals s t) (hs : P s) : P t := by
  induction ha with
  | refl => exact hs
  | tail _ hb ih => exact h _ _ hb ih

theorem realignedPosition_lt (k elapsed : Nat) : realignedPosition k elapsed < cycleUs :=
  Nat.mod_lt _ (by decide)

theorem Arrivals.acceptOrder (cs : List Byte) (s : State) : Arrivals s (s.acceptOrder cs) := by
  have stored : Arrivals s (s.storeOrder cs) := .single (.order cs s)
  unfold State.acceptOrder
  split
  · exact stored.trans (Relation.ReflTransGen.mono (fun _ _ => Arrival.move) _ _ (Moves.takeOrder _ _))
  · exact stored

theorem Arrivals.windowed {k : Nat} {start : Option Nat} {accept : State → State} {s : State}
    (h : Arrivals s (accept s)) : Arrivals s (s.windowed k start accept) := by
  unfold State.windowed
  split
  · split
    · exact h
    · exact .single (.misaligned k s)
  · exact .refl

theorem Arrivals.endWindow {k : Nat} {cs : List Byte} {s : State} (valid : BulletinFrom k cs)
    (listen : s.lsc.bus = .listen) (elapsed : Nat) : Arrivals s (s.endWindow k elapsed cs) :=
  ((Relation.ReflTransGen.single (.jump _ s (realignedPosition_lt k elapsed))).tail
    (.bulletin k cs _ valid)).tail (.join _ listen)

theorem Arrivals.validFrame {e : Envelope} {s : State} (r : RxFrame)
    (valid : ∀ k cs, e = .bulletin k cs → BulletinFrom k cs) : Arrivals s (s.validFrame r e) := by
  unfold State.validFrame
  split
  · exact .windowed (.acceptOrder _ s)
  · next k cs =>
    have accepted : ∀ u : State, Arrivals u (u.acceptBulletin k cs) := fun u =>
      .single (.bulletin k cs u (valid k cs rfl))
    split
    · unfold State.ownAddressBulletin
      split
      · next h => exact .single (.duplicate s (.inl h))
      · next h => exact .single (.duplicate s (.inr (.inl h)))
      · next h => exact .single (.duplicate s (.inr (.inr h)))
      · exact .refl
      · exact .refl
    · split
      · next h => exact .endWindow (valid k cs rfl) h r.elapsed
      · split
        · exact (Relation.ReflTransGen.single (.jump _ s (realignedPosition_lt k r.elapsed))).trans (accepted _)
        · exact .windowed (accepted s)

theorem State.completeFrame_arrivals (r : RxFrame) (chars : List RxChar) (s : State) :
    Arrivals s.endFrame (s.completeFrame r chars) := by
  unfold State.completeFrame
  split
  · unfold State.malformed
    split
    · exact .single (.crc _ _)
    · exact .refl
  · next e he =>
    exact .validFrame r fun k cs hk => bulletinFrom_of_judgeFrame (by rw [he, hk])

/-! ### The bus state's rules -/

/-- The line, the straps and the release stand. -/
theorem BusSound.congr {s t : State} (h : BusSound s) (lsc : t.lsc = s.lsc) (straps : t.straps = s.straps)
    (released : t.released = s.released) : BusSound t := by
  unfold BusSound
  rwa [lsc, straps, released]

theorem BusSound.move {s t : State} (hm : Move s t) (h : BusSound s) : BusSound t := by
  obtain ⟨lsc, -, straps, -, released, -⟩ := hm.frame
  exact h.congr lsc straps released

/-- A bus state that is not UNADDRESSED has a good address behind it. -/
theorem BusSound.good {s : State} (h : BusSound s) (bus : s.lsc.bus ≠ .unaddressed) :
    goodAddress s.straps.address = true := by
  by_contra hg
  exact bus (h.2.1 (by simpa using hg))

theorem BusSound.released {s : State} (h : BusSound s) (bus : s.lsc.bus ≠ .unaddressed) :
    s.released = true := by
  by_contra hg
  exact bus (h.1 (by simpa using hg))

theorem BusSound.jump {p : Nat} {s : State} (h : BusSound s) (range : p < cycleUs) : BusSound (s.jump p) := by
  obtain ⟨early, bad, quiet, -, counts⟩ := h
  refine ⟨early, bad, fun hb => ?_, by simpa [State.jump, Lsc.jump] using range, counts⟩
  obtain ⟨composed, sending⟩ := quiet hb
  simp [State.jump, Lsc.jump, composed, sending]

theorem BusSound.acceptBulletin {s : State} (h : BusSound s) (k : Nat) (cs : List Byte) :
    BusSound (s.acceptBulletin k cs) := by
  obtain ⟨early, bad, quiet, range, collisions, -, extension⟩ := h
  exact ⟨early, bad, quiet, range, collisions, Nat.zero_le _, extension⟩

theorem BusSound.join {s : State} (h : BusSound s) (listen : s.lsc.bus = .listen) : BusSound s.join := by
  have released := h.released (by simp [listen])
  have good := h.good (by simp [listen])
  obtain ⟨-, -, quiet, counts⟩ := h
  exact ⟨by simp [State.join, released], by simp [State.join, good],
    fun _ => quiet (by simp [listen]), counts⟩

theorem BusSound.enterDuplicate {s : State} (h : BusSound s) (bus : s.lsc.bus ≠ .unaddressed) :
    BusSound s.enterDuplicate := by
  have released := h.released bus
  have good := h.good bus
  obtain ⟨-, -, -, range, -, -, extension⟩ := h
  refine ⟨?_, ?_, fun _ => ?_, range, ?_, ?_, extension⟩ <;>
    simp [State.enterDuplicate, State.reportLive, Lsc.enterDuplicate, released, good]

theorem BusSound.arrival {s t : State} (ha : Arrival s t) (h : BusSound s) : BusSound t := by
  cases ha with
  | move hm => exact h.move hm
  | crc | misaligned | order => exact h
  | jump p s range => exact h.jump range
  | bulletin k cs s valid => exact h.acceptBulletin k cs
  | join s listen => exact h.join listen
  | duplicate s bus =>
    exact h.enterDuplicate (by rcases bus with bus | bus | bus <;> simp [bus])

theorem BusSound.completeFrame {s : State} (h : BusSound s) (r : RxFrame) (chars : List RxChar) :
    BusSound (s.completeFrame r chars) :=
  (State.completeFrame_arrivals r chars s).keeps (fun _ _ => BusSound.arrival) (s := s.endFrame) h

theorem BusSound.advance {s : State} (h : BusSound s) (dt : Nat) : BusSound (s.advance dt) := by
  unfold State.advance
  split
  · obtain ⟨early, bad, quiet, range, counts⟩ := h
    refine ⟨early, bad, quiet, fun p hp => ?_, counts⟩
    obtain ⟨q, -, rfl⟩ := Option.map_eq_some_iff.1 hp
    exact Nat.mod_lt _ (by decide)
  · exact h

theorem BusSound.latchStraps {s : State} (h : BusSound s) (early : s.released = false) (address : BitVec 5)
    (loop : Bool) : BusSound (s.latchStraps address loop) := by
  obtain ⟨unaddressed, -, quiet, counts⟩ := h
  exact ⟨by simp [State.latchStraps], fun hg => by simp [State.latchStraps, show goodAddress address = false from hg],
    fun _ => quiet (by simp [unaddressed early]), counts⟩

theorem BusSound.completeLoad {s : State} (h : BusSound s) : BusSound s.completeLoad := by
  have start : BusSound { s with lsc := s.lsc.start s.own } := by
    obtain ⟨early, bad, quiet, range, collisions, isolation, extension⟩ := h
    unfold Lsc.start
    split
    · next hb =>
      exact ⟨fun _ => hb, fun _ => hb, fun _ => quiet (by simp [hb]), by simp [cycleUs], collisions, isolation,
        extension⟩
    all_goals exact ⟨early, bad, quiet, range, collisions, isolation, Nat.zero_le _⟩
  exact start.congr (by simp [State.completeLoad, State.handOut]) (by simp) (by simp)

/-- The station holds or sends a bulletin, so it is in ACTIVE. -/
theorem BusSound.active {s : State} (h : BusSound s)
    (sends : s.transmitDue = true ∨ s.lsc.sending.isSome = true) : s.lsc.bus = .active := by
  rcases sends with due | sending
  · simp only [State.transmitDue, Bool.and_eq_true, beq_iff_eq] at due
    exact due.1.1
  · by_contra hb
    simp [(h.2.2.1 hb).2] at sending

theorem Ssc.extension_le (c : Ssc) : c.extension ≤ 7 := by
  unfold Ssc.extension
  split <;> omega

theorem BusSound.mismatch {s : State} (h : BusSound s) (active : s.lsc.bus = .active) :
    BusSound s.mismatch := by
  have released := h.released (by simp [active])
  have good := h.good (by simp [active])
  have drawn := Ssc.extension_le s.ssc
  obtain ⟨-, -, -, range, collisions, isolation, extension⟩ := h
  unfold State.mismatch Lsc.collide
  split
  · exact ⟨by simp [released], by simp [good], by simp, range, by simp; omega, isolation, extension⟩
  · exact ⟨by simp [released], by simp [good], by simp, range, by simp, isolation, drawn⟩

theorem BusSound.openActive {s : State} (h : BusSound s) (listen : s.lsc.bus = .listen) :
    BusSound (State.compose { s.jump (s.own * slotUs) with
      lsc := { (s.jump (s.own * slotUs)).lsc with bus := .active, window := none } }) := by
  have released := h.released (by simp [listen])
  have good := h.good (by simp [listen])
  have own : s.own * slotUs < cycleUs := by
    simp only [State.own, ownAddressOf, good, if_true, slotUs, cycleUs]
    simp only [goodAddress, Bool.and_eq_true, decide_eq_true_eq] at good
    omega
  obtain ⟨-, -, -, range, counts⟩ := h.jump own
  exact ⟨by simp [released], by simp [good], fun hb => absurd rfl hb, range, counts⟩

/-- The LSC at a cycle end: the isolation count, the anchor, JOINING (R9, R11, R18, R23). -/
theorem State.endCycle_lsc (cadenceFirst : Bool) (s : State) : (s.endCycle cadenceFirst).lsc
    = (((s.lsc.countIsolation s.own).takeEnd).recomputeAnchor s.own).countJoining := by
  have isolated : ∀ u : State, u.countIsolation.lsc = u.lsc.countIsolation u.own := fun u => by
    unfold State.countIsolation
    split <;> rfl
  simp [State.endCycle, State.countJoining, State.takeEnd, isolated, State.own]

theorem Lsc.countIsolation_isolation_le {own : Nat} {l : Lsc} (h : l.isolation ≤ 10) :
    (l.countIsolation own).isolation ≤ 10 := by
  unfold Lsc.countIsolation satInc
  split
  · dsimp only; split <;> omega
  · exact h

theorem BusSound.endCycle {s : State} (h : BusSound s) (cadenceFirst : Bool) (raises : s.lsc.bus ≠ .unaddressed) :
    BusSound (s.endCycle cadenceFirst) := by
  have released := h.released raises
  have good := h.good raises
  obtain ⟨-, -, quiet, range, collisions, isolation, extension⟩ := h
  have counted : (s.lsc.countIsolation s.own).isolation ≤ 10 := Lsc.countIsolation_isolation_le isolation
  have rest : (s.lsc.countIsolation s.own) = { s.lsc with isolation := (s.lsc.countIsolation s.own).isolation } := by
    unfold Lsc.countIsolation; split <;> rfl
  refine ⟨by simp [released], by simp [good], ?_⟩
  rw [State.endCycle_lsc, rest]
  unfold Lsc.countJoining
  split
  · next joining =>
    have joined : s.lsc.bus = .joining := joining
    split
    · exact ⟨fun hb => absurd rfl hb, range, collisions, counted, extension⟩
    · exact ⟨fun _ => quiet (by simp [joined]), range, collisions, counted, extension⟩
  · exact ⟨quiet, range, collisions, counted, extension⟩

theorem BusSound.line {c : Instr} {s t : State} (hl : Line c s t) (h : BusSound s) : BusSound t := by
  cases hl with
  | move hm => exact h.move hm
  | advance dt s => exact h.advance dt
  | release address loop s early => exact h.latchStraps early address loop
  | load f s early => exact BusSound.completeLoad (s := { s with cfl := f }) h
  | beginFrame | stray => exact h
  | frame r chars s rx => exact h.completeFrame r chars
  | compose s active =>
    obtain ⟨early, bad, -, counts⟩ := h
    exact ⟨early, bad, fun hb => absurd active hb, counts⟩
  | send s due =>
    have active := h.active (.inl due)
    obtain ⟨early, bad, -, counts⟩ := h
    exact ⟨early, bad, fun hb => absurd active hb, counts⟩
  | mismatch s sends => exact h.mismatch (h.active sends)
  | endClean cs s sending =>
    have active := h.active (.inr (by simp [sending]))
    obtain ⟨early, bad, -, range, -, counts⟩ := h
    exact ⟨early, bad, fun hb => absurd active hb, range, Nat.zero_le _, counts⟩
  | openActive s listen silent => exact h.openActive listen
  | endCycle f s hc raises passed => exact h.endCycle f (fun hb => by simp [hb, BusState.raisesCycleEnd] at raises)
  | markAgeing s hc bad passed => exact h
  | reset s hc => exact ⟨fun _ => rfl, fun _ => rfl, fun _ => ⟨rfl, rfl⟩, by simp [State.reset, Lsc.reset],
      Nat.zero_le _, Nat.zero_le _, Nat.zero_le _⟩

end Sys2Proof.Machine
end

section
/-! PROOFS. Live conditions: what each owner says of its category, reports that follow it, and every step
(R22, R23, R61, R83, R113, R138, R148, R165, R167, R175). -/

namespace Sys2Proof.Machine

/-! ### Masks -/

theorem Category.bit_injective : Function.Injective Category.bit := by
  intro a b h
  cases a <;> cases b <;> simp_all [Category.bit]

theorem Category.bit_lt (c : Category) : c.bit < 12 := by cases c <;> decide

theorem hasAlert_mask (c d : Category) : c.mask.getLsbD d.bit = decide (d = c) := by
  simp [Category.mask, d.bit_lt, Category.bit_injective.eq_iff]

/-- A category's bit after a put (R26, R167). -/
@[simp] theorem hasAlert_putAlert (m : AlertMask) (c d : Category) (on : Bool) :
    hasAlert (putAlert m c on) d = if d = c then on else hasAlert m d := by
  unfold putAlert hasAlert
  cases on with
  | true =>
    rw [if_pos rfl, BitVec.getLsbD_or, hasAlert_mask]
    by_cases h : d = c <;> simp [h]
  | false =>
    rw [if_neg (by simp), BitVec.getLsbD_and, BitVec.getLsbD_not, hasAlert_mask]
    by_cases h : d = c <;> simp [h, d.bit_lt]

/-! ### What the owners say -/

/-- What its owner says of a live condition that stands at `on`; FIELD_SHORT is of the last computation alone. -/
def State.Says (s : State) (on : Bool) : Category → Prop
  | .frostGuard => on = true ↔ s.cfm.frost = .guard
  | .frostTrip => on = true ↔ s.cfm.frost = .protect ∨ s.cfm.frost = .recover
  | .fanIce => on = true ↔ ∃ i, (s.fcc.channel i).state = .iced
  | .valveStuck => on = true ↔ s.vdr.stuck = true
  | .sensorFail => on = true ↔ ∃ i : Fin 7, s.ssc.channels[i].failed = true
  | .converterFault => on = true ↔ s.ssc.fault = true
  | .busIsolated => on = true ↔ s.lsc.isolation = 10
  | .dupAddress => on = true ↔ s.lsc.bus = .duplicate
  | .fieldShort => True
  | .fieldOvercool => on = true ↔ 30 ≤ s.fde.overcool
  | .panelSilent => on = true → s.ord.taken = true
  | .configDefault => on = true ↔ s.cfl.defaults = true

/-- The live conditions but for those of `cs` stand as their owners say. -/
def FollowsBut (cs : List Category) (s : State) : Prop :=
  ∀ c, c ∉ cs → s.Says (hasAlert s.aou.live c) c

theorem followsBut_nil_iff (s : State) : FollowsBut [] s ↔ LiveFollowsOwners s := by
  constructor
  · intro h
    have said := fun c => h c (by simp)
    exact ⟨said .frostGuard, said .frostTrip, said .fanIce, said .valveStuck, said .sensorFail,
      said .converterFault, said .busIsolated, said .dupAddress, said .fieldOvercool, said .panelSilent,
      said .configDefault⟩
  · rintro ⟨guard, trip, ice, stuck, failed, fault, isolated, duplicate, overcool, silent, defaults⟩ c -
    cases c
    exacts [guard, trip, ice, stuck, failed, fault, isolated, duplicate, trivial, overcool, silent, defaults]

theorem FollowsBut.weaken {cs ds : List Category} {s : State} (h : FollowsBut cs s) (sub : cs ⊆ ds) :
    FollowsBut ds s := fun c hc => h c fun hm => hc (sub hm)

/-- An event that leaves the live mask and what the owners say of all conditions but those of `cs`. -/
theorem FollowsBut.congr {cs : List Category} {s t : State} (h : FollowsBut cs s)
    (live : t.aou.live = s.aou.live) (said : ∀ c, c ∉ cs → ∀ on, s.Says on c → t.Says on c) : FollowsBut cs t :=
  fun c hc => by rw [live]; exact said c hc _ (h c hc)

/-- Where two states agree in what the owners look at, the owners say the same. -/
structure SameSays (s t : State) : Prop where
  live : t.aou.live = s.aou.live := by simp
  frost : t.cfm.frost = s.cfm.frost := by simp
  iced : s.fcc.Each FanChannel.SameIced t.fcc
  stuck : t.vdr.stuck = s.vdr.stuck := by simp
  failed : ∀ i : Fin 7, t.ssc.channels[i].failed = s.ssc.channels[i].failed := by simp
  fault : t.ssc.fault = s.ssc.fault := by simp
  isolation : t.lsc.isolation = s.lsc.isolation := by simp
  bus : t.lsc.bus = .duplicate ↔ s.lsc.bus = .duplicate := by simp
  overcool : t.fde.overcool = s.fde.overcool := by simp
  taken : s.ord.taken = true → t.ord.taken = true := by simp
  defaults : t.cfl.defaults = s.cfl.defaults := by simp

theorem FollowsBut.same {cs : List Category} {s t : State} (h : FollowsBut cs s) (same : SameSays s t) :
    FollowsBut cs t := by
  obtain ⟨live, frost, iced, stuck, failed, fault, isolation, bus, overcool, taken, defaults⟩ := same
  refine h.congr live fun c _ on said => ?_
  cases c <;> simp only [State.Says] at said ⊢
  case fanIce => exact said.trans (exists_congr fun i => (iced i).symm)
  case panelSilent => exact fun hon => taken (said hon)
  case dupAddress => exact said.trans bus.symm
  all_goals simpa only [frost, stuck, failed, fault, isolation, overcool, defaults] using said

theorem Fcc.sameIced_refl (f : Fcc) : f.Each FanChannel.SameIced f := fun _ => Iff.rfl

theorem Fcc.sameIced_of_eq {f g : Fcc} (h : g = f) : f.Each FanChannel.SameIced g := h ▸ Fcc.sameIced_refl f

/-- A report puts its condition right and leaves the others (R167). -/
theorem FollowsBut.report {c : Category} {cs : List Category} {s : State} {on : Bool} (h : FollowsBut (c :: cs) s)
    (said : s.Says on c) : FollowsBut cs (s.report c on) := by
  intro d hd
  have live : (s.report c on).aou.live = putAlert s.aou.live c on := State.reportLive_live _ s
  have owners : ∀ b e, (s.report c on).Says b e ↔ s.Says b e := by
    intro b e; cases e <;> exact Iff.rfl
  rw [owners, live, hasAlert_putAlert]
  split
  · next he => exact he ▸ said
  · next he => exact h d (by simp [he, hd])

/-- Two conditions reported together (R167). -/
theorem FollowsBut.reportTwo {c d : Category} {s : State} {on off : Bool} (h : FollowsBut [c, d] s)
    (hc : s.Says on c) (hd : s.Says off d) :
    FollowsBut [] (s.reportLive (putAlert (putAlert s.aou.live c on) d off)) := by
  intro e _
  have owners : ∀ live b f, (s.reportLive live).Says b f ↔ s.Says b f := by
    intro live b f; cases f <;> exact Iff.rfl
  rw [owners, State.reportLive_live, hasAlert_putAlert, hasAlert_putAlert]
  split
  · next he => exact he ▸ hd
  · split
    · next he => exact he ▸ hc
    · next hed hec => exact h e (by simp [hec, hed])

/-! ### Reports of role and frost state -/

theorem FollowsBut.frostAlerts {s : State} (h : FollowsBut [.frostGuard, .frostTrip] s) :
    FollowsBut [] s.frostAlerts :=
  h.reportTwo (by simp [State.Says]) (by simp [State.Says])

theorem FollowsBut.frostValve {cs : List Category} {s : State} (h : FollowsBut cs s) : FollowsBut cs s.frostValve :=
  h.same { iced := Fcc.sameIced_refl _, stuck := (Vdr.told_frostReport _ _ _).stuck }

/-- The monitor's record changes (R104). -/
theorem FollowsBut.putCfm {s : State} (h : FollowsBut [] s) (m : Cfm) :
    FollowsBut [.frostGuard, .frostTrip] { s with cfm := m } :=
  (h.weaken (by simp)).congr rfl fun c hc on said => by cases c <;> simp_all [State.Says]

theorem FollowsBut.suspend {s : State} (h : FollowsBut [] s) : FollowsBut [] s.suspend := by
  have record : FollowsBut [.frostGuard, .frostTrip] s.suspendCfm := h.putCfm _
  have timers : FollowsBut [.frostGuard, .frostTrip] s.suspendCfm.stopFrostTimers :=
    record.same { iced := Fcc.sameIced_of_eq (by simp) }
  exact timers.frostAlerts.frostValve

theorem FollowsBut.cfmReport {s : State} (h : FollowsBut [] s) : FollowsBut [] s.cfmReport := by
  unfold State.cfmReport
  split
  · split
    · exact h
    · exact h.suspend
  · exact h.same { iced := Fcc.sameIced_refl _ }

theorem FollowsBut.vdrReport {cs : List Category} {s : State} (h : FollowsBut cs s) : FollowsBut cs s.vdrReport :=
  h.same { iced := Fcc.sameIced_refl _, stuck := (Vdr.told_roleReport _ _ _ _).stuck }

theorem FollowsBut.setFcc {f : Fcc} {cs : List Category} {s : State} (h : FollowsBut cs s)
    (iced : s.fcc.Each FanChannel.SameIced f) : FollowsBut cs (s.setFcc f) :=
  h.same { iced := iced, stuck := rfl }

theorem FollowsBut.startTimer {cs : List Category} {s : State} (h : FollowsBut cs s) (id : TimerId) :
    FollowsBut cs (s.startTimer id) := h.same { iced := Fcc.sameIced_refl _ }

theorem FollowsBut.startIf {cs : List Category} {s : State} (h : FollowsBut cs s) (b : Bool) (id : TimerId) :
    FollowsBut cs (s.startIf b id) := h.same { iced := Fcc.sameIced_of_eq (by simp) }

theorem FollowsBut.fccReport {cs : List Category} {s : State} (h : FollowsBut cs s) : FollowsBut cs s.fccReport :=
  (h.setFcc (Fcc.calm_roleReport _ _).sameIced).startIf _ _

theorem FollowsBut.reportRole {s : State} (h : FollowsBut [] s) : FollowsBut [] s.reportRole :=
  h.vdrReport.fccReport.cfmReport

theorem FollowsBut.enterRole {s : State} (h : FollowsBut [] s) (cause : RoleCause) (new : Role) (drained : Bool) :
    FollowsBut [] (s.enterRole cause new drained) :=
  h.same { iced := Fcc.sameIced_of_eq (by simp), overcool := by simp [Fde.enter] }

theorem FollowsBut.changeRole {s : State} (h : FollowsBut [] s) (cause : RoleCause) (new : Role) (drained : Bool) :
    FollowsBut [] (s.changeRole cause new drained) := (h.enterRole cause new drained).reportRole

theorem FollowsBut.announceFrost {s : State} (h : FollowsBut [] s) (new : FrostState) :
    FollowsBut [] (s.announceFrost new) := by
  have put : FollowsBut [.frostGuard, .frostTrip] (s.putFrost new) := h.putCfm _
  refine put.frostAlerts.frostValve.setFcc ?_
  exact (Fcc.calm_frostReport _ _ _).sameIced

theorem FollowsBut.setFrost {s : State} (h : FollowsBut [] s) (new : FrostState) : FollowsBut [] (s.setFrost new) := by
  unfold State.setFrost State.frostRole
  split
  · exact (h.announceFrost new).changeRole _ _ _
  · split
    · exact (h.announceFrost new).changeRole _ _ _
    · exact h.announceFrost new

/-! ### Every move -/

/-- A block's record changes, and with it what its owner says of its own conditions alone. -/
theorem FollowsBut.putFcc {cs : List Category} {s : State} (h : FollowsBut cs s) (f : Fcc) :
    FollowsBut (.fanIce :: cs) { s with fcc := f } :=
  (h.weaken (by simp)).congr rfl fun c hc on said => by cases c <;> simp_all [State.Says]

theorem FollowsBut.putVdr {s : State} (h : FollowsBut [] s) (v : Vdr) :
    FollowsBut [.valveStuck] { s with vdr := v } :=
  (h.weaken (by simp)).congr rfl fun c hc on said => by cases c <;> simp_all [State.Says]

theorem FollowsBut.putSsc {s : State} (h : FollowsBut [] s) (m : Ssc) :
    FollowsBut [.sensorFail, .converterFault] { s with ssc := m } :=
  (h.weaken (by simp)).congr rfl fun c hc on said => by cases c <;> simp_all [State.Says]

theorem FollowsBut.putFde {s : State} (h : FollowsBut [] s) (f : Fde) :
    FollowsBut [.fieldShort, .fieldOvercool] { s with fde := f } :=
  (h.weaken (by simp)).congr rfl fun c hc on said => by cases c <;> simp_all [State.Says]

theorem FollowsBut.reportIce {cs : List Category} {s : State} (h : FollowsBut (.fanIce :: cs) s) :
    FollowsBut cs s.reportIce := h.report (Fcc.anyIced_iff s.fcc)

theorem Aou.reeval_live (enables selects : AlertMask) (a : Aou) :
    (a.reeval enables selects).live = a.live ∧ (a.reeval enables selects).latched = a.latched := by
  unfold Aou.reeval
  repeat' split
  all_goals exact ⟨rfl, rfl⟩

theorem Ssc.anyFailed_iff (c : Ssc) : c.anyFailed = true ↔ ∃ i : Fin 7, c.channels[i].failed = true := by
  unfold Ssc.anyFailed
  rw [List.any_eq_true]
  constructor
  · rintro ⟨x, hx, hf⟩
    obtain ⟨i, hi, rfl⟩ := Vector.mem_iff_getElem.1 (Vector.mem_toList_iff.1 hx)
    exact ⟨⟨i, hi⟩, hf⟩
  · rintro ⟨i, hf⟩
    exact ⟨_, Vector.mem_toList_iff.2 (Vector.getElem_mem i.isLt), hf⟩

theorem FollowsBut.judgeSensors {s : State} (h : FollowsBut [] s) (m : Ssc) :
    FollowsBut [] (State.reportSensors { s with ssc := m }) :=
  (h.putSsc m).reportTwo (Ssc.anyFailed_iff m) (by simp [State.Says])

/-- The end of a computation: the overcool count and the field alerts (R82, R83). -/
theorem FollowsBut.reportField {s : State} (h : FollowsBut [.fieldShort, .fieldOvercool] s) {r : FieldPart}
    (count : overcoolMet s.params r = false → s.fde.overcool = 0) : FollowsBut [] (s.reportField r) :=
  h.reportTwo trivial (by
    cases hm : overcoolMet s.params r <;> simp_all [State.Says])

theorem FollowsBut.stageFans {s : State} (h : FollowsBut [] s) (changed : Bool) (m v : Nat) :
    FollowsBut [] (s.stageFans changed m v) := by
  have reported : s.fcc.Each FanChannel.SameIced (if changed then s.fcc.roleReport s.fde.role else s.fcc) := by
    cases changed with
    | true => exact (Fcc.calm_roleReport _ _).sameIced
    | false => exact Fcc.sameIced_refl _
  have staged : s.fcc.Each FanChannel.SameIced
      ((if changed then s.fcc.roleReport s.fde.role else s.fcc).stage s.params.pairOrder s.params.fanRamp m v
        s.cfm.frost) :=
    fun i => (reported i).trans (Fcc.sameIced_stage _ _ _ _ _ _ i)
  unfold State.stageFans
  exact FollowsBut.startIf (h.setFcc staged) _ _

theorem FollowsBut.issue {s : State} (h : FollowsBut [] s) (valveFirst : Bool) (l : Latched) :
    FollowsBut [] (s.issue valveFirst l) := by
  have recorded : FollowsBut [.fieldShort, .fieldOvercool] (s.decideAndRecord l) :=
    (h.putFde (s.decideAndRecord l).fde).same { iced := Fcc.sameIced_of_eq (by simp) }
  have reported : FollowsBut [] ((s.decideAndRecord l).reportField (s.fieldResult l)) :=
    recorded.reportField (by
      intro hm
      simp_all [State.decideAndRecord, State.conclude, Fde.conclude, overcoolCount])
  have stepped : ∀ u : State, FollowsBut [] u → FollowsBut [] u.stepValve := fun u hu =>
    hu.same { iced := Fcc.sameIced_refl _, stuck := (Vdr.allotment_eq _ _ _ _).2.2.2.2.2 }
  have staged : ∀ (u : State) changed m v, FollowsBut [] u → FollowsBut [] (u.stageFans changed m v) :=
    fun u changed m v hu => hu.stageFans changed m v
  have raised : FollowsBut [] (((s.decideAndRecord l).reportField (s.fieldResult l)).raiseAllotment valveFirst
      ((s.decideAndRecord l).fde.role != s.fde.role) (s.ownResult l).m (s.ownResult l).v) := by
    unfold State.raiseAllotment
    split
    · exact staged _ _ _ _ (stepped _ reported)
    · exact stepped _ (staged _ _ _ _ reported)
  exact raised.same { live := rfl, iced := Fcc.sameIced_refl _, stuck := rfl, overcool := rfl }

theorem FollowsBut.move {s t : State} (hm : Move s t) (h : FollowsBut [] s) : FollowsBut [] t := by
  cases hm with
  | changeRole cause new drained s forced => exact h.changeRole cause new drained
  | drain drained s role =>
    have put : FollowsBut [] (s.putDrained drained) :=
      h.same { iced := Fcc.sameIced_refl _, overcool := rfl }
    exact put.vdrReport.cfmReport
  | rotateDue | coldJoin => exact h.same { iced := Fcc.sameIced_refl _, overcool := rfl }
  | enterProtect causes s frost active =>
    have timed : FollowsBut [] { s.protectTimers with cfm := s.cfm.trip causes } :=
      h.same { iced := Fcc.sameIced_of_eq (by simp), frost := rfl }
    exact timed.setFrost _
  | enterGuard s frost active =>
    have timed : FollowsBut [] ((s.startTimer .guard).putGuardPending false) :=
      h.same { iced := Fcc.sameIced_refl _ }
    exact timed.setFrost _
  | releaseGuard s frost =>
    have timed : FollowsBut [] ((s.stopTimer .guard).putGuardPending false) :=
      h.same { iced := Fcc.sameIced_refl _ }
    exact timed.setFrost _
  | enterRecover s frost spent =>
    have timed : FollowsBut [] ((s.startTimer .recov).putProtectPending false) :=
      h.same { iced := Fcc.sameIced_refl _ }
    exact timed.setFrost _
  | endRecover s frost spent => exact h.setFrost _
  | holdGuard | extendGuard | holdProtect => exact h.same { iced := Fcc.sameIced_refl _ }
  | startStag | startTimer | expire => exact h.same { iced := Fcc.sameIced_refl _ }
  | fans f s hand iced => exact h.setFcc iced
  | fansIced f s hand => exact ((h.putFcc f).same { iced := Fcc.sameIced_refl _ }).reportIce
  | still f s hand iced turning => exact h.same { iced := iced }
  | stillIced f s hand turning => exact (h.putFcc f).reportIce
  | checkValve v s => exact (h.putVdr v).report (by simp [State.Says])
  | judgeSensors c s => exact h.judgeSensors c
  | convert c s failed fault => exact h.same { iced := Fcc.sameIced_refl _, failed := failed, fault := fault }
  | readImage c s defaults => exact h.same { iced := Fcc.sameIced_refl _, defaults := defaults }
  | order o s taken => exact h.same { iced := Fcc.sameIced_refl _, taken := taken }
  | panelSilent on s taken => exact (h.weaken (by simp)).report taken
  | countCadence s =>
    exact h.same { iced := Fcc.sameIced_refl _, live := (State.countCadenceIf_live true s).1 }
  | clearAlerts mask s => exact h.same { iced := Fcc.sameIced_refl _, live := (Aou.reeval_live _ _ _).1 }
  | port | spend => exact h.same { iced := Fcc.sameIced_refl _ }
  | issue valveFirst l s latched => exact h.issue valveFirst l

/-! ### Every event of the line -/

theorem FollowsBut.putLsc {s : State} (h : FollowsBut [] s) (m : Lsc) :
    FollowsBut [.busIsolated, .dupAddress] { s with lsc := m } :=
  (h.weaken (by simp)).congr rfl fun c hc on said => by cases c <;> simp_all [State.Says]

theorem FollowsBut.putCfl {s : State} (h : FollowsBut [] s) (f : Cfl) :
    FollowsBut [.configDefault] { s with cfl := f } :=
  (h.weaken (by simp)).congr rfl fun c hc on said => by cases c <;> simp_all [State.Says]

/-- The LSC's record changes, and neither the isolation count nor the entry to DUPLICATE is touched. -/
theorem FollowsBut.sameLsc {cs : List Category} {s : State} (h : FollowsBut cs s) {m : Lsc}
    (isolation : m.isolation = s.lsc.isolation) (bus : m.bus = .duplicate ↔ s.lsc.bus = .duplicate) :
    FollowsBut cs { s with lsc := m } :=
  h.same { iced := Fcc.sameIced_refl _, isolation := isolation, bus := bus }

theorem FollowsBut.acceptBulletin {s : State} (h : FollowsBut [] s) (k : Nat) (cs : List Byte) :
    FollowsBut [] (s.acceptBulletin k cs) := by
  have stored : FollowsBut [] (s.storeRow k cs) := h.same { iced := Fcc.sameIced_refl _ }
  have heard : FollowsBut [.busIsolated] { s.storeRow k cs with lsc := s.lsc.hearFrom k } :=
    (stored.weaken (by simp)).congr rfl fun c hc on said => by
      cases c <;> simp_all [State.Says, Lsc.hearFrom]
  exact heard.report (by simp [State.Says, Lsc.hearFrom])

theorem FollowsBut.enterDuplicate {s : State} (h : FollowsBut [] s) : FollowsBut [] s.enterDuplicate :=
  (h.putLsc s.lsc.enterDuplicate).reportTwo (by simp [State.Says, Lsc.enterDuplicate])
    (by simp [State.Says, Lsc.enterDuplicate])

theorem FollowsBut.arrival {s t : State} (ha : Arrival s t) (h : FollowsBut [] s) : FollowsBut [] t := by
  cases ha with
  | move hm => exact h.move hm
  | crc | misaligned | order => exact h.same { iced := Fcc.sameIced_refl _ }
  | jump p s range => exact h.sameLsc rfl .rfl
  | bulletin k cs s valid => exact h.acceptBulletin k cs
  | join s listen => exact h.sameLsc rfl (by simp [listen])
  | duplicate s bus => exact h.enterDuplicate

theorem FollowsBut.fitFans {cs : List Category} {s : State} (h : FollowsBut cs s) :
    FollowsBut (.fanIce :: cs) s.fitFans := by
  have put := h.putFcc (s.fcc.fit s.params.nFit)
  exact put.same { iced := Fcc.sameIced_of_eq rfl, stuck := rfl }

theorem Lsc.start_eq (own : Nat) (l : Lsc) :
    (l.start own).isolation = l.isolation ∧ (l.start own).bus = l.bus := by
  unfold Lsc.start
  split <;> simp [*]

theorem Vdr.startCheck_stuck (v : Vdr) : v.startCheck.stuck = v.stuck := by
  unfold Vdr.startCheck
  split <;> rfl

theorem FollowsBut.handOut {cs : List Category} {s : State} (h : FollowsBut cs s) : FollowsBut cs s.handOut := by
  obtain ⟨isolation, bus⟩ := Lsc.start_eq s.own s.lsc
  exact h.same {
    live := rfl
    frost := rfl
    iced := Fcc.sameIced_refl _
    stuck := Vdr.startCheck_stuck _
    failed := fun _ => rfl
    fault := rfl
    isolation := isolation
    bus := by simp [State.handOut, bus]
    overcool := rfl
    taken := id
    defaults := rfl }

theorem FollowsBut.reloadTimers {cs : List Category} {s : State} (h : FollowsBut cs s) :
    FollowsBut cs s.reloadTimers := h.same { iced := Fcc.sameIced_of_eq (by simp) }

theorem FollowsBut.reevalAlerts {s : State} (h : FollowsBut [] s) : FollowsBut [] s.reevalAlerts :=
  h.same { iced := Fcc.sameIced_refl _, live := (Aou.reeval_live _ _ _).1 }

theorem FollowsBut.completeLoad {s : State} (h : FollowsBut [.configDefault] s) : FollowsBut [] s.completeLoad := by
  have timed := h.handOut.fitFans.reportIce.reloadTimers
  exact (timed.report (by simp [State.Says])).reevalAlerts

theorem Lsc.countIsolation_bus (own : Nat) (l : Lsc) : (l.countIsolation own).bus = l.bus := by
  unfold Lsc.countIsolation
  split <;> rfl

/-- The isolation count leaves 10 at no cycle end, and reaches it in ACTIVE alone (R23). -/
theorem Lsc.countIsolation_isolation_ten {own : Nat} {l : Lsc} :
    (l.countIsolation own).isolation = 10 ∧ l.bus ≠ .active → l.isolation = 10 := by
  rintro ⟨ten, passive⟩
  simpa [Lsc.countIsolation, passive] using ten

theorem Lsc.countIsolation_of_ten {own : Nat} {l : Lsc} (h : l.isolation = 10) :
    (l.countIsolation own).isolation = 10 := by
  unfold Lsc.countIsolation
  split <;> simp [h, satInc]

theorem FollowsBut.countIsolation {s : State} (h : FollowsBut [] s) : FollowsBut [] s.countIsolation := by
  have bus : s.stepIsolation.lsc.bus = s.lsc.bus := Lsc.countIsolation_bus _ _
  have counted : FollowsBut [.busIsolated] s.stepIsolation :=
    (h.weaken (by simp)).congr rfl fun c hc on said => by
      cases c <;> simp_all [State.Says]
  unfold State.countIsolation
  split
  · next reached => exact counted.report (by simpa [State.Says] using reached.2)
  · next missed =>
    intro c _
    by_cases hc : c = .busIsolated
    · subst hc
      have said : hasAlert s.aou.live .busIsolated = true ↔ s.lsc.isolation = 10 := h .busIsolated (by simp)
      refine said.trans ⟨Lsc.countIsolation_of_ten, fun ten => ?_⟩
      exact Lsc.countIsolation_isolation_ten ⟨ten, fun active => missed ⟨bus.trans active, ten⟩⟩
    · exact counted c (by simpa using hc)

theorem FollowsBut.countCadenceIf {s : State} (h : FollowsBut [] s) (b : Bool) : FollowsBut [] (s.countCadenceIf b) :=
  h.same { iced := Fcc.sameIced_of_eq (by simp) }

theorem FollowsBut.countJoining {s : State} (h : FollowsBut [] s) : FollowsBut [] s.countJoining := by
  refine h.sameLsc ?_ ?_ <;> unfold Lsc.countJoining <;> repeat' split
  all_goals simp [*]

theorem FollowsBut.takeEnd {s : State} (h : FollowsBut [] s) : FollowsBut [] s.takeEnd := h.sameLsc rfl .rfl

theorem FollowsBut.ageRows {s : State} (h : FollowsBut [] s) : FollowsBut [] s.ageRows :=
  h.same { iced := Fcc.sameIced_refl _ }

theorem FollowsBut.latch {s : State} (h : FollowsBut [] s) (bus : BusState) : FollowsBut [] (s.latch bus) :=
  h.same { iced := Fcc.sameIced_refl _, overcool := rfl }

theorem FollowsBut.countTimers {s : State} (h : FollowsBut [] s) : FollowsBut [] s.countTimers :=
  h.same { iced := Fcc.sameIced_of_eq (by simp) }

theorem FollowsBut.countTravel {s : State} (h : FollowsBut [] s) : FollowsBut [] s.countTravel :=
  h.same { iced := Fcc.sameIced_refl _, stuck := (Vdr.cycleEnd_eq _ _).2.2.2.2.2.2 }

theorem FollowsBut.endCycle {s : State} (h : FollowsBut [] s) (cadenceFirst : Bool) :
    FollowsBut [] (s.endCycle cadenceFirst) := by
  have ordered : FollowsBut [] (s.chooseOrder cadenceFirst) := h.same { iced := Fcc.sameIced_refl _ }
  have taken := ((ordered.countCadenceIf cadenceFirst).countIsolation).takeEnd
  exact (((taken.ageRows.latch s.lsc.bus).countTimers.countTravel).countCadenceIf _).countJoining

theorem FollowsBut.mismatch {s : State} (h : FollowsBut [] s) (active : s.lsc.bus = .active) :
    FollowsBut [] s.mismatch := by
  refine h.sameLsc ?_ ?_ <;> unfold Lsc.collide <;> split <;> simp [Lsc.releaseDriver, active]

theorem FollowsBut.reset (s : State) : FollowsBut [] { State.reset with
    pending := s.pending, freeCount := s.freeCount, cadenceFirst := s.cadenceFirst } :=
  (followsBut_nil_iff State.reset).2 (by unfold LiveFollowsOwners; decide +kernel)

theorem FollowsBut.line {c : Instr} {s t : State} (hl : Line c s t) (bus : BusSound s) (h : FollowsBut [] s) :
    FollowsBut [] t := by
  cases hl with
  | move hm => exact h.move hm
  | advance dt s =>
    unfold State.advance
    split
    · exact h.sameLsc rfl .rfl
    · exact h
  | release address loop s early =>
    refine FollowsBut.same (s := { s with released := true, straps := ⟨address, loop⟩ })
      (h.same { iced := Fcc.sameIced_refl _ }) { iced := Fcc.sameIced_refl _, isolation := rfl, bus := ?_ }
    have old := bus.1 early
    simp only [State.latchStraps]
    split <;> simp [old]
  | load f s early => exact (h.putCfl f).completeLoad
  | beginFrame | stray | send => exact h.sameLsc rfl .rfl
  | frame r chars s rx =>
    exact (State.completeFrame_arrivals r chars s).keeps (fun _ _ => FollowsBut.arrival)
      (s := s.endFrame) (h.sameLsc rfl .rfl)
  | compose s active => exact h.sameLsc rfl .rfl
  | mismatch s sends => exact h.mismatch (bus.active sends)
  | endClean cs s sending =>
    have stored : FollowsBut [] (s.storeRow s.straps.address.toNat cs) := h.same { iced := Fcc.sameIced_refl _ }
    exact stored.sameLsc rfl .rfl
  | openActive s listen silent =>
    have jumped : FollowsBut [] (s.jump (s.own * slotUs)) := h.sameLsc rfl .rfl
    exact jumped.sameLsc rfl (by simp [State.jump, Lsc.jump, listen])
  | endCycle f s hc raises passed => exact h.endCycle f
  | markAgeing s hc bad passed =>
    have taken : FollowsBut [] s.takeEnd := h.sameLsc rfl .rfl
    exact taken.same { iced := Fcc.sameIced_refl _, isolation := rfl, bus := .rfl }
  | reset s hc => exact FollowsBut.reset s

/-- Settles O60: each owner reports its condition wherever its state changes, and the bus state's rules keep the
entry to DUPLICATE the only way into it. -/
theorem everyStepKeepsTheLiveConditions : Obligations.EveryStepKeepsTheLiveConditions := by
  intro s t ⟨bus, live⟩ hst
  obtain ⟨bus', live'⟩ := step_keeps (P := fun u => BusSound u ∧ FollowsBut [] u) (fun _ _ h => h)
    (fun c u v h he => Lines.keeps (P := fun u => BusSound u ∧ FollowsBut [] u)
      (fun _ _ hl hu => ⟨hu.1.line hl, hu.2.line hl hu.1⟩) (exec_lines he) h) ⟨bus, (followsBut_nil_iff s).2 live⟩ hst
  exact ⟨bus', (followsBut_nil_iff t).1 live'⟩

end Sys2Proof.Machine
end

section
/-! PROOFS. Tables: rows and their bulletins, the own bulletin held or sent, the request in hand, the parameters,
at every step (R19, R25, R27, R28, R30 to R32, R36, R38, R175 to R177). -/

namespace Sys2Proof.Machine

/-! ### Rows (R31, R36, R38) -/

theorem getElem_mapRows (g : Row → Row) (rows : Vector Row 24) (i : Fin 24) :
    (mapRows g rows)[i] = g rows[i] := by
  simp [mapRows]

theorem Btb.getElem_modifyRow (k : Nat) (g : Row → Row) (b : Btb) (i : Fin 24) :
    (b.modifyRow k g).rows[i] = if i.val + 1 = k then g b.rows[i] else b.rows[i] := by
  unfold Btb.modifyRow
  split
  · next h =>
    simp only [Fin.getElem_fin, Vector.getElem_set]
    by_cases hk : i.val + 1 = k
    · subst hk; simp
    · rw [if_neg hk, if_neg (by omega)]
  · next h => rw [if_neg (by omega)]

/-- The bulletin that station k's row holds is one of its own in the ranges of R25. -/
theorem Row.Sound.arrive {k : Nat} {r : Row} {b : Bulletin} (h : r.Sound k) (range : b.InRange)
    (source : b.source = k) : (r.arrive b).Sound k := by
  obtain ⟨-, snapped, -, -, -, snapCopy⟩ := h
  exact ⟨by simp [Row.arrive], snapped, fun _ => rfl, by simp [Row.arrive],
    fun c hc => by cases hc; exact ⟨range, source⟩, snapCopy⟩

theorem Row.Sound.age1 {k limit : Nat} {r : Row} (h : r.Sound k) (small : limit ≤ 8) : (r.age1 limit).Sound k := by
  unfold Row.age1
  split
  · exact h
  · obtain ⟨live, snapped, young, old, liveRange, snapRange⟩ := h
    split
    · next fresh =>
      exact ⟨by simpa [fresh] using live, snapped, by simp, by simp, liveRange, snapRange⟩
    · next held =>
      obtain ⟨low, -⟩ := old held
      split
      · exact ⟨live, snapped, by simp [held], fun _ => by dsimp only; omega, liveRange, snapRange⟩
      · exact ⟨by simp, by simp, fun _ => rfl, by simp, by simp, by simp⟩
    · exact ⟨live, snapped, young, old, liveRange, snapRange⟩

theorem Row.Sound.snap {k : Nat} {r : Row} (h : r.Sound k) : r.snap.Sound k := by
  obtain ⟨live, -, young, old, liveRange, -⟩ := h
  exact ⟨live, live, young, old, liveRange, liveRange⟩

theorem RowsSound.congr {s t : State} (h : RowsSound s) (params : t.params = s.params)
    (rows : t.btb.rows = s.btb.rows) : RowsSound t := by
  unfold RowsSound
  rwa [params, rows]

theorem RowsSound.modifyRow {k : Nat} {g : Row → Row} {s : State} (h : RowsSound s)
    (sound : ∀ r : Row, r.Sound k → (g r).Sound k) : RowsSound { s with btb := s.btb.modifyRow k g } := by
  refine ⟨h.1, fun i => ?_⟩
  rw [Btb.getElem_modifyRow]
  split
  · next hk => exact hk ▸ sound _ (hk ▸ h.2 i)
  · exact h.2 i

theorem RowsSound.mapRows {g : Row → Row} {s : State} (h : RowsSound s)
    (sound : ∀ k (r : Row), r.Sound k → (g r).Sound k) {b : Btb} (rows : b.rows = mapRows g s.btb.rows) :
    RowsSound { s with btb := b } := by
  refine ⟨h.1, fun i => ?_⟩
  simp only [rows]
  rw [getElem_mapRows]
  exact sound _ _ (h.2 i)

theorem RowsSound.countCrc {s : State} (h : RowsSound s) (k : Nat) :
    RowsSound { s with btb := s.btb.countCrc k } := by
  unfold Btb.countCrc
  split
  · exact h.congr rfl rfl
  · exact h.modifyRow fun r hr => hr

theorem RowsSound.countMisaligned {s : State} (h : RowsSound s) (k : Nat) :
    RowsSound { s with btb := s.btb.countMisaligned k } := by
  unfold Btb.countMisaligned
  split
  · exact h.congr rfl rfl
  · exact h.modifyRow fun r hr => hr

theorem clampInt_bounds {lo hi : Int} (h : lo ≤ hi) (x : Int) : lo ≤ clampInt lo hi x ∧ clampInt lo hi x ≤ hi := by
  unfold clampInt
  repeat' split
  all_goals omega

/-- What is stored of 21 characters of station k is a bulletin of k in the ranges of R25 (R27). -/
theorem bulletinOf_inRange {k : Nat} {cs : List Byte} (low : 1 ≤ k) (high : k ≤ 24)
    (source : (byteAt cs 3).toNat = k) (slot : byteAt cs 3 = byteAt cs 2) :
    (bulletinOf cs).InRange ∧ (bulletinOf cs).source = k := by
  have fit : ∀ n : BitVec 3, 1 ≤ storedFit n.toNat ∧ storedFit n.toNat ≤ 6 := fun n => by
    have := n.isLt
    unfold storedFit
    repeat' split
    all_goals omega
  refine ⟨⟨⟨low.trans_eq source.symm, source.trans_le high, ?_⟩, clampInt_bounds (by omega) _, ?_, Nat.min_le_left _ _, Nat.min_le_left _ _,
    Nat.min_le_left _ _, ?_, fit _, Nat.min_le_left _ _, Nat.min_le_left _ _⟩, source⟩
  · exact congrArg BitVec.toNat slot.symm
  · have := (byteAt cs 10).isLt
    simp only [bulletinOf]; omega
  · have := (wordAt cs 13).isLt
    simp only [bulletinOf]; omega

theorem RowsSound.storeRow {k : Nat} {cs : List Byte} {s : State} (h : RowsSound s) (low : 1 ≤ k) (high : k ≤ 24)
    (source : (byteAt cs 3).toNat = k) (slot : byteAt cs 3 = byteAt cs 2) : RowsSound (s.storeRow k cs) := by
  obtain ⟨range, name⟩ := bulletinOf_inRange low high source slot
  exact h.modifyRow fun r hr => hr.arrive range name

/-! ### The own bulletin (R26, R28, R30) -/

/-- 21 characters that name the own address as slot and source. -/
def State.OwnChars (s : State) (cs : List Byte) : Prop :=
  cs.length = 21 ∧ (cs.getD 2 0).toNat = s.straps.address.toNat ∧ (cs.getD 3 0).toNat = s.straps.address.toNat

theorem bulletinChars_length (b : Bulletin) : (bulletinChars b).length = 21 := rfl

theorem State.ownChars_ownBulletin (s : State) : s.OwnChars (bulletinChars s.ownBulletin) := by
  have small := s.straps.address.isLt
  have slot : s.ownBulletin.slot = s.straps.address.toNat := by unfold State.ownBulletin; dsimp only; split <;> rfl
  have source : s.ownBulletin.source = s.straps.address.toNat := by unfold State.ownBulletin; dsimp only; split <;> rfl
  refine ⟨rfl, ?_, ?_⟩
  · change (BitVec.ofNat 8 s.ownBulletin.slot).toNat = _
    rw [slot, BitVec.toNat_ofNat, Nat.mod_eq_of_lt (by omega)]
  · change (BitVec.ofNat 8 s.ownBulletin.source).toNat = _
    rw [source, BitVec.toNat_ofNat, Nat.mod_eq_of_lt (by omega)]

theorem OwnFramesSound.congr {s t : State} (h : OwnFramesSound s) (straps : t.straps = s.straps)
    (composed : ∀ cs ∈ t.lsc.composed, cs ∈ s.lsc.composed) (sending : ∀ cs ∈ t.lsc.sending, cs ∈ s.lsc.sending) :
    OwnFramesSound t := by
  unfold OwnFramesSound
  rw [straps]
  exact ⟨fun cs hc => h.1 cs (composed cs hc), fun cs hc => h.2 cs (sending cs hc)⟩

theorem OwnFramesSound.compose {s : State} (h : OwnFramesSound s) : OwnFramesSound s.compose :=
  ⟨fun cs hc => by cases hc; exact s.ownChars_ownBulletin, h.2⟩

theorem OwnFramesSound.jump {s : State} (h : OwnFramesSound s) (p : Nat) : OwnFramesSound (s.jump p) := by
  refine h.congr rfl (fun cs hc => ?_) (fun cs hc => hc)
  simp only [State.jump, Lsc.jump] at hc
  split at hc
  · exact hc
  · cases hc

theorem OwnFramesSound.silent {s : State} (composed : s.lsc.composed = none) (sending : s.lsc.sending = none) :
    OwnFramesSound s := ⟨by simp [composed], by simp [sending]⟩

theorem Lsc.collide_silent (own extension : Nat) (l : Lsc) :
    (l.collide own extension).composed = none ∧ (l.collide own extension).sending = none := by
  unfold Lsc.collide
  split <;> exact ⟨rfl, rfl⟩

theorem OwnFramesSound.arrival {s t : State} (ha : Arrival s t) (h : OwnFramesSound s) : OwnFramesSound t := by
  cases ha with
  | move hm =>
    obtain ⟨lsc, -, straps, -⟩ := hm.frame
    exact h.congr straps (by simp [lsc]) (by simp [lsc])
  | crc | misaligned | order | bulletin | join => exact h
  | jump p s range => exact h.jump p
  | duplicate s bus => exact .silent rfl rfl

theorem OwnFramesSound.line {c : Instr} {s t : State} (hl : Line c s t) (bus : BusSound s) (h : OwnFramesSound s) :
    OwnFramesSound t := by
  cases hl with
  | move hm => exact h.arrival (.move hm)
  | advance dt s =>
    unfold State.advance
    split
    · exact h
    · exact h
  | release address loop s early =>
    obtain ⟨composed, sending⟩ := bus.2.2.1 (by simp [bus.1 early])
    exact .silent composed sending
  | load f s early =>
    have started : ∀ own, (s.lsc.start own).composed = s.lsc.composed ∧ (s.lsc.start own).sending = s.lsc.sending :=
      fun own => by unfold Lsc.start; split <;> exact ⟨rfl, rfl⟩
    exact h.congr (by simp) (by simp [State.completeLoad, State.handOut, started])
      (by simp [State.completeLoad, State.handOut, started])
  | beginFrame | stray => exact h
  | frame r chars s rx =>
    exact (State.completeFrame_arrivals r chars s).keeps (fun _ _ => OwnFramesSound.arrival) (s := s.endFrame) h
  | compose s active => exact h.compose
  | send s due => exact ⟨by simp, h.1⟩
  | mismatch s sends =>
    obtain ⟨composed, sending⟩ := Lsc.collide_silent s.own s.ssc.extension s.lsc
    exact .silent composed sending
  | endClean cs s sending => exact ⟨h.1, by simp [State.endClean, State.storeRow]⟩
  | openActive s listen silent => exact OwnFramesSound.compose (h.jump _)
  | endCycle f s hc raises passed =>
    have same : ((s.endCycle f).lsc).composed = s.lsc.composed ∧ ((s.endCycle f).lsc).sending = s.lsc.sending := by
      rw [State.endCycle_lsc]
      unfold Lsc.countJoining Lsc.countIsolation
      constructor <;> repeat' split
      all_goals rfl
    exact h.congr (by simp) (by simp [same]) (by simp [same])
  | markAgeing s hc bad passed => exact h
  | reset s hc => exact .silent rfl rfl

/-! ### Every event -/

theorem RowsSound.arrival {s t : State} (ha : Arrival s t) (h : RowsSound s) : RowsSound t := by
  cases ha with
  | move hm =>
    obtain ⟨-, btb, -, params, -⟩ := hm.frame
    exact h.congr params (by rw [btb])
  | crc k s => exact h.countCrc k
  | misaligned k s => exact h.countMisaligned k
  | order | jump | join | duplicate => exact h.congr rfl rfl
  | bulletin k cs s valid =>
    obtain ⟨low, high, -, source, slot⟩ := valid
    exact (h.storeRow low high source slot).congr rfl rfl

theorem RowsSound.reset : RowsSound State.reset := by
  refine ⟨by decide, fun i => ?_⟩
  have row : State.reset.btb.rows[i] = Row.reset := by simp [State.reset, Btb.reset]
  rw [row]
  exact ⟨by decide, by decide, by decide, by decide, by simp [Row.reset], by simp [Row.reset]⟩

theorem RowsSound.line {c : Instr} {s t : State} (hl : Line c s t) (bus : BusSound s) (own : OwnFramesSound s)
    (h : RowsSound s) : RowsSound t := by
  cases hl with
  | move hm => exact h.arrival (.move hm)
  | advance dt s => exact h.congr (by simp) (by simp)
  | release | beginFrame | stray | compose | send | mismatch | openActive => exact h.congr rfl rfl
  | load f s early =>
    refine ⟨?_, ?_⟩
    · have range : f.params.InRange := Cfl.params_inRange f
      simpa [State.completeLoad, State.handOut] using range.1.2
    · simpa using h.2
  | frame r chars s rx =>
    exact (State.completeFrame_arrivals r chars s).keeps (fun _ _ => RowsSound.arrival) (s := s.endFrame)
      (h.congr rfl rfl)
  | endClean cs s sending =>
    have good := bus.good (by simp [bus.active (.inr (by simp [sending]))])
    simp only [goodAddress, Bool.and_eq_true, decide_eq_true_eq] at good
    obtain ⟨-, slot, source⟩ := own.2 cs sending
    exact (h.storeRow good.1 good.2 source (BitVec.eq_of_toNat_eq (source.trans slot.symm))).congr rfl rfl
  | endCycle f s hc raises passed =>
    have aged : (s.endCycle f).btb = s.btb.cycleEnd s.params.holdLimit := by
      simp [State.endCycle, State.ageRows]
    exact (h.mapRows (g := fun r => (r.age1 s.params.holdLimit).snap) (b := s.btb.cycleEnd s.params.holdLimit)
      (fun k r hr => (hr.age1 h.1).snap) rfl).congr (by simp) (by rw [aged])
  | markAgeing s hc bad passed =>
    exact (h.mapRows (g := fun r => (r.age1 s.params.holdLimit).unheard) (b := s.markAgeing.btb)
      (fun k r hr => hr.age1 h.1) rfl).congr rfl rfl
  | reset s hc => exact RowsSound.reset

theorem RangesSound.congr {s t : State} (h : RangesSound s) (params : t.params = s.params)
    (command : t.vdr.command = s.vdr.command) : RangesSound t := by
  unfold RangesSound
  rwa [params, command]

theorem RangesSound.line {c : Instr} {s t : State} (hl : Line c s t) (h : RangesSound s) : RangesSound t := by
  cases hl with
  | move hm => exact h.move hm
  | advance | release | beginFrame | stray | compose | send | mismatch | endClean | openActive | markAgeing =>
    exact h.congr (by simp) (by simp)
  | load f s early =>
    have command : s.vdr.startCheck.command = s.vdr.command := by unfold Vdr.startCheck; split <;> rfl
    have handed : RangesSound (State.handOut { s with cfl := f }) :=
      ⟨Cfl.params_inRange f, command.trans_le h.2⟩
    exact handed.congr (by simp [State.completeLoad]) (by simp [State.completeLoad, State.fitFans, State.setFcc, State.reportFans])
  | frame r chars s rx =>
    obtain ⟨u, ⟨params, -, -, -, vdr, -⟩, moves⟩ := State.completeFrame_owners r chars s
    exact moves.keeps (fun _ _ => RangesSound.move) (h.congr params (by rw [vdr]))
  | endCycle f s hc raises passed =>
    exact h.congr (by simp) (by rw [State.endCycle_vdr, (Vdr.cycleEnd_eq _ _).1])
  | reset s hc => exact ⟨Params.default_inRange, Nat.le_refl 1000⟩

theorem RequestSound.congr {s t : State} (h : RequestSound s) (svp : t.svp = s.svp) : RequestSound t := by
  unfold RequestSound
  rwa [svp]

theorem RequestSound.move {s t : State} (hm : Move s t) (h : RequestSound s) : RequestSound t := by
  cases hm with
  | port p s sound => exact sound h
  | _ => exact h.congr (by simp)

theorem RequestSound.arrival {s t : State} (ha : Arrival s t) (h : RequestSound s) : RequestSound t := by
  cases ha with
  | move hm => exact h.move hm
  | _ => exact h.congr (by simp)

theorem RequestSound.line {c : Instr} {s t : State} (hl : Line c s t) (h : RequestSound s) : RequestSound t := by
  cases hl with
  | move hm => exact h.move hm
  | frame r chars s rx =>
    exact (State.completeFrame_arrivals r chars s).keeps (fun _ _ => RequestSound.arrival) (s := s.endFrame) h
  | reset s hc => exact Svp.sound_of_empty (p := Svp.reset) (by decide) rfl
  | _ => exact h.congr (by simp)

/-- The rows, the bus state, the own bulletin, the request and the ranges together. -/
structure TablesSound (s : State) : Prop where
  rows : RowsSound s
  bus : BusSound s
  own : OwnFramesSound s
  request : RequestSound s
  ranges : RangesSound s

theorem TablesSound.line {c : Instr} {s t : State} (hl : Line c s t) (h : TablesSound s) : TablesSound t :=
  ⟨h.rows.line hl h.bus h.own, h.bus.line hl, h.own.line hl h.bus, h.request.line hl, h.ranges.line hl⟩

/-- Settles O59: each of the tables is kept event by event; the own row's bulletin is the one that was sent, which
a station sends in ACTIVE alone, under a good address. -/
theorem everyStepKeepsTheTables : Obligations.EveryStepKeepsTheTables := by
  intro s t ⟨rows, bus, own, request, ranges⟩ hst
  have kept : TablesSound t := step_keeps (P := TablesSound)
    (fun _ _ h => ⟨h.rows, h.bus, h.own, h.request, h.ranges⟩)
    (fun _ _ _ h he => (exec_lines he).keeps (fun _ _ => TablesSound.line) h)
    ⟨rows, bus, own, request, ranges⟩ hst
  exact ⟨kept.rows, kept.bus, kept.own, kept.request, kept.ranges⟩

end Sys2Proof.Machine
end

section
/-! PROOFS. Reset, reset release and crystal time (R2, R7 to R11, R14, R137, R152, R161, R173). -/

namespace Sys2Proof.Machine

theorem Btb.row_reset (k : Nat) : Btb.reset.row k = Row.reset := by
  unfold Btb.row Btb.reset
  rw [Vector.toList_replicate, List.getD_eq_getElem?_getD, List.getElem?_replicate]
  split <;> rfl

/-- Settles O3: after a reset each block's record is the one its table gives, whatever stood before. -/
theorem resetGivesTheAfterResetValues : Obligations.ResetGivesTheAfterResetValues := by
  intro s
  refine ⟨_, rfl, rfl, rfl, rfl, ⟨rfl, rfl, rfl, rfl, rfl, rfl⟩, fun k => ?_, ⟨rfl, rfl, rfl⟩, fun i => ?_,
    ⟨rfl, rfl, rfl, rfl, rfl, rfl⟩, ⟨rfl, rfl, rfl, rfl, rfl, rfl, rfl, rfl⟩, ⟨rfl, rfl, rfl, rfl, rfl, rfl, rfl⟩,
    rfl, fun i => ?_, ⟨rfl, rfl, fun p => ?_⟩, rfl, fun id => ?_, ⟨rfl, rfl, rfl, rfl, rfl, rfl⟩, rfl,
    ⟨rfl, rfl, rfl, rfl, rfl⟩, rfl, fun _ => rfl, fun _ => rfl, show dacCode 1000 = 1023 by decide, rfl, fun n => ?_⟩
  · exact Btb.row_reset k
  · simp [State.reset, Ssc.reset, Channel.reset]
  · simp [State.reset, Fcc.reset, Fcc.channel, FanChannel.reset]
  · exact (by decide : ∀ p : Fin 3, Fcc.reset.bits[p] = false) p
  · simp [State.timer, State.reset, Timer.reset]
  · simp [State.pwm, State.reset, Fcc.reset, Fcc.channel, FanChannel.reset]

theorem goodAddress_iff (a : BitVec 5) : goodAddress a = true ↔ 1 ≤ a.toNat ∧ a.toNat ≤ 24 := by
  simp [goodAddress]

/-- A start loads a timer that does not run or that a start loads again (R151, R154). -/
theorem Timer.start_eq_load {retriggerable : Bool} {t : Timer} (h : t.running = false ∨ retriggerable = true)
    (tp : TimerParams) : t.start retriggerable tp = t.load tp := by
  unfold Timer.start
  rcases h with h | h <;> simp [h]

/-- Settles O4: the release latches the straps, and starts T_ICE, which did not run, and T_ORD, which a start
loads again. -/
theorem resetReleaseLatchesTheStraps : Obligations.ResetReleaseLatchesTheStraps := by
  intro a loop s
  refine ⟨fun early still => ?_, fun released => by simp [exec, execResetRelease, released]⟩
  refine ⟨_, if_neg (by simp [early]), rfl, fun good => ?_, fun bad => ?_, fun id hid => ?_,
    fun id ice ord => ?_⟩
  · have good' := (goodAddress_iff a).2 good
    simp [State.latchStraps, good', ownAddressOf]
  · have bad' : goodAddress a = false := by
      rw [Bool.eq_false_iff, Ne, goodAddress_iff]; omega
    simp [State.latchStraps, bad', ownAddressOf]
  · rw [State.timer_startTimer]
    rcases hid with rfl | rfl
    · rw [if_neg (by decide), State.timer_startTimer, if_pos rfl]
      exact Timer.start_eq_load (.inl still) _
    · rw [if_pos rfl]
      have other : ((s.latchStraps a loop).startTimer .ice).timer .ord = s.timer .ord := by
        rw [State.timer_startTimer, if_neg (by decide)]; rfl
      rw [other]
      exact Timer.start_eq_load (.inr rfl) _
  · rw [State.timer_startTimer, if_neg ord, State.timer_startTimer, if_neg ice]
    rfl

/-! ### Crystal time (R7 to R10) -/

theorem tooSoon_iff (dt : Nat) (since : Option Nat) :
    tooSoon dt since = true ↔ ∃ x, since = some x ∧ x + dt < 500000 := by
  cases since with
  | none => simp [tooSoon]
  | some x =>
    simp only [tooSoon, decide_eq_true_eq, Option.some.injEq, exists_eq_left']
    exact Iff.rfl

/-- A passing raises the event unless it is the first and comes too soon (R9, R10). -/
theorem raisesEnd_iff (dt p : Nat) (since : Option Nat) : raisesEnd dt since (some p) = true
    ↔ 1000000 ≤ p + dt ∧ (¬ (∃ x, since = some x ∧ x + (1000000 - p) < 500000) ∨ 2000000 ≤ p + dt) := by
  rw [← tooSoon_iff]
  simp only [raisesEnd, Bool.and_eq_true, Bool.or_eq_true, Bool.not_eq_true', Bool.not_eq_true, decide_eq_true_eq]
  exact Iff.rfl

theorem inSlot_iff (k p : Nat) : inSlot k p = true ↔ k * 40000 ≤ p ∧ p < (k + 1) * 40000 := by
  simp only [inSlot, slotUs, beq_iff_eq]
  omega

/-- Settles O9: each part of the LSC's clock runs on as its own function says. -/
theorem crystalTimeRunsTheSlotClock : Obligations.CrystalTimeRunsTheSlotClock := by
  intro e s
  refine ⟨fun h => State.advance_of_unloaded h e, fun h => ?_⟩
  have advanced : s.advance e = { s with lsc := s.lsc.advance s.own e } := by simp [State.advance, h]
  rw [advanced]
  refine ⟨rfl, rfl, fun p hp => ?_, fun hp => ?_, fun p hp => ?_⟩
  · have raised := raisesEnd_iff e p s.lsc.sinceCycleEnd
    refine ⟨?_, fun hr => ?_, fun hr => ?_⟩
    · simp only [Lsc.advance, hp, Bool.or_eq_true, raised]
    · simp only [Lsc.advance, hp, raised.2 hr, if_true, runPosition]
      rfl
    · have not_raised : raisesEnd e s.lsc.sinceCycleEnd (some p) = false :=
        Bool.eq_false_iff.2 fun h => hr (raised.1 h)
      simp only [Lsc.advance, hp, not_raised, runOn]
      rfl
  · simp [Lsc.advance, hp, raisesEnd, runOn, runPosition, ownSlotMark]
  · have mark : (s.lsc.advance s.own e).ownSlotEntered
        = ownSlotMark s.own e (s.lsc.bus == .active) s.lsc.ownSlotEntered (some ((p + e) % 1000000)) := by
      simp [Lsc.advance, hp, runPosition, cycleUs]
    dsimp only
    rw [mark]
    simp only [ownSlotMark, Bool.and_eq_true, Bool.or_eq_true, beq_iff_eq, inSlot_iff, advancedInto,
      decide_eq_true_eq]
    simp only [slotUs]
    constructor
    · rintro ⟨inside, h⟩
      exact ⟨inside.1, inside.2, h.imp_right fun h => ⟨h.1, by omega⟩⟩
    · rintro ⟨low, high, h⟩
      exact ⟨⟨low, high⟩, h.imp_right fun h => ⟨h.1, ⟨low, high⟩, by omega⟩⟩

/-- Settles O10: the idle line at the start bit decides. -/
theorem idleLineBeginsFrames : Obligations.IdleLineBeginsFrames := by
  intro e s u loaded quiet silent
  have hl : (s.advance e).loaded = true := by simpa using loaded
  refine ⟨fun h => ?_, fun h => ?_, fun h => ?_, fun h => ?_⟩
  · exact if_pos ⟨hl, quiet, silent, h⟩
  · exact if_neg fun hc => absurd hc.2.2.2 (by simp only [frameIdleUs]; exact Nat.not_le.2 h)
  · exact if_pos ⟨hl, quiet, silent, h⟩
  · exact if_neg fun hc => absurd hc.2.2.2 (by simp only [frameIdleUs, characterUs]; exact Nat.not_lt.2 h)

end Sys2Proof.Machine
end

section
/-! PROOFS. Frames of the bus: rows, accepted bulletins, the listen window, DUPLICATE (R2, R6, R8, R12, R13, R17,
R22, R23, R32, R33). -/

namespace Sys2Proof.Machine

/-! ### Rows by number (R31) -/

theorem Btb.row_eq_getElem {k : Nat} (low : 1 ≤ k) (high : k ≤ 24) (b : Btb) :
    b.row k = b.rows[(⟨k - 1, by omega⟩ : Fin 24)] := by
  have small : k - 1 < b.rows.toList.length := by simp; omega
  simp [Btb.row, List.getD_eq_getElem?_getD, List.getElem?_eq_getElem small]

/-- A row after a station row was replaced by a function of it. -/
theorem Btb.row_modifyRow {j : Nat} (low : 1 ≤ j) (high : j ≤ 24) (k : Nat) (g : Row → Row) (b : Btb) :
    (b.modifyRow k g).row j = if j = k then g (b.row j) else b.row j := by
  rw [Btb.row_eq_getElem low high, Btb.getElem_modifyRow, Btb.row_eq_getElem low high]
  simp only [Nat.sub_add_cancel low]

/-- Replacing a station row touches the station rows alone. -/
theorem Btb.modifyRow_eq (k : Nat) (g : Row → Row) (b : Btb) :
    b.modifyRow k g = { b with rows := (b.modifyRow k g).rows } := by
  unfold Btb.modifyRow
  split <;> rfl

/-- The row that a bulletin was stored in, and the others (R32). -/
theorem Btb.row_arrive {k : Nat} (low : 1 ≤ k) (high : k ≤ 24) (b : Bulletin) (t : Btb) :
    (t.modifyRow k (Row.arrive b)).row k = { t.row k with live := some b, state := .fresh, age := 0, heard := true }
      ∧ ∀ j, 1 ≤ j → j ≤ 24 → j ≠ k → (t.modifyRow k (Row.arrive b)).row j = t.row j := by
  refine ⟨?_, fun j jlow jhigh hj => ?_⟩
  · rw [Btb.row_modifyRow low high, if_pos rfl]; rfl
  · rw [Btb.row_modifyRow jlow jhigh, if_neg hj]

/-! ### The heard set (R6, R11) -/

theorem mem_hear (a k : Nat) (heard : List Nat) : a ∈ hear k heard ↔ a = k ∨ a ∈ heard := by
  induction heard with
  | nil => simp [hear]
  | cons b bs ih =>
    unfold hear
    split
    · simp
    · split
      · next hk => subst hk; simp
      · simp only [List.mem_cons, ih]; tauto

/-! ### Frames at their end -/

/-- The frame in progress is judged at its completion (R2, R4). -/
theorem exec_frameCompletion {e : Nat} {r : RxFrame} {s : State} (rx : (s.advance e).lsc.rx = some r)
    (chars : List RxChar) :
    exec (.frameCompletion e chars) s = .next ((s.advance e).completeFrame r chars) := by
  simp only [exec, execFrameCompletion, rx]

theorem State.completeFrame_of_bulletin {chars : List RxChar} {k : Nat} {cs : List Byte}
    (h : judgeFrame chars = some (.bulletin k cs)) (r : RxFrame) (s : State) :
    s.completeFrame r chars = s.endFrame.validFrame r (.bulletin k cs) := by
  simp only [State.completeFrame, h]

/-- An accepted bulletin reaches the station rows, the LSC and the alerts (R6, R23, R32). -/
theorem State.acceptBulletin_eq (k : Nat) (cs : List Byte) (s : State) : s.acceptBulletin k cs = { s with
    btb := { s.btb with rows := (s.btb.modifyRow k (Row.arrive (bulletinOf cs))).rows }
    aou := (s.acceptBulletin k cs).aou
    lsc := { s.lsc with heard := hear k s.lsc.heard, isolation := 0 } } := by
  rw [← Btb.modifyRow_eq]
  rfl

theorem State.acceptBulletin_live (k : Nat) (cs : List Byte) (s : State) :
    (s.acceptBulletin k cs).aou.live = putAlert s.aou.live .busIsolated false :=
  State.reportLive_live _ _

theorem State.isAnchor_iff (k : Nat) (s : State) : s.isAnchor k = true ↔ k < s.own ∧ k ≤ s.lsc.anchor := by
  simp [State.isAnchor]

theorem inWindow_iff (k p : Nat) : inWindow k p = true ↔ k * 40000 + 1000 ≤ p ∧ p ≤ k * 40000 + 5000 := by
  simp only [inWindow, Bool.and_eq_true, decide_eq_true_eq]
  exact Iff.rfl

theorem survivesJump_iff (own p : Nat) :
    survivesJump own p = true ↔ own * 40000 ≤ p ∧ p < own * 40000 + 2000 := by
  simp only [survivesJump, Bool.and_eq_true, inSlot_iff, decide_eq_true_eq]
  simp only [slotUs, transmitUs]
  omega

/-- A pending transmission survives a jump into the own slot, ahead of the transmit instant (R8). -/
theorem State.jump_composed (p : Nat) (s : State) : (s.jump p).lsc.composed
    = if s.own * 40000 ≤ p ∧ p < s.own * 40000 + 2000 then s.lsc.composed else none :=
  if_congr (survivesJump_iff s.own p) rfl rfl

theorem State.endFrame_own (s : State) : s.endFrame.own = s.own := rfl

/-- Settles O12: an anchor frame is accepted after its jump, another in its window; either way the row, the heard
set and the isolation count alone change with it. -/
theorem acceptedBulletinRefreshesItsRow : Obligations.AcceptedBulletinRefreshesItsRow := by
  intro e chars r k cs s u base rx judged other bus accepted
  obtain ⟨low, high, -⟩ := bulletinFrom_of_judgeFrame judged
  have done : exec (.frameCompletion e chars) s = .next (u.endFrame.validFrame r (.bulletin k cs)) := by
    rw [exec_frameCompletion rx, State.completeFrame_of_bulletin judged]
  obtain ⟨row, rows⟩ := Btb.row_arrive low high (bulletinOf cs) u.btb
  by_cases anchor : k < u.own ∧ k ≤ u.lsc.anchor
  · have jumped : u.endFrame.validFrame r (.bulletin k cs)
        = (u.endFrame.jump (realignedPosition k r.elapsed)).acceptBulletin k cs := by
      have anchored : u.endFrame.isAnchor k = true := (State.isAnchor_iff k _).2 anchor
      simp only [State.validFrame, State.endFrame_own, if_neg other, anchored]
      exact if_neg bus
    rw [jumped] at done
    refine ⟨_, done, ?_, ?_, ?_, fun a => mem_hear a k _, State.acceptBulletin_live _ _ _, fun h => absurd anchor h,
      fun _ => ⟨rfl, rfl, ?_⟩⟩
    · exact (State.acceptBulletin_eq k cs _).trans rfl
    · exact row
    · exact rows
    · exact State.jump_composed _ _
  · have windowed : u.endFrame.validFrame r (.bulletin k cs) = u.endFrame.acceptBulletin k cs := by
      obtain ⟨p, start, inside⟩ := accepted.resolve_left anchor
      have passed : u.endFrame.isAnchor k = false :=
        Bool.eq_false_iff.2 fun h => anchor ((State.isAnchor_iff k _).1 h)
      simp only [State.validFrame, State.endFrame_own, if_neg other, passed, State.windowed, start,
        (inWindow_iff k p).2 inside, if_true]
      exact if_neg bus
    rw [windowed] at done
    exact ⟨_, done, (State.acceptBulletin_eq k cs _).trans rfl, row, rows, fun a => mem_hear a k _,
      State.acceptBulletin_live _ _ _, fun _ => ⟨rfl, rfl, rfl⟩, fun h => absurd h anchor⟩

/-- Settles O13: in LISTEN the bulletin is accepted after its jump, and JOINING is entered. -/
theorem bulletinEndsTheListenWindow : Obligations.BulletinEndsTheListenWindow := by
  intro e chars r k cs s u rx judged other listen
  obtain ⟨low, high, -⟩ := bulletinFrom_of_judgeFrame judged
  obtain ⟨row, rows⟩ := Btb.row_arrive low high (bulletinOf cs) u.btb
  have ended : u.endFrame.validFrame r (.bulletin k cs)
      = ((u.endFrame.jump (realignedPosition k r.elapsed)).acceptBulletin k cs).join := by
    exact (if_neg other).trans (if_pos listen)
  have done : exec (.frameCompletion e chars) s
      = .next ((u.endFrame.jump (realignedPosition k r.elapsed)).acceptBulletin k cs).join := by
    rw [exec_frameCompletion rx, State.completeFrame_of_bulletin judged, ← ended]
  refine ⟨_, done, ?_, State.acceptBulletin_live _ _ _, fun a => mem_hear a k _, row, rows⟩
  dsimp only
  rw [← State.jump_composed]
  exact (congrArg State.join (State.acceptBulletin_eq k cs _)).trans rfl

/-- Settles O14: LISTEN, JOINING and ACTIVE enter DUPLICATE, and DUPLICATE discards the frame. -/
theorem ownAddressBulletinLeadsToDuplicate : Obligations.OwnAddressBulletinLeadsToDuplicate := by
  intro e chars r cs s u base rx judged
  have done : exec (.frameCompletion e chars) s = .next u.endFrame.ownAddressBulletin := by
    rw [exec_frameCompletion rx, State.completeFrame_of_bulletin judged]
    exact congrArg _ (if_pos rfl)
  refine ⟨fun bus => ⟨u.endFrame.enterDuplicate, ?_, ?_, rfl, State.reportLive_live _ _, ?_⟩, fun bus => ?_⟩
  · rw [done]
    unfold State.ownAddressBulletin
    have kept : u.endFrame.lsc.bus = u.lsc.bus := rfl
    rcases bus with bus | bus | bus <;> rw [kept, bus]
  · have idle : (if u.lsc.sending = none then min 400 u.lsc.idle else 0)
        = u.endFrame.lsc.releaseDriver.idle := by
      unfold State.endFrame Lsc.releaseDriver
      cases u.lsc.sending <;> rfl
    rw [idle]
    rfl
  · simp [State.enterDuplicate, State.reportLive_live]
  · rw [done]
    unfold State.ownAddressBulletin
    have kept : u.endFrame.lsc.bus = u.lsc.bus := rfl
    rw [kept, bus]
    rfl

end Sys2Proof.Machine
end

section
/-! PROOFS. The own slot: composing, sending, collisions, the own row, the window that ends in silence, the
ageing mark (R1, R8 to R11, R16, R19 to R21, R28 to R30, R33, R36, R40). -/

namespace Sys2Proof.Machine

/-! ### Composing (R28, R29) -/

/-- The own bulletin follows the table of R28. -/
theorem State.ownBulletin_composedFrom (s : State) : s.ownBulletin.ComposedFrom s := by
  unfold Bulletin.ComposedFrom State.ownBulletin
  cases set : s.ssc.scanSet <;> cases record : s.fde.allotment <;>
    simp [ownOutletField, roundDivNat]

/-- Own-slot start is raised again only after a cycle end, an ageing mark or a reset (R8). -/
theorem ownSlotRaised_line {c : Instr} {s t : State} (hl : Line c s t) (hc : ∀ e f, c ≠ .cycleEnd e f)
    (ha : ∀ e, c ≠ .ageingMark e) (hr : c ≠ .resetAsserted) (h : s.lsc.ownSlotRaised = true) :
    t.lsc.ownSlotRaised = true := by
  have moved : ∀ {u v : State}, Move u v → u.lsc.ownSlotRaised = true → v.lsc.ownSlotRaised = true :=
    fun hm hu => by rw [hm.frame.1]; exact hu
  cases hl with
  | move hm => exact moved hm h
  | advance dt s => unfold State.advance; split <;> exact h
  | load f s early =>
    have started : ∀ own, (s.lsc.start own).ownSlotRaised = s.lsc.ownSlotRaised := fun own => by
      unfold Lsc.start; split <;> rfl
    simpa [State.completeLoad, State.handOut, started] using h
  | frame r chars s rx =>
    refine (State.completeFrame_arrivals r chars s).keeps (P := fun u => u.lsc.ownSlotRaised = true)
      (fun u v huv hu => ?_) h
    cases huv with
    | move hm => exact moved hm hu
    | _ => exact hu
  | mismatch s sends => unfold State.mismatch Lsc.collide; split <;> exact h
  | compose | openActive => rfl
  | release | beginFrame | stray | send | endClean => exact h
  | endCycle f s ends => obtain ⟨e, he⟩ := ends; exact absurd he (hc e f)
  | markAgeing s ends => obtain ⟨e, he⟩ := ends; exact absurd he (ha e)
  | reset s hres => exact absurd hres hr

/-- Settles O17: own-slot start composes what R28 says, once; only cycle end, ageing mark and reset take its mark
away. -/
theorem ownSlotStartComposesTheBulletin : Obligations.OwnSlotStartComposesTheBulletin := by
  refine ⟨fun e s => ?_, fun c s t raised he hc ha hr =>
    (exec_lines he).keeps (P := fun u => u.lsc.ownSlotRaised = true)
      (fun _ _ hl hu => ownSlotRaised_line hl hc ha hr hu) raised⟩
  refine ⟨fun active entered fresh => ⟨_, if_pos ⟨active, entered, by simp [fresh]⟩,
    State.ownBulletin_composedFrom _⟩, fun blocked => if_neg ?_⟩
  rintro ⟨active, entered, fresh⟩
  rcases blocked with h | h | h
  · exact h active
  · simp [h] at entered
  · exact fresh h

/-- Settles O20: the silent window's end puts the position at the own slot's start and composes. -/
theorem silentListenWindowEntersActive : Obligations.SilentListenWindowEntersActive := by
  intro e s u listen silent
  exact ⟨u.ownBulletin, if_pos ⟨listen, silent⟩, u.ownBulletin_composedFrom⟩

/-! ### Characters on the line (R1) -/

theorem charBits_length (b : Byte) : (charBits b).length = 10 := rfl

/-- Bit j of character i stands at bit time 10 i + j (R1). -/
theorem flatMap_charBits_getElem? (cs : List Byte) (i : Nat) {j : Nat} (hj : j < 10) :
    (cs.flatMap charBits)[10 * i + j]? = cs[i]?.bind fun c => (charBits c)[j]? := by
  induction cs generalizing i with
  | nil => simp
  | cons c cs ih =>
    rw [List.flatMap_cons]
    cases i with
    | zero => simp [List.getElem?_append, charBits_length, hj]
    | succ i =>
      rw [List.getElem?_append_right (by rw [charBits_length]; omega), charBits_length,
        show 10 * (i + 1) + j - 10 = 10 * i + j by omega, ih]
      rfl

theorem charBits_data (b : Byte) {j : Nat} (hj : j < 8) : (charBits b)[1 + j]? = some (b.getLsbD j) := by
  rw [Nat.add_comm, charBits, List.cons_append, List.getElem?_cons_succ, List.getElem?_append_left (by simpa),
    List.getElem?_map, List.getElem?_range hj]
  rfl

theorem flatMap_charBits_length (cs : List Byte) : (cs.flatMap charBits).length = 10 * cs.length := by
  induction cs with
  | nil => rfl
  | cons c cs ih => rw [List.flatMap_cons, List.length_append, ih, charBits_length, List.length_cons]; omega

/-- TXD while the station sends `cs` (R1). -/
theorem State.txd_of_sending {s : State} {cs : List Byte} (h : s.lsc.sending = some cs) (n : Nat) :
    s.txd n = ((cs.flatMap charBits)[n]?).getD true := by
  simp [State.txd, h, List.getD_eq_getElem?_getD]

/-! ### Collisions (R16, R20, R21) -/

/-- The transmit instant has come (R8). -/
theorem State.transmitDue_iff (s : State) : s.transmitDue = true ↔ s.lsc.bus = .active
    ∧ s.lsc.composed ≠ none ∧ ∃ p, s.lsc.position = some p ∧ s.own * 40000 + 2000 ≤ p ∧ p < (s.own + 1) * 40000 := by
  unfold State.transmitDue
  cases s.lsc.position with
  | none => simp
  | some p =>
    simp only [Bool.and_eq_true, beq_iff_eq, inSlot_iff, decide_eq_true_eq, Option.isSome_iff_ne_none,
      Option.some.injEq, exists_eq_left', and_assoc]
    simp only [slotUs, transmitUs]
    constructor
    · rintro ⟨active, held, low, high, past⟩
      exact ⟨active, held, past, high⟩
    · rintro ⟨active, held, past, high⟩
      exact ⟨active, held, (Nat.le_add_right _ _).trans past, high, past⟩

theorem Lsc.releaseDriver_eq (l : Lsc) :
    l.releaseDriver = { l with sending := none, idle := if l.sending = none then l.idle else 0 } := by
  unfold Lsc.releaseDriver
  cases l.sending <;> rfl

/-- What has come back is compared while the station sends (R20). -/
theorem exec_transmitReadbackMismatch {e : Nat} {s : State} {cs : List Byte}
    (sending : (s.advance e).lsc.sending = some cs) (returned : List (Option RxChar)) :
    exec (.transmitReadbackMismatch ⟨e, returned⟩) s = if returnDiffers cs returned then
      .next (s.advance e).mismatch else .next (s.advance e) := by
  simp only [exec, execTransmitReadbackMismatch, sending]

theorem exec_cleanTransmission {e : Nat} {s : State} {cs : List Byte}
    (sending : (s.advance e).lsc.sending = some cs) (returned : List (Option RxChar)) :
    exec (.cleanTransmission ⟨e, returned⟩) s = if returned = echoOf cs then
      .next ((s.advance e).endClean cs) else .next (s.advance e) := by
  simp only [exec, execCleanTransmission, sending]

/-- Settles O18: the transmit instant sends or collides where it is due, and what comes back differing
collides. -/
theorem transmissionOrCollision : Obligations.TransmissionOrCollision := by
  intro e cs returned s u ext collided
  have collides : u.mismatch = { u with lsc := collided u.lsc } := by
    simp only [State.mismatch, Lsc.collide, Lsc.releaseDriver_eq]
    rfl
  refine ⟨fun p active held position past ahead => ?_, fun blocked busy => ?_, fun sending => ⟨fun differs => ?_,
    fun same => ?_⟩⟩
  · have due : u.transmitDue = true :=
      u.transmitDue_iff.2 ⟨active, by simp [held], p, position, past, ahead⟩
    have sent : exec (.transmitInstant e false) s
        = .next { u with lsc := { u.lsc with sending := some cs, composed := none } } := by
      rw [← held]; exact if_pos due
    refine ⟨⟨_, sent, rfl, rfl, fun i c hc => ?_, fun n hn => ?_⟩, collides ▸ if_pos due⟩
    · have bit : ∀ j < 10, State.txd (10 * i + j)
          { u with lsc := { u.lsc with sending := some cs, composed := none } } = ((charBits c)[j]?).getD true :=
        fun j hj => by rw [State.txd_of_sending rfl, flatMap_charBits_getElem? cs i hj, hc]; rfl
      refine ⟨bit 0 (by omega), bit 9 (by omega), fun j hj => ?_⟩
      rw [Nat.add_assoc, bit (1 + j) (by omega), charBits_data c hj]
      rfl
    · rw [State.txd_of_sending rfl, List.getElem?_eq_none (by rw [flatMap_charBits_length]; exact hn)]
      rfl
  · refine if_neg fun due => ?_
    obtain ⟨active, held, p, position, past, ahead⟩ := u.transmitDue_iff.1 due
    rcases blocked with h | h | h
    · exact h active
    · exact held h
    · rcases h p position with h | h <;> omega
  · have differ : returnDiffers cs returned = true := (returnDiffers_iff cs returned).2 differs
    rw [← collides, exec_transmitReadbackMismatch sending, if_pos differ]
  · have agree : returnDiffers cs returned = false := Bool.eq_false_iff.2 fun h => by
      obtain ⟨i, c, x, hc, hx, hne⟩ := (returnDiffers_iff cs returned).1 h
      exact hne (same i c x hc hx)
    rw [exec_transmitReadbackMismatch sending, agree]
    rfl

/-- Settles O19: a transmission that came back equal stores its bulletin in the own row; one that did not changes
nothing. -/
theorem cleanTransmissionStoresTheOwnRow : Obligations.CleanTransmissionStoresTheOwnRow := by
  intro e cs returned s u echo sending low high
  obtain ⟨row, rows⟩ := Btb.row_arrive low high (bulletinOf cs) u.btb
  refine ⟨fun h => (exec_cleanTransmission sending returned).trans (if_neg h), u.endClean cs,
    (exec_cleanTransmission sending echo).trans (if_pos rfl), ?_, row, rows, rfl, fun _ => rfl⟩
  unfold State.endClean State.storeRow
  dsimp only
  rw [Lsc.releaseDriver_of_sending sending, ← Btb.modifyRow_eq]

/-! ### The ageing mark (R10, R11, R36, R40) -/

/-- The lowest of the own address and the heard set: one of them, and none is lower (R11). -/
theorem lowestHeard_spec (own : Nat) (heard : List Nat) :
    (lowestHeard own heard = own ∨ lowestHeard own heard ∈ heard) ∧ lowestHeard own heard ≤ own
      ∧ ∀ a ∈ heard, lowestHeard own heard ≤ a := by
  unfold lowestHeard
  induction heard generalizing own with
  | nil => simp
  | cons b bs ih =>
    obtain ⟨one, low, rest⟩ := ih (Nat.min own b)
    have left : Nat.min own b ≤ own := Nat.min_le_left own b
    have right : Nat.min own b ≤ b := Nat.min_le_right own b
    refine ⟨?_, low.trans left, fun a ha => ?_⟩
    · rcases one with one | one
      · rw [List.foldl_cons, one]
        rcases Nat.le_total own b with h | h
        · exact .inl (Nat.min_eq_left h)
        · exact .inr (by rw [show Nat.min own b = b from Nat.min_eq_right h]; exact List.mem_cons_self)
      · exact .inr (List.mem_cons_of_mem b one)
    · rcases List.mem_cons.1 ha with rfl | ha
      · exact low.trans right
      · exact rest a ha

/-- A row of a table that was mapped row by row. -/
theorem Btb.row_mapRows {k : Nat} (low : 1 ≤ k) (high : k ≤ 24) (g : Row → Row) (b : Btb) :
    ({ b with rows := mapRows g b.rows } : Btb).row k = g (b.row k) := by
  rw [Btb.row_eq_getElem low high, getElem_mapRows, Btb.row_eq_getElem low high]

/-- The ageing of a row at an ageing mark, case by case (R36, R40). -/
theorem Row.age1_unheard (limit : Nat) (r : Row) :
    (r.heard = true → (r.age1 limit).unheard = { r with heard := false })
      ∧ (r.heard = false → r.state = .fresh → (r.age1 limit).unheard = { r with state := .held, age := 1 })
      ∧ (r.heard = false → r.state = .held → r.age < limit →
          (r.age1 limit).unheard = { r with age := r.age + 1 })
      ∧ (r.heard = false → r.state = .held → limit ≤ r.age →
          (r.age1 limit).unheard = ⟨none, none, .absent, 0, .absent, 0, false, r.crcErrors, r.misaligned⟩)
      ∧ (r.heard = false → r.state = .absent → (r.age1 limit).unheard = r) := by
  obtain ⟨live, snapCopy, snapState, snapAge, state, age, heard, crcErrors, misaligned⟩ := r
  refine ⟨fun h => ?_, fun h hs => ?_, fun h hs young => ?_, fun h hs old => ?_, fun h hs => ?_⟩
  · simp_all [Row.age1, Row.unheard]
  · simp_all [Row.age1, Row.unheard]
  · simp_all [Row.age1, Row.unheard]
  · have past : ¬ age < limit := Nat.not_lt.2 old
    subst h hs
    simp only [Row.age1, Row.unheard, Bool.false_eq_true, if_false, if_neg past]
  · simp_all [Row.age1, Row.unheard]

/-- Settles O23: the passing that raises the mark keeps the spacing of R9; the mark ages the rows and takes the
anchor, and nothing else. -/
theorem ageingMarkReachesOnlyTheTableAndTheAnchor : Obligations.AgeingMarkReachesOnlyTheTableAndTheAnchor := by
  intro e s
  refine ⟨fun p loaded fresh position first => ?_, fun bad f => ?_, fun off => ?_, fun bad passed => ?_⟩
  · have advanced : (s.advance e).lsc.endPassed = raisesEnd e s.lsc.sinceCycleEnd (some p) := by
      simp [State.advance, loaded, Lsc.advance, fresh, position]
    rw [advanced, raisesEnd_iff]
    have second : ¬ 2000000 ≤ p + e := by omega
    simp only [second, or_false, not_exists, not_and, Nat.not_lt]
  · exact if_neg fun h => by simp [bad, BusState.raisesCycleEnd] at h
  · refine if_neg fun h => ?_
    rcases off with off | off
    · exact off h.1
    · simp [off] at h
  · obtain ⟨one, low, least⟩ := lowestHeard_spec (s.advance e).own (s.advance e).lsc.heard
    refine ⟨(s.advance e).markAgeing, if_pos ⟨bad, passed⟩, rfl, one, low, least, fun k klow khigh => ?_⟩
    have row : (s.advance e).markAgeing.btb.row k
        = (((s.advance e).btb.row k).age1 (s.advance e).params.holdLimit).unheard :=
      Btb.row_mapRows klow khigh (fun r => (r.age1 (s.advance e).params.holdLimit).unheard) _
    dsimp only
    rw [row]
    exact Row.age1_unheard _ _

end Sys2Proof.Machine
end

section
/-! PROOFS. The cycle end in the LSC, the timers, the valve's travel check, the computation's inputs and the
cadence (R9, R11, R18, R23, R63, R146, R155, R170, R171). -/

namespace Sys2Proof.Machine

/-! ### Qualifying and the cadence (R170, R171) -/

theorem Category.exists_bit {n : Nat} (h : n < 12) : ∃ c : Category, c.bit = n := by
  have every : ∀ n : Fin 12, ∃ c ∈ allCategories, c.bit = n.val := by decide
  obtain ⟨c, -, hc⟩ := every ⟨n, h⟩
  exact ⟨c, hc⟩

/-- The line qualifies where an enabled category's selected source is true (R170). -/
theorem Aou.qualifies_iff (enables selects : AlertMask) (a : Aou) : a.qualifies enables selects = true
    ↔ ∃ c, hasAlert enables c = true ∧ (if hasAlert selects c then hasAlert a.latched c else hasAlert a.live c) = true := by
  have nonzero : ∀ m : AlertMask, (m != 0) = true ↔ ∃ c, hasAlert m c = true := fun m => by
    rw [bne_iff_ne]
    constructor
    · intro h
      by_contra none
      refine h (BitVec.eq_of_getLsbD_eq fun n hn => ?_)
      obtain ⟨c, rfl⟩ := Category.exists_bit hn
      have clear : hasAlert m c ≠ true := fun hc => none ⟨c, hc⟩
      simpa [hasAlert] using clear
    · rintro ⟨c, hc⟩ rfl
      simp [hasAlert] at hc
  unfold Aou.qualifies
  rw [nonzero]
  refine exists_congr fun c => ?_
  simp only [hasAlert, BitVec.getLsbD_and, BitVec.getLsbD_or, BitVec.getLsbD_not, c.bit_lt, decide_true, Bool.true_and]
  by_cases h : selects.getLsbD c.bit = true <;> simp [h]

/-- The conditions and flags of an Alert Output replaced; the cadence stands. -/
def Aou.withMasks (live latched : AlertMask) (a : Aou) : Aou := { a with live := live, latched := latched }

/-- A count of the cadence does not look at the conditions (R171). -/
theorem Aou.cycleEnd_withMasks (report space : Nat) (live latched : AlertMask) (a : Aou) :
    (a.withMasks live latched).cycleEnd report space = (a.cycleEnd report space).withMasks live latched := by
  unfold Aou.cycleEnd Aou.withMasks
  dsimp only
  repeat' split
  all_goals rfl

theorem Aou.cycleEnd_masks (report space : Nat) (a : Aou) :
    (a.cycleEnd report space).live = a.live ∧ (a.cycleEnd report space).latched = a.latched := by
  unfold Aou.cycleEnd
  repeat' split
  all_goals exact ⟨rfl, rfl⟩

theorem Aou.cycleEnd_idle (report space : Nat) (a : Aou) :
    (a.cycleEnd report space).cadence = .idle ↔ a.cadence = .idle := by
  unfold Aou.cycleEnd
  repeat' split
  all_goals simp_all

theorem Aou.cycleEnd_of_idle {a : Aou} (h : a.cadence = .idle) (report space : Nat) : a.cycleEnd report space = a := by
  simp [Aou.cycleEnd, h]

/-- The masks alone decide whether the line qualifies. -/
theorem Aou.qualifies_congr {a b : Aou} (live : a.live = b.live) (latched : a.latched = b.latched)
    (enables selects : AlertMask) : a.qualifies enables selects = b.qualifies enables selects := by
  unfold Aou.qualifies
  rw [live, latched]

section
variable {enables selects : AlertMask} {a : Aou} (live : AlertMask)

/-- Conditions that qualify and find IDLE begin REPORT (R170, R171). -/
theorem Aou.setLive_begins (idle : a.cadence = .idle)
    (q : (a.withMasks live (a.latched ||| live)).qualifies enables selects = true) :
    a.setLive enables selects live
      = { a.withMasks live (a.latched ||| live) with cadence := .report, count := 0, line := true } := by
  unfold Aou.setLive Aou.reeval
  exact (if_pos q).trans (if_pos idle)

theorem Aou.setLive_goes_on (busy : a.cadence ≠ .idle)
    (q : (a.withMasks live (a.latched ||| live)).qualifies enables selects = true) :
    a.setLive enables selects live = a.withMasks live (a.latched ||| live) := by
  unfold Aou.setLive Aou.reeval
  exact (if_pos q).trans (if_neg busy)

theorem Aou.setLive_stays_idle (idle : a.cadence = .idle)
    (q : (a.withMasks live (a.latched ||| live)).qualifies enables selects = false) :
    a.setLive enables selects live = a.withMasks live (a.latched ||| live) := by
  unfold Aou.setLive Aou.reeval
  exact (if_neg (Bool.eq_false_iff.1 q)).trans (if_pos idle)

theorem Aou.setLive_ends (busy : a.cadence ≠ .idle)
    (q : (a.withMasks live (a.latched ||| live)).qualifies enables selects = false) :
    a.setLive enables selects live
      = { a.withMasks live (a.latched ||| live) with cadence := .idle, count := 0, line := false } := by
  unfold Aou.setLive Aou.reeval
  exact (if_neg (Bool.eq_false_iff.1 q)).trans (if_neg busy)

end

theorem Aou.setLive_masks (enables selects live : AlertMask) (a : Aou) :
    (a.setLive enables selects live).live = live ∧ (a.setLive enables selects live).latched = a.latched ||| live :=
  Aou.reeval_live _ _ _

/-! ### The Alert Output at a cycle end -/

/-- The cadence's count under a condition, as the order of events has it (log entry 4). -/
def Aou.countIf (b : Bool) (report space : Nat) (a : Aou) : Aou := if b then a.cycleEnd report space else a

/-- A report of the live conditions that changes nothing is not made (log entry 14). -/
def Aou.take (enables selects live : AlertMask) (a : Aou) : Aou :=
  if live = a.live then a else a.setLive enables selects live

theorem State.countCadenceIf_aou (b : Bool) (s : State) : (s.countCadenceIf b).aou
    = s.aou.countIf b s.params.reportInterval s.params.spaceInterval := by
  cases b <;> rfl

/-- Where BUS_ISOLATED begins at a cycle end (R23). -/
def Lsc.isolates (own : Nat) (l : Lsc) : Prop := l.bus = .active ∧ (l.countIsolation own).isolation = 10

theorem State.countIsolation_aou_of {s : State} (h : s.lsc.isolates s.own) : s.countIsolation.aou
    = s.aou.take s.enables s.params.selects (putAlert s.aou.live .busIsolated true) := by
  obtain ⟨active, ten⟩ := h
  have reached : s.stepIsolation.lsc.bus = .active ∧ s.stepIsolation.lsc.isolation = 10 :=
    ⟨(Lsc.countIsolation_bus _ _).trans active, ten⟩
  unfold State.countIsolation
  rw [if_pos reached]
  rfl

theorem State.countIsolation_aou_not {s : State} (h : ¬ s.lsc.isolates s.own) : s.countIsolation.aou = s.aou := by
  have missed : ¬ (s.stepIsolation.lsc.bus = .active ∧ s.stepIsolation.lsc.isolation = 10) := fun hr =>
    h ⟨(Lsc.countIsolation_bus _ _).symm.trans hr.1, hr.2⟩
  unfold State.countIsolation
  rw [if_neg missed]
  rfl

/-- The Alert Output at a cycle end: the cadence's count and the beginning of BUS_ISOLATED, in the order that the
command names (R23, R170, R171). -/
theorem State.endCycle_aou (cadenceFirst : Bool) (s : State) : (s.endCycle cadenceFirst).aou
    = (((s.chooseOrder cadenceFirst).countCadenceIf cadenceFirst).countIsolation.aou).countIf (!cadenceFirst)
        s.params.reportInterval s.params.spaceInterval := by
  simp [State.endCycle, State.countCadenceIf_aou]

theorem Aou.countIf_masks (b : Bool) (report space : Nat) (a : Aou) :
    (a.countIf b report space).live = a.live ∧ (a.countIf b report space).latched = a.latched := by
  cases b
  · exact ⟨rfl, rfl⟩
  · exact Aou.cycleEnd_masks report space a

theorem Aou.countIf_withMasks (b : Bool) (report space : Nat) (live latched : AlertMask) (a : Aou) :
    (a.withMasks live latched).countIf b report space = (a.countIf b report space).withMasks live latched := by
  cases b
  · rfl
  · exact Aou.cycleEnd_withMasks report space live latched a

theorem Aou.countIf_of_idle {a : Aou} (h : a.cadence = .idle) (b : Bool) (report space : Nat) :
    a.countIf b report space = a := by
  cases b
  · rfl
  · exact Aou.cycleEnd_of_idle h report space

theorem Aou.countIf_busy {a : Aou} (h : a.cadence ≠ .idle) (b : Bool) (report space : Nat) :
    (a.countIf b report space).cadence ≠ .idle := by
  cases b
  · exact h
  · exact fun hc => h ((Aou.cycleEnd_idle report space a).1 hc)

/-- One count, before an event or after it. -/
theorem Aou.countIf_countIf_not (b : Bool) (report space : Nat) (a : Aou) :
    (a.countIf b report space).countIf (!b) report space = a.cycleEnd report space := by
  cases b <;> rfl

section
variable {enables selects live : AlertMask} {report space : Nat} {a : Aou} (first : Bool)

/-- The conditions that begin at a cycle end, among them new ones (R170, R171; log entry 4). -/
def Aou.endWith (first : Bool) (report space : Nat) (enables selects live : AlertMask) (a : Aou) : Aou :=
  ((a.countIf first report space).setLive enables selects live).countIf (!first) report space

theorem Aou.endWith_masks : (a.endWith first report space enables selects live).live = live
    ∧ (a.endWith first report space enables selects live).latched = a.latched ||| live := by
  obtain ⟨live', latched'⟩ := Aou.countIf_masks (!first) report space
    ((a.countIf first report space).setLive enables selects live)
  obtain ⟨set, setLatched⟩ := Aou.setLive_masks enables selects live (a.countIf first report space)
  exact ⟨live'.trans set, latched'.trans (setLatched.trans (by rw [(Aou.countIf_masks first report space a).2]))⟩

theorem Aou.endWith_idle (idle : a.cadence = .idle) : a.endWith first report space enables selects live
    = (a.setLive enables selects live).countIf (!first) report space := by
  unfold Aou.endWith
  rw [Aou.countIf_of_idle idle]

theorem Aou.endWith_stays_idle (idle : a.cadence = .idle)
    (q : (a.withMasks live (a.latched ||| live)).qualifies enables selects = false) :
    a.endWith first report space enables selects live = a.withMasks live (a.latched ||| live) := by
  rw [Aou.endWith_idle first idle, Aou.setLive_stays_idle live idle q]
  exact Aou.countIf_of_idle (by exact idle) _ _ _

/-- The masks that the count leaves decide as those before it. -/
theorem Aou.qualifies_countIf {q : Bool}
    (h : (a.withMasks live (a.latched ||| live)).qualifies enables selects = q) :
    ((a.countIf first report space).withMasks live ((a.countIf first report space).latched ||| live)).qualifies
      enables selects = q := by
  rw [(Aou.countIf_masks first report space a).2]
  exact h

theorem Aou.endWith_goes_on (busy : a.cadence ≠ .idle)
    (q : (a.withMasks live (a.latched ||| live)).qualifies enables selects = true) :
    a.endWith first report space enables selects live
      = (a.cycleEnd report space).withMasks live (a.latched ||| live) := by
  unfold Aou.endWith
  rw [Aou.setLive_goes_on live (Aou.countIf_busy busy _ _ _) (Aou.qualifies_countIf first q),
    Aou.countIf_withMasks, Aou.countIf_countIf_not, (Aou.countIf_masks first report space a).2]

theorem Aou.endWith_ends (busy : a.cadence ≠ .idle)
    (q : (a.withMasks live (a.latched ||| live)).qualifies enables selects = false) :
    a.endWith first report space enables selects live
      = { a.withMasks live (a.latched ||| live) with cadence := .idle, count := 0, line := false } := by
  unfold Aou.endWith
  rw [Aou.setLive_ends live (Aou.countIf_busy busy _ _ _) (Aou.qualifies_countIf first q),
    Aou.countIf_of_idle (by rfl), (Aou.countIf_masks first report space a).2]
  rfl

end

/-- The Alert Output at a cycle end at which BUS_ISOLATED begins, and at any other. -/
theorem State.endCycle_aou_eq (cadenceFirst : Bool) (s : State) :
    (s.lsc.isolates s.own → putAlert s.aou.live .busIsolated true ≠ s.aou.live → (s.endCycle cadenceFirst).aou
        = s.aou.endWith cadenceFirst s.params.reportInterval s.params.spaceInterval s.enables s.params.selects
            (putAlert s.aou.live .busIsolated true))
      ∧ (s.lsc.isolates s.own → putAlert s.aou.live .busIsolated true = s.aou.live → (s.endCycle cadenceFirst).aou
        = s.aou.cycleEnd s.params.reportInterval s.params.spaceInterval)
      ∧ (¬ s.lsc.isolates s.own → (s.endCycle cadenceFirst).aou
        = s.aou.cycleEnd s.params.reportInterval s.params.spaceInterval) := by
  have before : ((s.chooseOrder cadenceFirst).countCadenceIf cadenceFirst).aou
      = s.aou.countIf cadenceFirst s.params.reportInterval s.params.spaceInterval := State.countCadenceIf_aou _ _
  obtain ⟨live, -⟩ := Aou.countIf_masks cadenceFirst s.params.reportInterval s.params.spaceInterval s.aou
  have same : ((s.chooseOrder cadenceFirst).countCadenceIf cadenceFirst).lsc.isolates
      ((s.chooseOrder cadenceFirst).countCadenceIf cadenceFirst).own = s.lsc.isolates s.own := by
    simp [State.own]
  have taken : s.lsc.isolates s.own → ((s.chooseOrder cadenceFirst).countCadenceIf cadenceFirst).countIsolation.aou
      = (s.aou.countIf cadenceFirst s.params.reportInterval s.params.spaceInterval).take s.enables s.params.selects
          (putAlert s.aou.live .busIsolated true) := fun h => by
    rw [State.countIsolation_aou_of (same ▸ h), before, live]
    simp [State.enables]
  refine ⟨fun h new => ?_, fun h old => ?_, fun h => ?_⟩
  · rw [State.endCycle_aou, taken h, Aou.take, live, if_neg new]
    rfl
  · rw [State.endCycle_aou, taken h, Aou.take, live, if_pos old, Aou.countIf_countIf_not]
  · rw [State.endCycle_aou, State.countIsolation_aou_not (same ▸ h), before, Aou.countIf_countIf_not]

/-! ### The cycle end in every block -/

/-- The own items that a computation latches (R63). -/
def State.latchedInputs (bus : BusState) (s : State) : Latched where
  scan := s.ssc.scanSet
  tSet := if s.straps.loop then s.ord.setpoint1 else s.ord.setpoint0
  tFloor := if s.straps.loop then s.ord.floor1 else s.ord.floor0
  q := s.vdr.q
  valveAtMin := s.vdr.command == minOpening s.params s.vdr.frost
  nAvail := s.fcc.nAvail
  runningCount := s.fcc.runOrder.length
  anyTurning := s.fcc.anyTurning
  bus := bus
  role := s.fde.role

theorem State.endCycle_fde (cadenceFirst : Bool) (s : State) :
    (s.endCycle cadenceFirst).fde = { s.fde with latched := some (s.latchedInputs s.lsc.bus) } := by
  simp [State.endCycle, State.latch, State.latchedInputs]

/-- What a cycle end leaves as it was. -/
theorem State.endCycle_eq (cadenceFirst : Bool) (s : State) : s.endCycle cadenceFirst = { s with
    lsc := (s.endCycle cadenceFirst).lsc
    btb := (s.endCycle cadenceFirst).btb
    itb := (s.endCycle cadenceFirst).itb
    vdr := (s.endCycle cadenceFirst).vdr
    aou := (s.endCycle cadenceFirst).aou
    fde := (s.endCycle cadenceFirst).fde
    cadenceFirst := cadenceFirst } := by
  have frame := State.endCycle_frame cadenceFirst s
  have order : (s.endCycle cadenceFirst).cadenceFirst = cadenceFirst := by
    simp [State.endCycle, State.chooseOrder]
  generalize s.endCycle cadenceFirst = t at frame order
  cases t
  simp_all

/-- The ALERT pin follows the line by its asserted level, once the image is loaded (R169, R170). -/
theorem State.alertLow_iff (s : State) : s.alertLow = true
    ↔ s.loaded = true ∧ (s.aou.line = true ↔ s.params.assertedReleased = false) := by
  unfold State.alertLow
  cases s.loaded <;> cases s.params.assertedReleased <;> cases s.aou.line <;> decide

theorem heardNoOther_iff (own : Nat) (heard : List Nat) :
    heardNoOther own heard = true ↔ ∀ a ∈ heard, a = own := by
  simp [heardNoOther]

/-- The isolation count at a cycle end (R23). -/
theorem Lsc.countIsolation_eq (own : Nat) (l : Lsc) :
    (l.bus = .active → (∀ a ∈ l.heard, a = own) →
        (l.countIsolation own).isolation = if l.isolation < 10 then l.isolation + 1 else l.isolation)
      ∧ (l.bus ≠ .active ∨ (∃ a, a ∈ l.heard ∧ a ≠ own) → (l.countIsolation own).isolation = l.isolation) := by
  unfold Lsc.countIsolation
  refine ⟨fun active alone => by rw [if_pos ⟨active, (heardNoOther_iff own l.heard).2 alone⟩]; rfl, fun h => ?_⟩
  rw [if_neg]
  rintro ⟨active, alone⟩
  rcases h with h | ⟨a, ha, hne⟩
  · exact h active
  · exact hne ((heardNoOther_iff own l.heard).1 alone a ha)

/-- What a cycle end does to the LSC (R9, R11, R18, R23). -/
theorem State.endCycle_lsc_eq (cadenceFirst : Bool) (s : State) :
    (s.endCycle cadenceFirst).lsc = { s.lsc with
        endPassed := false, ownSlotRaised := false, heard := []
        anchor := lowestHeard s.own s.lsc.heard
        isolation := (s.lsc.countIsolation s.own).isolation
        bus := (s.endCycle cadenceFirst).lsc.bus
        joinCycleEnds := (s.endCycle cadenceFirst).lsc.joinCycleEnds }
      ∧ (s.lsc.bus = .joining → s.lsc.joinCycleEnds = 0 →
        (s.endCycle cadenceFirst).lsc.bus = .joining ∧ (s.endCycle cadenceFirst).lsc.joinCycleEnds = 1)
      ∧ (s.lsc.bus = .joining → s.lsc.joinCycleEnds = 1 → (s.endCycle cadenceFirst).lsc.bus = .active)
      ∧ (s.lsc.bus ≠ .joining → (s.endCycle cadenceFirst).lsc.bus = s.lsc.bus
        ∧ (s.endCycle cadenceFirst).lsc.joinCycleEnds = s.lsc.joinCycleEnds) := by
  have counted : s.lsc.countIsolation s.own
      = { s.lsc with isolation := (s.lsc.countIsolation s.own).isolation } := by
    unfold Lsc.countIsolation; split <;> rfl
  rw [State.endCycle_lsc, counted]
  unfold Lsc.countJoining
  refine ⟨?_, fun joining first => ?_, fun joining second => ?_, fun other => ?_⟩
  · repeat' split
    all_goals rfl
  · rw [if_pos (by exact joining), if_neg (by simp [Lsc.recomputeAnchor, Lsc.takeEnd, first])]
    exact ⟨joining, by simp [Lsc.recomputeAnchor, Lsc.takeEnd, first]⟩
  · rw [if_pos (by exact joining), if_pos (by simp [Lsc.recomputeAnchor, Lsc.takeEnd, second])]
  · rw [if_neg (by exact other)]
    exact ⟨rfl, rfl⟩

/-- The travel check at a cycle end (R146). -/
theorem Vdr.cycleEnd_cases (p : Params) (v : Vdr) : (v.check ≠ .timing → v.cycleEnd p = v)
    ∧ (v.check = .timing → v.cycleEnd p = { v with
        travelCount := if v.travelCount < p.travelTime then v.travelCount + 1 else v.travelCount }) := by
  unfold Vdr.cycleEnd
  exact ⟨fun h => if_neg h, fun h => if_pos h⟩

/-- Settles O22: block by block, the cycle end is the LSC's, the timers', the valve's, the cadence's and the
FDE's part. -/
theorem cycleEndCountsAndLatches : Obligations.CycleEndCountsAndLatches := by
  intro e cadenceFirst s u bus passed p counted
  have raises : u.lsc.bus.raisesCycleEnd = true := by
    cases hb : u.lsc.bus <;> simp_all [BusState.raisesCycleEnd]
  have counted_eq : ∀ a, counted a = a.cycleEnd p.reportInterval p.spaceInterval := fun a => rfl
  obtain ⟨lsc, joinFirst, joinSecond, passive⟩ := State.endCycle_lsc_eq cadenceFirst u
  obtain ⟨one, low, least⟩ := lowestHeard_spec u.own u.lsc.heard
  obtain ⟨alone, accompanied⟩ := Lsc.countIsolation_eq u.own u.lsc
  obtain ⟨beginning, standing, other⟩ := State.endCycle_aou_eq cadenceFirst u
  obtain ⟨still, timing⟩ := Vdr.cycleEnd_cases u.params u.vdr
  have anchor : (u.endCycle cadenceFirst).lsc.anchor = lowestHeard u.own u.lsc.heard := by rw [lsc]
  have isolation : (u.endCycle cadenceFirst).lsc.isolation = (u.lsc.countIsolation u.own).isolation := by rw [lsc]
  refine ⟨u.endCycle cadenceFirst, u.latchedInputs u.lsc.bus, if_pos ⟨raises, passed⟩, ?_, ?_, ?_, ?_, ?_, ?_, ?_, ?_,
    ?_, ?_, joinFirst, joinSecond, passive, State.endCycle_timer _ u, ?_, ?_, rfl, rfl, rfl, rfl, rfl, rfl, rfl, rfl,
    rfl, by simp [State.latchedInputs]⟩
  · refine (State.endCycle_eq cadenceFirst u).trans ?_
    congr 1
    · rw [anchor, isolation]; exact lsc
    · exact State.endCycle_fde cadenceFirst u
  · rwa [anchor]
  · rwa [anchor]
  · rwa [anchor]
  · rwa [isolation]
  · rwa [isolation]
  · rw [isolation]
    by_cases h : u.lsc.isolates u.own
    · refine Eq.trans ?_ (if_pos h).symm
      by_cases new : putAlert u.aou.live .busIsolated true = u.aou.live
      · rw [standing h new, (Aou.cycleEnd_masks _ _ _).1, new]
      · rw [beginning h new, (Aou.endWith_masks cadenceFirst).1]
    · exact (congrArg Aou.live (other h)).trans ((Aou.cycleEnd_masks _ _ _).1.trans (if_neg h).symm)
  · intro same
    by_cases h : u.lsc.isolates u.own
    · by_cases new : putAlert u.aou.live .busIsolated true = u.aou.live
      · exact standing h new
      · rw [beginning h new, (Aou.endWith_masks cadenceFirst).1] at same
        exact absurd same new
    · exact other h
  · intro differs
    have h : u.lsc.isolates u.own := by
      by_contra h
      rw [other h, (Aou.cycleEnd_masks _ _ _).1] at differs
      exact differs rfl
    have new : putAlert u.aou.live .busIsolated true ≠ u.aou.live := by
      intro old
      rw [standing h old, (Aou.cycleEnd_masks _ _ _).1] at differs
      exact differs rfl
    rw [beginning h new, (Aou.endWith_masks cadenceFirst).1, (Aou.endWith_masks cadenceFirst).2]
    generalize putAlert u.aou.live .busIsolated true = live
    have qualifies := Aou.qualifies_iff u.enables p.selects (u.aou.withMasks live (u.aou.latched ||| live))
    refine ⟨rfl, fun idle q => ?_, fun idle q => ?_, fun busy q => ?_, fun busy q => ?_⟩
    · exact Aou.endWith_stays_idle cadenceFirst idle (Bool.eq_false_iff.2 fun h => q (qualifies.1 h))
    · rw [Aou.endWith_idle cadenceFirst idle, Aou.setLive_begins live idle (qualifies.2 q)]
      cases cadenceFirst <;> rfl
    · exact Aou.endWith_goes_on cadenceFirst busy (qualifies.2 q)
    · exact Aou.endWith_ends cadenceFirst busy (Bool.eq_false_iff.2 fun h => q (qualifies.1 h))
  · have h := State.alertLow_iff (u.endCycle cadenceFirst)
    simpa using h
  · rwa [State.endCycle_vdr]
  · rwa [State.endCycle_vdr]

end Sys2Proof.Machine
end

section
/-! PROOFS. Configuration load completion in every block (R14 to R16, R44, R120, R138, R146, R152, R161, R162,
R167, R169 to R171, R175). -/

namespace Sys2Proof.Machine

/-! ### The fans that are not fitted (R120) -/

theorem Fcc.fitOne_channel (nFit : Nat) (f : Fcc) (i j : Fin 6) : (f.fitOne nFit i).channel j
    = if j = i ∧ nFit ≤ i.val then { (f.channel i).toOff with state := .absent } else f.channel j := by
  unfold Fcc.fitOne
  by_cases h : nFit ≤ i.val <;> by_cases hj : j = i <;> simp [h, hj, Fcc.channel_off]

theorem Fcc.off_permit (i : Fin 6) (f : Fcc) :
    (f.off i).permit = if f.permit = some i then none else f.permit := rfl

theorem Fcc.fitOne_lists (nFit : Nat) (f : Fcc) (i : Fin 6) :
    (f.fitOne nFit i).runOrder = f.runOrder.filter (fun j => decide (j = i → j.val < nFit))
      ∧ (∀ j, (f.fitOne nFit i).permit = some j ↔ f.permit = some j ∧ (j = i → j.val < nFit))
      ∧ (f.fitOne nFit i).bits = f.bits ∧ (f.fitOne nFit i).intervals = f.intervals
      ∧ (f.fitOne nFit i).tachDue = f.tachDue := by
  unfold Fcc.fitOne
  split
  · next h =>
    refine ⟨?_, fun j => ?_, rfl, rfl, rfl⟩
    · refine List.filter_congr fun j _ => ?_
      rw [Bool.eq_iff_iff]
      simp only [bne_iff_ne, decide_eq_true_eq]
      exact ⟨fun hj e => absurd e hj, fun hj e => by subst e; exact absurd (hj rfl) (Nat.not_lt.2 h)⟩
    · rw [Fcc.modify_permit, Fcc.off_permit]
      by_cases held : f.permit = some i
      · rw [if_pos held]
        refine ⟨fun hn => by simp at hn, fun ⟨hp, hj⟩ => ?_⟩
        obtain rfl : i = j := Option.some.inj (held.symm.trans hp)
        exact absurd (hj rfl) (Nat.not_lt.2 h)
      · rw [if_neg held]
        exact ⟨fun hp => ⟨hp, fun e => absurd (e ▸ hp) held⟩, fun hp => hp.1⟩
  · next h =>
    refine ⟨?_, fun j => ⟨fun hp => ⟨hp, fun e => by subst e; exact Nat.not_le.1 h⟩, fun hp => hp.1⟩, rfl, rfl, rfl⟩
    refine (List.filter_eq_self.2 fun j _ => ?_).symm
    simp only [decide_eq_true_eq]
    rintro rfl
    exact Nat.not_le.1 h

theorem Fcc.foldl_fitOne_channel (nFit : Nat) (l : List (Fin 6)) (f : Fcc) (j : Fin 6) :
    (l.foldl (Fcc.fitOne nFit) f).channel j
      = if j ∈ l ∧ nFit ≤ j.val then { (f.channel j).toOff with state := .absent } else f.channel j := by
  induction l generalizing f with
  | nil => simp
  | cons i l ih =>
    rw [List.foldl_cons, ih, Fcc.fitOne_channel]
    by_cases hj : j = i
    · subst hj
      by_cases h : nFit ≤ j.val <;> simp [h, FanChannel.toOff]
    · simp [hj]

theorem Fcc.foldl_fitOne_lists (nFit : Nat) (l : List (Fin 6)) (f : Fcc) :
    (l.foldl (Fcc.fitOne nFit) f).runOrder = f.runOrder.filter (fun j => decide (j ∈ l → j.val < nFit))
      ∧ (∀ j, (l.foldl (Fcc.fitOne nFit) f).permit = some j ↔ f.permit = some j ∧ (j ∈ l → j.val < nFit))
      ∧ (l.foldl (Fcc.fitOne nFit) f).bits = f.bits ∧ (l.foldl (Fcc.fitOne nFit) f).intervals = f.intervals
      ∧ (l.foldl (Fcc.fitOne nFit) f).tachDue = f.tachDue := by
  induction l generalizing f with
  | nil => simp
  | cons i l ih =>
    obtain ⟨order, permit, bits, intervals, due⟩ := ih (f.fitOne nFit i)
    obtain ⟨order1, permit1, bits1, intervals1, due1⟩ := Fcc.fitOne_lists nFit f i
    refine ⟨?_, fun j => ?_, bits.trans bits1, intervals.trans intervals1, due.trans due1⟩
    · rw [List.foldl_cons, order, order1, List.filter_filter]
      refine List.filter_congr fun j _ => ?_
      rw [Bool.eq_iff_iff]
      simp only [Bool.and_eq_true, decide_eq_true_eq, List.mem_cons]
      tauto
    · rw [List.foldl_cons, permit, permit1, List.mem_cons]
      tauto

/-- What a channel that is not fitted loses, and nothing else changes (R120). -/
theorem Fcc.fit_spec (nFit : Nat) (f : Fcc) :
    (f.fit nFit).runOrder = f.runOrder.filter (fun j => decide (j.val < nFit))
      ∧ (∀ j, (f.fit nFit).permit = some j ↔ f.permit = some j ∧ j.val < nFit)
      ∧ ((f.fit nFit).bits = f.bits ∧ (f.fit nFit).intervals = f.intervals ∧ (f.fit nFit).tachDue = f.tachDue)
      ∧ (∀ j, nFit ≤ j.val → ((f.fit nFit).channel j).state = .absent ∧ ((f.fit nFit).channel j).command = 0)
      ∧ ∀ j, j.val < nFit → (f.fit nFit).channel j = f.channel j := by
  obtain ⟨order, permit, rest⟩ := Fcc.foldl_fitOne_lists nFit fanChannels f
  have channel := Fcc.foldl_fitOne_channel nFit fanChannels f
  simp only [mem_fanChannels, true_and, true_imp_iff] at order permit channel
  refine ⟨order, permit, rest, fun j hj => ?_, fun j hj => ?_⟩
  · rw [show (f.fit nFit).channel j = _ from channel j, if_pos hj]
    exact ⟨rfl, rfl⟩
  · exact (channel j).trans (if_neg (Nat.not_le.2 hj))

/-! ### The alerts at the load (R167, R170, R171) -/

/-- The cadence has begun nothing but a report whose count is 0. -/
def Aou.Fresh (a : Aou) : Prop :=
  a.count = 0 ∧ (a.cadence = .idle ∧ a.line = false ∨ a.cadence = .report ∧ a.line = true)

theorem Aou.Fresh.reeval {a : Aou} (h : a.Fresh) (enables selects : AlertMask) :
    (a.reeval enables selects).Fresh
      ∧ (a.qualifies enables selects = true →
        (a.reeval enables selects).cadence = .report ∧ (a.reeval enables selects).line = true)
      ∧ (a.qualifies enables selects = false →
        (a.reeval enables selects).cadence = .idle ∧ (a.reeval enables selects).line = false) := by
  obtain ⟨count, ⟨idle, line⟩ | ⟨report, line⟩⟩ := h
  · cases q : a.qualifies enables selects <;> simp [Aou.reeval, Aou.Fresh, q, idle, count, line]
  · cases q : a.qualifies enables selects <;> simp [Aou.reeval, Aou.Fresh, q, report, count, line]

theorem Aou.Fresh.take {a : Aou} (h : a.Fresh) (enables selects live : AlertMask) :
    (a.take enables selects live).Fresh := by
  unfold Aou.take
  split
  · exact h
  · have set : Aou.Fresh { a with live := live, latched := a.latched ||| live } := h
    exact (set.reeval enables selects).1

theorem Aou.take_live (enables selects live : AlertMask) (a : Aou) : (a.take enables selects live).live = live := by
  unfold Aou.take
  split
  · next h => exact h.symm
  · exact (Aou.setLive_masks enables selects live a).1

theorem eq_of_hasAlert {a b : AlertMask} (h : ∀ c, hasAlert a c = hasAlert b c) : a = b :=
  BitVec.eq_of_getLsbD_eq fun n hn => by
    obtain ⟨c, rfl⟩ := Category.exists_bit hn
    exact h c

theorem hasAlert_or (a b : AlertMask) (c : Category) : hasAlert (a ||| b) c = (hasAlert a c || hasAlert b c) :=
  BitVec.getLsbD_or

/-- Every flag of a live condition is set (R167). -/
def Aou.Latches (a : Aou) : Prop := ∀ c, hasAlert a.live c = true → hasAlert a.latched c = true

theorem LatchesLive.latches {s : State} (h : LatchesLive s) : s.aou.Latches := fun c hc => by
  have bit : hasAlert (s.aou.live &&& ~~~s.aou.latched) c = false := by
    rw [show s.aou.live &&& ~~~s.aou.latched = 0 from h]
    simp [hasAlert]
  simpa [hasAlert, hc, c.bit_lt, show s.aou.live.getLsbD c.bit = true from hc] using bit

/-- The flags that the conditions have set stay set, and those of the conditions reported join them (R167). -/
theorem Aou.Latches.take {a : Aou} (h : a.Latches) (enables selects live : AlertMask) :
    (a.take enables selects live).latched = a.latched ||| live
      ∧ (a.take enables selects live).Latches := by
  have latched : (a.take enables selects live).latched = a.latched ||| live := by
    unfold Aou.take
    split
    · next same =>
      refine eq_of_hasAlert fun c => ?_
      rw [hasAlert_or, same]
      cases hc : hasAlert a.live c
      · simp
      · simp [h c hc]
    · exact (Aou.setLive_masks enables selects live a).2
  refine ⟨latched, fun c hc => ?_⟩
  rw [Aou.take_live] at hc
  rw [latched, hasAlert_or, hc, Bool.or_true]

theorem State.reportLive_aou (live : AlertMask) (s : State) :
    (s.reportLive live).aou = s.aou.take s.enables s.params.selects live := rfl

theorem State.reevalAlerts_aou (s : State) :
    s.reevalAlerts.aou = s.aou.reeval s.enables s.params.selects := rfl

/-- What the fitting of the fans does not touch. -/
theorem Fcc.eq_of_rest {f g : Fcc} (bits : f.bits = g.bits) (intervals : f.intervals = g.intervals)
    (due : f.tachDue = g.tachDue) :
    f = { g with channels := f.channels, runOrder := f.runOrder, permit := f.permit } := by
  rw [← bits, ← intervals, ← due]

/-- A start of the travel check, with the FCC's report (R141, R146). -/
theorem Vdr.startCheck_eq (b : Bool) (v : Vdr) : { v.startCheck with fansAtRest := b }
    = { v with check := v.startCheck.check, travelCount := v.startCheck.travelCount, fansAtRest := b } := by
  unfold Vdr.startCheck
  split <;> rfl

/-- The Alert Output at load completion: FAN_ICE, CONFIG_DEFAULT, and qualifying evaluated (R138, R170, R175). -/
theorem State.completeLoad_aou (s : State) : s.completeLoad.aou
    = ((s.aou.take s.cfl.params.enables s.cfl.params.selects
          (putAlert s.aou.live .fanIce (s.fcc.fit s.cfl.params.nFit).anyIced)).take
        s.cfl.params.enables s.cfl.params.selects
        (putAlert (putAlert s.aou.live .fanIce (s.fcc.fit s.cfl.params.nFit).anyIced) .configDefault
          s.cfl.defaults)).reeval s.cfl.params.enables s.cfl.params.selects := by
  have iced : s.handOut.fitFans.reportIce.aou = s.aou.take s.cfl.params.enables s.cfl.params.selects
      (putAlert s.aou.live .fanIce (s.fcc.fit s.cfl.params.nFit).anyIced) := rfl
  have timed : s.handOut.fitFans.reportIce.reloadTimers.aou = s.handOut.fitFans.reportIce.aou := by simp
  have params : s.handOut.fitFans.reportIce.reloadTimers.params = s.cfl.params := by simp [State.handOut]
  have enables : s.handOut.fitFans.reportIce.reloadTimers.enables = s.cfl.params.enables := by
    simp [State.enables, State.handOut]
  have reported : (s.handOut.fitFans.reportIce.reloadTimers.report .configDefault s.cfl.defaults).aou
      = (s.handOut.fitFans.reportIce.aou).take s.cfl.params.enables s.cfl.params.selects
          (putAlert (s.handOut.fitFans.reportIce.aou).live .configDefault s.cfl.defaults) := by
    rw [State.report, State.reportLive_aou, timed, params, enables]
  have after : (s.handOut.fitFans.reportIce.reloadTimers.report .configDefault s.cfl.defaults).enables
      = s.cfl.params.enables := by simp [State.enables, State.handOut]
  have selects : (s.handOut.fitFans.reportIce.reloadTimers.report .configDefault s.cfl.defaults).params.selects
      = s.cfl.params.selects := by simp [State.handOut]
  unfold State.completeLoad
  rw [State.reevalAlerts_aou, after, selects, reported, iced, Aou.take_live]

/-- What load completion hands out, block by block (R14 to R16, R44, R120, R146, R161, R175). -/
theorem State.completeLoad_blocks (s : State) :
    s.completeLoad.loaded = true ∧ s.completeLoad.params = s.cfl.params
      ∧ s.completeLoad.lsc = s.lsc.start s.own ∧ s.completeLoad.fcc = s.fcc.fit s.cfl.params.nFit
      ∧ s.completeLoad.vdr = { s.vdr.startCheck with fansAtRest := !(s.fcc.fit s.cfl.params.nFit).anyTurning }
      ∧ s.completeLoad.ord = s.ord.load s.cfl.params ∧ s.completeLoad.ssc = { s.ssc with nextChannel := 0 } := by
  simp [State.completeLoad, State.handOut, State.fitFans, State.setFcc, State.reportFans]

theorem State.completeLoad_eq (s : State) : s.completeLoad = { s with
    loaded := true
    params := s.completeLoad.params
    lsc := s.completeLoad.lsc
    fcc := s.completeLoad.fcc
    vdr := s.completeLoad.vdr
    itb := s.completeLoad.itb
    ord := s.completeLoad.ord
    aou := s.completeLoad.aou
    ssc := { s.ssc with nextChannel := 0 } } := by
  have frame := State.completeLoad_frame s
  obtain ⟨loaded, -, -, -, -, -, ssc⟩ := State.completeLoad_blocks s
  generalize s.completeLoad = t at frame loaded ssc
  cases t
  simp_all

/-- A running timer is loaded with the image's values, and no other changes (R152). -/
theorem State.completeLoad_timer (s : State) (id : TimerId) : s.completeLoad.timer id
    = if (s.timer id).running = true then (s.timer id).load (s.completeLoad.timerParams id) else s.timer id := by
  have bank : s.completeLoad.timer id = s.handOut.fitFans.reportIce.reloadTimers.timer id :=
    State.timer_congr (by simp [State.completeLoad]) id
  have before : s.handOut.fitFans.reportIce.timer id = s.timer id := State.timer_congr (by simp) id
  have params : s.completeLoad.timerParams id = s.handOut.fitFans.reportIce.timerParams id :=
    State.timerParams_congr (by simp [State.completeLoad]) id
  rw [bank, State.timer_reloadTimers, before, params]

theorem lowerFloor_eq_min (setpoint floor : Int) : lowerFloor setpoint floor = min floor (setpoint - 20) := by
  unfold lowerFloor
  split <;> omega

theorem State.completeLoad_live (s : State) : s.completeLoad.aou.live
    = putAlert (putAlert s.aou.live .fanIce s.completeLoad.fcc.anyIced) .configDefault s.cfl.defaults := by
  obtain ⟨-, -, -, fcc, -⟩ := State.completeLoad_blocks s
  rw [State.completeLoad_aou, (Aou.reeval_live _ _ _).1, Aou.take_live, fcc]

/-- A flag is latched at the load where its condition was live or is (R167). -/
theorem State.completeLoad_latched {s : State} (h : LatchesLive s) :
    s.completeLoad.aou.latched = s.aou.latched ||| s.completeLoad.aou.live := by
  obtain ⟨ice, latches⟩ := h.latches.take s.cfl.params.enables s.cfl.params.selects
    (putAlert s.aou.live .fanIce (s.fcc.fit s.cfl.params.nFit).anyIced)
  obtain ⟨all, -⟩ := latches.take s.cfl.params.enables s.cfl.params.selects
    (putAlert (putAlert s.aou.live .fanIce (s.fcc.fit s.cfl.params.nFit).anyIced) .configDefault s.cfl.defaults)
  rw [State.completeLoad_aou, (Aou.reeval_live _ _ _).1, (Aou.reeval_live _ _ _).2, Aou.take_live, all, ice]
  refine eq_of_hasAlert fun c => ?_
  simp only [hasAlert_or, hasAlert_putAlert]
  by_cases config : c = .configDefault
  · subst config
    cases live : hasAlert s.aou.live .configDefault
    · simp
    · simp [h.latches _ live]
  · simp [config]

/-- The line qualifies at the load, and then begins REPORT, or does not (R170). -/
theorem State.completeLoad_cadence {s : State} (h : s.aou.Fresh) : s.completeLoad.aou.Fresh
    ∧ (s.completeLoad.aou.qualifies s.cfl.params.enables s.cfl.params.selects = true →
      s.completeLoad.aou.cadence = .report ∧ s.completeLoad.aou.line = true)
    ∧ (s.completeLoad.aou.qualifies s.cfl.params.enables s.cfl.params.selects = false →
      s.completeLoad.aou.cadence = .idle ∧ s.completeLoad.aou.line = false) := by
  rw [State.completeLoad_aou]
  generalize putAlert s.aou.live .fanIce _ = first
  generalize putAlert first .configDefault _ = second
  have taken := (h.take s.cfl.params.enables s.cfl.params.selects first).take s.cfl.params.enables
    s.cfl.params.selects second
  have reevaluated := taken.reeval s.cfl.params.enables s.cfl.params.selects
  obtain ⟨live, latched⟩ := Aou.reeval_live s.cfl.params.enables s.cfl.params.selects
    ((s.aou.take s.cfl.params.enables s.cfl.params.selects first).take s.cfl.params.enables s.cfl.params.selects second)
  rwa [Aou.qualifies_congr live latched]

/-- Settles O8: the load hands out to each block, and the alerts, the fans and the timers follow by their own
rules. -/
theorem loadCompletionStartsTheBlocks : Obligations.LoadCompletionStartsTheBlocks := by
  intro ok bytes s released unloaded done
  have loaded : exec (.configurationLoadCompletion ok bytes) s
      = .next (State.completeLoad { s with cfl := (s.cfl.complete ok bytes).judge }) := by
    simp only [exec, execConfigurationLoadCompletion, released, unloaded, done]
    rfl
  refine ⟨_, loaded, ?_⟩
  generalize s.cfl.complete ok bytes = c at done ⊢
  generalize hv : ({ s with cfl := c.judge } : State) = v
  obtain ⟨on, params, lsc, fcc, vdr, ord, -⟩ := State.completeLoad_blocks v
  obtain ⟨order, permit, ⟨bits, intervals, due⟩, absent, fitted⟩ := Fcc.fit_spec v.cfl.params.nFit v.fcc
  have live := State.completeLoad_live v
  have eq := State.completeLoad_eq v
  have cfl : v.completeLoad.cfl = v.cfl := (State.completeLoad_frame v).2.2.1
  have cadence := State.completeLoad_cadence (s := v)
  rw [← fcc] at order permit bits intervals due absent fitted vdr
  rw [← params] at order permit absent fitted ord cadence
  have bank : ∀ id, v.timer id = s.timer id := State.timer_congr (by rw [← hv])
  have check : (v.vdr.check = .suspended → v.vdr.startCheck = v.vdr)
      ∧ (v.vdr.check ≠ .suspended → v.vdr.startCheck = { v.vdr with check := .timing, travelCount := 0 }) :=
    ⟨fun h => if_pos h, fun h => if_neg h⟩
  refine ⟨?_, ?_, ?_, ?_, ?_, ?_, ?_, ?_, ?_, ?_, ?_, ?_, ?_, ?_, absent, ?_, ?_, ?_, ?_, ?_, ?_⟩
  · rw [cfl]
    subst hv
    exact eq
  · rw [cfl]
    subst hv
    simp [Cfl.judge]
  · rw [live, cfl]; simp
  · rw [live, ← Fcc.anyIced_iff]; simp
  · intro d hd hi
    subst hv
    rw [live]; simp [hd, hi]
  · subst hv
    exact fun latches => State.completeLoad_latched (s := { s with cfl := c.judge }) latches
  · intro qualifies idle count line
    have fresh : v.aou.Fresh := by subst hv; exact ⟨count, .inl ⟨idle, line⟩⟩
    obtain ⟨⟨count', -⟩, begins, rests⟩ := cadence fresh
    exact ⟨count', fun q => begins ((Aou.qualifies_iff _ _ _).2 q),
      fun q => rests (Bool.eq_false_iff.2 fun h => q ((Aou.qualifies_iff _ _ _).1 h))⟩
  · rw [State.alertLow_iff, on]; simp
  · subst hv
    exact (Fcc.eq_of_rest bits intervals due).trans (by rw [order])
  · subst hv; exact permit
  · subst hv
    rw [vdr]
    exact Vdr.startCheck_eq _ s.vdr
  · intro suspended
    subst hv
    rw [vdr]
    dsimp only
    rw [check.1 suspended]
    exact ⟨suspended, rfl⟩
  · intro bad
    subst hv
    rw [lsc]
    simp [Lsc.start, bad]
  · intro listen
    subst hv
    rw [lsc]
    simp [Lsc.start, listen, windowUs, slotUs, State.own]
  · subst hv; exact fitted
  · intro idle
    subst hv
    rw [vdr]
    dsimp only
    rw [check.2 idle]
    exact ⟨rfl, rfl⟩
  · subst hv
    rw [vdr]
    dsimp only
    unfold Vdr.startCheck
    split <;> rfl
  · intro id running
    have timed := State.completeLoad_timer v id
    rw [bank id, if_pos running] at timed
    rw [timed, Timer.load, ← running]
  · intro id still
    have timed := State.completeLoad_timer v id
    rwa [bank id, if_neg (Bool.eq_false_iff.1 still)] at timed
  · subst hv
    rw [ord]
    simp [OrderDecoder.load, lowerFloor_eq_min]

end Sys2Proof.Machine
end

section
/-! PROOFS. Order frames: the layout of R160 in numbers, and what an order taken leaves in the ORD (R35, R160 to
R163). -/

namespace Sys2Proof.Machine

/-! ### T_ORD and PANEL_SILENT under the reports of a role -/

/-- T_ORD and PANEL_SILENT stand. -/
structure KeepsOrd (s t : State) : Prop where
  timer : t.timer .ord = s.timer .ord
  silent : hasAlert t.aou.live .panelSilent = hasAlert s.aou.live .panelSilent

theorem KeepsOrd.refl (s : State) : KeepsOrd s s := ⟨rfl, rfl⟩

theorem KeepsOrd.trans {s t u : State} (h : KeepsOrd s t) (h' : KeepsOrd t u) : KeepsOrd s u :=
  ⟨h'.timer.trans h.timer, h'.silent.trans h.silent⟩

theorem KeepsOrd.same {s t : State} (itb : t.itb = s.itb) (aou : t.aou = s.aou) : KeepsOrd s t :=
  ⟨State.timer_congr itb _, by rw [aou]⟩

theorem KeepsOrd.startIf (b : Bool) {id : TimerId} (h : id ≠ .ord) (s : State) : KeepsOrd s (s.startIf b id) := by
  cases b with
  | false => exact .refl s
  | true => exact ⟨(State.timer_startTimer .ord id s).trans (if_neg h.symm), rfl⟩

theorem KeepsOrd.stopTimer {id : TimerId} (h : id ≠ .ord) (s : State) : KeepsOrd s (s.stopTimer id) :=
  ⟨(State.timer_stopTimer .ord id s).trans (if_neg h.symm), rfl⟩

theorem KeepsOrd.stopIf (b : Bool) {id : TimerId} (h : id ≠ .ord) (s : State) : KeepsOrd s (s.stopIf b id) := by
  cases b with
  | false => exact .refl s
  | true => exact .stopTimer h s

theorem KeepsOrd.reportLive {live : AlertMask} {s : State}
    (h : hasAlert live .panelSilent = hasAlert s.aou.live .panelSilent) : KeepsOrd s (s.reportLive live) :=
  ⟨rfl, by rw [State.reportLive_live, h]⟩

theorem KeepsOrd.frostAlerts (s : State) : KeepsOrd s s.frostAlerts := .reportLive (by simp)

theorem KeepsOrd.cfmReport (s : State) : KeepsOrd s s.cfmReport := by
  unfold State.cfmReport
  split
  · split
    · exact .refl s
    · have suspended : KeepsOrd s s.suspendCfm := .same rfl rfl
      have stopped := ((suspended.trans (.stopTimer (id := .guard) (by decide) _)).trans
        (.stopTimer (id := .prot) (by decide) _)).trans (.stopTimer (id := .recov) (by decide) _)
      exact ((stopped.trans (.stopTimer (id := .stag) (by decide) _)).trans (.frostAlerts _)).trans (.same rfl rfl)
  · exact .same rfl rfl

theorem KeepsOrd.changeRole (cause : RoleCause) (new : Role) (drained : Bool) (s : State) :
    KeepsOrd s (s.changeRole cause new drained) := by
  have timed : KeepsOrd s (s.roleTimers s.fde.role new) :=
    ((((KeepsOrd.stopIf _ (by decide) s).trans (.stopIf _ (by decide) _)).trans (.stopIf _ (by decide) _)).trans
      (.startIf _ (by decide) _)).trans (.startIf _ (by decide) _)
  have entered : KeepsOrd s (s.enterRole cause new drained).vdrReport := timed.trans (.same rfl rfl)
  have fans : ∀ u : State, KeepsOrd u u.fccReport := fun u => by
    have told : KeepsOrd u (u.setFcc (u.fcc.roleReport u.fde.role)) := .same (by simp) (by simp)
    unfold State.fccReport
    exact told.trans (.startIf _ (by decide) _)
  exact (entered.trans (fans _)).trans (.cfmReport _)

theorem KeepsOrd.takeLevels (withdraw drained : Bool) (s : State) : KeepsOrd s (s.takeLevels withdraw drained) := by
  unfold State.takeLevels
  split
  · split
    · exact .changeRole _ _ _ s
    · split
      · exact KeepsOrd.trans (t := (s.putDrained drained).vdrReport) (.same rfl rfl) (.cfmReport _)
      · exact .refl s
  · split
    · exact .changeRole _ _ _ s
    · exact .refl s

theorem KeepsOrd.takeEdges (o : Order) (s : State) : KeepsOrd s (s.takeEdges o) := by
  have reset : KeepsOrd s (s.takeFanReset o) := by
    unfold State.takeFanReset
    split
    · have put : KeepsOrd s { s with fcc := s.fcc.fanReset } := .same rfl rfl
      exact put.trans (.reportLive (hasAlert_putAlert _ _ _ _))
    · exact .refl s
  have exercised : ∀ u : State, KeepsOrd u (u.takeExercise o) := fun u =>
    .same (by simp) (by simp)
  have cleared : ∀ u : State, KeepsOrd u (u.takeClear o) := fun u => by
    unfold State.takeClear
    split
    · exact ⟨rfl, congrArg (hasAlert · .panelSilent) (Aou.reeval_live _ _ _).1⟩
    · exact .refl u
  exact (reset.trans (exercised _)).trans (cleared _)

/-! ### The ORD's record (R161 to R163) -/

theorem clampInt_eq (lo hi x : Int) (h : lo ≤ hi) : clampInt lo hi x = max lo (min hi x) := by
  unfold clampInt
  repeat' split
  all_goals omega

/-- The ORD after an order taken: settings by loop, levels, masks (R161 to R164). -/
theorem State.takeOrder_ord (o : Order) (s : State) : (s.takeOrder o).ord = { s.ord.applySettings o with
    withdraw := s.ownBit o.withdraw
    drainedLevel := s.ownBit o.drained
    prevClear := o.clearAlerts
    prevFanReset := o.fanReset
    prevExercise := o.exercise
    taken := true } := by
  have own : ∀ m, (s.noteOrder.takeSettings o).ownBit m = s.ownBit m := fun _ => rfl
  have levels : ∀ u : State, (u.takeWithdraw o).ord
      = { u.ord with withdraw := u.ownBit o.withdraw, drainedLevel := u.ownBit o.drained } := fun u => by
    simp [State.takeWithdraw, State.holdLevels]
  have settled : (s.noteOrder.takeSettings o).ord = { s.ord.applySettings o with taken := true } := rfl
  unfold State.takeOrder State.takeMasks
  dsimp only
  rw [(State.takeEdges_frame o _).2.2.2.2.2.2.2.2.2.2.2.2.1, levels, settled, own, own]

/-- The setpoint and floor of an order, in force where they are valid (R162). -/
theorem OrderDecoder.applySettings_eq (o : Order) (d : OrderDecoder) :
    (o.valid0 = true → (d.applySettings o).setpoint0 = max 50 (min 450 o.setpoint0)
        ∧ (d.applySettings o).floor0 = min (max (-100) (min 400 o.floor0)) ((d.applySettings o).setpoint0 - 20))
      ∧ (o.valid0 = false → (d.applySettings o).setpoint0 = d.setpoint0 ∧ (d.applySettings o).floor0 = d.floor0)
      ∧ (o.valid1 = true → (d.applySettings o).setpoint1 = max 50 (min 450 o.setpoint1)
        ∧ (d.applySettings o).floor1 = min (max (-100) (min 400 o.floor1)) ((d.applySettings o).setpoint1 - 20))
      ∧ (o.valid1 = false → (d.applySettings o).setpoint1 = d.setpoint1 ∧ (d.applySettings o).floor1 = d.floor1) := by
  have sp := fun x => clampInt_eq 50 450 x (by omega)
  have fl := fun x => clampInt_eq (-100) 400 x (by omega)
  refine ⟨fun h => ?_, fun h => ?_, fun h => ?_, fun h => ?_⟩ <;>
    simp [OrderDecoder.applySettings, h, clampSettings, lowerFloor_eq_min, sp, fl]

/-- T_ORD runs anew and PANEL_SILENT is clear after an order taken (R161). -/
theorem State.takeOrder_keeps (o : Order) (s : State) :
    (s.takeOrder o).timer .ord = (s.timer .ord).load (s.timerParams .ord)
      ∧ hasAlert (s.takeOrder o).aou.live .panelSilent = false := by
  have noted : s.noteOrder.timer .ord = (s.timer .ord).load (s.timerParams .ord)
      ∧ hasAlert s.noteOrder.aou.live .panelSilent = false := by
    constructor
    · have started : s.noteOrder.timer .ord = (s.startTimer .ord).timer .ord := rfl
      rw [started, State.timer_startTimer, if_pos rfl]
      exact Timer.start_eq_load (.inr rfl) _
    · have live : s.noteOrder.aou.live = putAlert s.aou.live .panelSilent false := State.reportLive_live _ _
      rw [live, hasAlert_putAlert, if_pos rfl]
  have settings : KeepsOrd s.noteOrder ((s.noteOrder.takeSettings o).holdLevels o) := .same rfl rfl
  have kept : KeepsOrd s.noteOrder (s.takeOrder o) :=
    ((settings.trans (.takeLevels _ _ _)).trans (.takeEdges o _)).trans (.same rfl rfl)
  exact ⟨kept.timer.trans noted.1, kept.silent.trans noted.2⟩

/-- What an order taken leaves alone. -/
theorem State.takeOrder_eq (o : Order) (s : State) : s.takeOrder o = { s with
    ord := (s.takeOrder o).ord
    fde := (s.takeOrder o).fde
    cfm := (s.takeOrder o).cfm
    fcc := (s.takeOrder o).fcc
    vdr := (s.takeOrder o).vdr
    itb := (s.takeOrder o).itb
    aou := (s.takeOrder o).aou } := by
  have frame := State.takeOrder_frame o s
  generalize s.takeOrder o = t at frame
  cases t
  simp_all

/-! ### The layout of R160 in numbers -/

/-- The number that two joined words spell. -/
theorem toNat_append_eq {m n : Nat} (x : BitVec m) (y : BitVec n) :
    (x ++ y).toNat = x.toNat * 2 ^ n + y.toNat := by
  rw [BitVec.toNat_append, ← Nat.shiftLeft_add_eq_or_of_lt y.isLt, Nat.shiftLeft_eq]

theorem word16_toNat (hi lo : Byte) : (word16 hi lo).toNat = 256 * hi.toNat + lo.toNat := by
  rw [word16, toNat_append_eq]
  omega

theorem wordAt_toNat (cs : List Byte) (i : Nat) :
    (wordAt cs i).toNat = 256 * (cs.getD i 0).toNat + (cs.getD (i + 1) 0).toNat :=
  word16_toNat _ _

theorem word24_toNat (a b c : Byte) :
    (word24 a b c).toNat = 65536 * a.toNat + 256 * b.toNat + c.toNat := by
  rw [word24, toNat_append_eq, toNat_append_eq]
  omega

/-- A two's complement number by its magnitude as a count. -/
theorem toInt_eq_ite {n : Nat} (w : BitVec (n + 1)) :
    w.toInt = if w.toNat < 2 ^ n then (w.toNat : Int) else (w.toNat : Int) - 2 * 2 ^ n := by
  rw [BitVec.toInt_eq_toNat_cond]
  have := w.isLt
  rw [Nat.pow_succ] at *
  split <;> split <;> push_cast <;> omega

theorem orderOf_readFrom (cs : List Byte) : (orderOf cs).ReadFrom cs := by
  have top : ∀ w : BitVec 16, w.getLsbD 15 = decide (32768 ≤ w.toNat) := fun w => by
    have := w.isLt
    rw [BitVec.getLsbD, Nat.testBit_eq_decide_div_mod_eq]
    congr 1
    exact propext ⟨fun h => by omega, fun h => by omega⟩
  have low : ∀ w : BitVec 16, (w.extractLsb' 0 15).toNat = w.toNat % 32768 := fun w => by
    rw [BitVec.extractLsb'_toNat, Nat.shiftRight_zero]
  refine ⟨?_, ?_, ?_, ?_, ?_, ?_, word24_toNat _ _ _, word24_toNat _ _ _, word24_toNat _ _ _, word24_toNat _ _ _,
    word24_toNat _ _ _⟩
  · exact (top _).trans (by rw [wordAt_toNat])
  · exact (toInt_eq_ite (n := 14) _).trans (by rw [low, wordAt_toNat]; rfl)
  · exact (toInt_eq_ite (n := 15) _).trans (by rw [wordAt_toNat]; rfl)
  · exact (top _).trans (by rw [wordAt_toNat])
  · exact (toInt_eq_ite (n := 14) _).trans (by rw [low, wordAt_toNat]; rfl)
  · exact (toInt_eq_ite (n := 15) _).trans (by rw [wordAt_toNat]; rfl)

/-- Settles O15: the order is stored, taken outside UNADDRESSED, and its edges and levels leave T_ORD, PANEL_SILENT
and the settings as step 1 and step 2 made them. -/
theorem orderFrameIsStoredAndTaken : Obligations.OrderFrameIsStoredAndTaken := by
  refine ⟨orderOf_readFrom, fun e chars r p cs s => ?_⟩
  intro u base o rx start low high judged
  have accepted : exec (.frameCompletion e chars) s = .next (u.endFrame.acceptOrder cs) := by
    have inside : inWindow 0 p = true := (inWindow_iff 0 p).2 ⟨by omega, by omega⟩
    rw [exec_frameCompletion rx]
    simp only [State.completeFrame, judged, State.validFrame, State.windowed, start, inside, if_true]
    rfl
  refine ⟨fun bad => ?_, fun bus => ?_⟩
  · rw [accepted]
    exact congrArg _ (if_neg (by simp [State.endFrame, bad, BusState.takesOrders, BusState.raisesCycleEnd]))
  · have takes : u.endFrame.lsc.bus.takesOrders = true := by
      have kept : u.endFrame.lsc.bus = u.lsc.bus := rfl
      rw [kept]
      cases hb : u.lsc.bus <;> simp_all [BusState.takesOrders, BusState.raisesCycleEnd]
    have taken : u.endFrame.acceptOrder cs = (u.endFrame.storeOrder cs).takeOrder o := if_pos takes
    rw [accepted, taken]
    generalize hv : u.endFrame.storeOrder cs = v
    obtain ⟨timer, silent⟩ := State.takeOrder_keeps o v
    obtain ⟨valid0, invalid0, valid1, invalid1⟩ := OrderDecoder.applySettings_eq o v.ord
    have ord := State.takeOrder_ord o v
    refine ⟨_, rfl, ?_, ?_, silent, ?_, ?_, ?_, ?_, ?_, ?_, ?_, ?_, ?_, ?_⟩
    · rw [State.takeOrder_eq]
      subst hv
      rfl
    · rw [timer]
      subst hv
      rfl
    · rw [ord]
    · rw [ord]; subst hv; exact valid0
    · rw [ord]; subst hv; exact invalid0
    · rw [ord]; subst hv; exact valid1
    · rw [ord]; subst hv; exact invalid1
    · rw [ord]; subst hv; rfl
    · rw [ord]; subst hv; rfl
    · rw [ord]
    · rw [ord]
    · rw [ord]

end Sys2Proof.Machine
end

section
/-! PROOFS. Rejected frames: the tests of R4 with the register of R3, and the counters (R2 to R5, R13, R34). -/

namespace Sys2Proof.Machine

/-! ### The CRC (R3) -/

/-- One bit of the register as R3 words it. -/
def crcStep (r bit : Nat) : Nat :=
  if (r / 32768 + bit) % 2 = 1 then (2 * r % 65536) ^^^ 0x1021 else 2 * r % 65536

theorem crcBit_toNat (r : Word16) (bit : Bool) : (crcBit r bit).toNat = crcStep r.toNat bit.toNat := by
  have small := r.isLt
  have top : r.msb = decide (r.toNat / 32768 = 1) := by
    rw [BitVec.msb_eq_decide]
    congr 1
    exact propext ⟨fun h => by omega, fun h => by omega⟩
  have shifted : (r <<< 1).toNat = 2 * r.toNat % 65536 := by
    rw [BitVec.toNat_shiftLeft, Nat.shiftLeft_eq]
    omega
  have test : (r.msb ^^ bit) = true ↔ (r.toNat / 32768 + bit.toNat) % 2 = 1 := by
    rw [top]
    cases bit <;> simp <;> omega
  unfold crcBit crcStep
  by_cases h : (r.toNat / 32768 + bit.toNat) % 2 = 1
  · rw [if_pos h, if_pos (test.2 h), BitVec.toNat_xor, shifted]
    rfl
  · rw [if_neg h, if_neg fun ht => h (test.1 ht), shifted]

theorem getLsbD_toNat_eq (b : Byte) (i : Nat) : (b.getLsbD i).toNat = b.toNat / 2 ^ i % 2 := by
  rw [BitVec.getLsbD, Nat.testBit_eq_decide_div_mod_eq]
  have := Nat.mod_two_eq_zero_or_one (b.toNat / 2 ^ i)
  rcases this with h | h <;> simp [h]

theorem crcByte_toNat (r : Word16) (b : Byte) : (crcByte r b).toNat
    = ((List.range 8).map fun i => b.toNat / 2 ^ (7 - i) % 2).foldl crcStep r.toNat := by
  have bits : ∀ (l : List Nat) (r : Word16), (l.foldl (fun r i => crcBit r (b.getLsbD i)) r).toNat
      = (l.map fun i => b.toNat / 2 ^ i % 2).foldl crcStep r.toNat := by
    intro l
    induction l with
    | nil => exact fun _ => rfl
    | cons i l ih =>
      intro r
      rw [List.foldl_cons, ih, List.map_cons, List.foldl_cons, crcBit_toNat, getLsbD_toNat_eq]
  exact bits [7, 6, 5, 4, 3, 2, 1, 0] r

theorem crc_toNat (cs : List Byte) : (crc cs).toNat = crcRegister cs := by
  have bytes : ∀ (cs : List Byte) (r : Word16), (cs.foldl crcByte r).toNat
      = (cs.flatMap fun c => (List.range 8).map fun i => c.toNat / 2 ^ (7 - i) % 2).foldl crcStep r.toNat := by
    intro cs
    induction cs with
    | nil => exact fun _ => rfl
    | cons c cs ih =>
      intro r
      rw [List.foldl_cons, ih, crcByte_toNat, List.flatMap_cons, List.foldl_append]
  exact bytes cs 0xFFFF

/-! ### The tests of R4 -/

/-- The tests that both kinds of frame share: no framing error, the sync character, the CRC (R4). -/
def wholeFrame (chars : List RxChar) : Bool :=
  !(chars.any RxChar.framingError || byteAt (chars.map RxChar.byte) 0 != 0xB4 || !crcMatches (chars.map RxChar.byte))

theorem wholeFrame_iff (chars : List RxChar) : wholeFrame chars = true ↔ (∀ x ∈ chars, x.framingError = false)
    ∧ byteAt (chars.map RxChar.byte) 0 = 0xB4 ∧ crcMatches (chars.map RxChar.byte) = true := by
  simp [wholeFrame, and_assoc]

theorem byteAt_eq_iff (cs : List Byte) (i : Nat) (b : Byte) : byteAt cs i = b ↔ (cs.getD i 0).toNat = b.toNat :=
  BitVec.toNat_inj.symm

/-- The CRC test at a frame's length (R3). -/
theorem crcMatches_iff {cs : List Byte} {n : Nat} (length : cs.length = n + 3) : crcMatches cs = true
    ↔ 256 * (cs.getD (n + 1) 0).toNat + (cs.getD (n + 2) 0).toNat = crcRegister ((cs.drop 1).take n) := by
  unfold crcMatches
  rw [beq_iff_eq, ← BitVec.toNat_inj, wordAt_toNat, crc_toNat, length, List.drop_take]
  exact Iff.rfl

theorem frameOfKind_iff (kind : Byte) (n : Nat) (chars : List RxChar) : FrameOfKind kind (n + 3) chars
    ↔ wholeFrame chars = true ∧ byteAt (chars.map RxChar.byte) 1 = kind ∧ (chars.map RxChar.byte).length = n + 3 := by
  unfold FrameOfKind
  rw [wholeFrame_iff, byteAt_eq_iff, byteAt_eq_iff, List.length_map]
  constructor
  · rintro ⟨framing, sync, code, length, sum⟩
    exact ⟨⟨framing, sync, (crcMatches_iff (by rw [List.length_map, length])).2 sum⟩, code, length⟩
  · rintro ⟨⟨framing, sync, sum⟩, code, length⟩
    exact ⟨framing, sync, code, length, (crcMatches_iff (by rw [List.length_map, length])).1 sum⟩

theorem validBulletin_iff (chars : List RxChar) : ValidBulletin chars ↔ wholeFrame chars = true
    ∧ byteAt (chars.map RxChar.byte) 1 = 0x31 ∧ (chars.map RxChar.byte).length = 21
    ∧ byteAt (chars.map RxChar.byte) 3 = byteAt (chars.map RxChar.byte) 2
    ∧ 1 ≤ (byteAt (chars.map RxChar.byte) 3).toNat ∧ (byteAt (chars.map RxChar.byte) 3).toNat ≤ 24 := by
  unfold ValidBulletin
  rw [show (21 : Nat) = 18 + 3 from rfl, frameOfKind_iff, and_assoc, and_assoc, ← BitVec.toNat_inj (x := byteAt _ 3)]
  exact Iff.rfl

theorem validOrder_iff (chars : List RxChar) : ValidOrder chars ↔ wholeFrame chars = true
    ∧ byteAt (chars.map RxChar.byte) 1 = 0x32 ∧ (chars.map RxChar.byte).length = 28
    ∧ byteAt (chars.map RxChar.byte) 2 = 0 := by
  unfold ValidOrder
  rw [show (28 : Nat) = 25 + 3 from rfl, frameOfKind_iff, and_assoc, and_assoc, ← BitVec.toNat_inj (x := byteAt _ 2)]
  exact Iff.rfl

/-- The judgement case by case (R4). -/
theorem judgeFrame_cases (chars : List RxChar) :
    (ValidBulletin chars → judgeFrame chars
        = some (.bulletin (byteAt (chars.map RxChar.byte) 3).toNat (chars.map RxChar.byte)))
      ∧ (ValidOrder chars → judgeFrame chars = some (.order (chars.map RxChar.byte)))
      ∧ (¬ ValidBulletin chars → ¬ ValidOrder chars → judgeFrame chars = none) := by
  rw [validBulletin_iff, validOrder_iff]
  unfold judgeFrame
  have whole : (chars.any RxChar.framingError || byteAt (chars.map RxChar.byte) 0 != 0xB4
      || !crcMatches (chars.map RxChar.byte)) = !wholeFrame chars := by simp [wholeFrame]
  dsimp only
  rw [whole]
  cases wholeFrame chars with
  | false => simp
  | true =>
    simp only [Bool.not_true, Bool.false_eq_true, if_false]
    refine ⟨fun h => if_pos h.2, fun h => (if_neg fun hb => ?_).trans (if_pos h.2),
      fun hb ho => (if_neg fun h => hb ⟨trivial, h⟩).trans (if_neg fun h => ho ⟨trivial, h⟩)⟩
    have ends : (chars.map RxChar.byte).length = 28 := h.2.2.1
    exact absurd (hb.2.1.symm.trans ends) (by decide)

/-- No frame is valid as both kinds (R4). -/
theorem not_validOrder_of_validBulletin {chars : List RxChar} (h : ValidBulletin chars) : ¬ ValidOrder chars := by
  intro ho
  obtain ⟨-, -, bulletin, -⟩ := (validBulletin_iff chars).1 h
  obtain ⟨-, -, order, -⟩ := (validOrder_iff chars).1 ho
  exact absurd (bulletin.symm.trans order) (by decide)

/-- The judgement of R4 says which frames are valid. -/
theorem judgeFrame_spec (chars : List RxChar) :
    let cs := chars.map RxChar.byte
    (∀ n, judgeFrame chars = some (.bulletin n cs) ↔ ValidBulletin chars ∧ n = (cs.getD 3 0).toNat)
      ∧ (judgeFrame chars = some (.order cs) ↔ ValidOrder chars)
      ∧ (judgeFrame chars = none ↔ ¬ ValidBulletin chars ∧ ¬ ValidOrder chars)
      ∧ (∀ n ds, judgeFrame chars = some (.bulletin n ds) → ds = cs)
      ∧ ∀ ds, judgeFrame chars = some (.order ds) → ds = cs := by
  obtain ⟨bulletin, order, neither⟩ := judgeFrame_cases chars
  dsimp only
  by_cases hb : ValidBulletin chars
  · have ho := not_validOrder_of_validBulletin hb
    simp only [bulletin hb, hb, ho, Option.some.injEq, Envelope.bulletin.injEq, reduceCtorEq]
    exact ⟨fun n => ⟨fun h => ⟨trivial, h.1.symm⟩, fun h => ⟨h.2.symm, trivial⟩⟩, by simp, by simp,
      fun n ds h => h.2.symm, by simp⟩
  · by_cases ho : ValidOrder chars
    · simp only [order ho, hb, ho, Option.some.injEq, Envelope.order.injEq, reduceCtorEq]
      exact ⟨by simp, by simp, by simp, by simp, fun ds h => h.symm⟩
    · simp [neither hb ho, hb, ho]

/-! ### The counters (R34) -/

theorem satInc_eq (max n : Nat) (c : Prop) [Decidable c] :
    (if c then satInc max n else n) = if c ∧ n < max then n + 1 else n := by
  by_cases h : c <;> simp [satInc, h]

/-- Replacing a station row leaves row 0 as it was. -/
theorem Btb.modifyRow_row0 (k : Nat) (g : Row → Row) (b : Btb) : (b.modifyRow k g).order = b.order
    ∧ (b.modifyRow k g).crcErrors0 = b.crcErrors0 ∧ (b.modifyRow k g).misaligned0 = b.misaligned0 := by
  rw [Btb.modifyRow_eq]
  exact ⟨rfl, rfl, rfl⟩

/-- What the function on a station row keeps, every row keeps. -/
theorem Btb.modifyRow_keeps {α : Type} (f : Row → α) {g : Row → Row} (keeps : ∀ r, f (g r) = f r) (n : Nat) {k : Nat}
    (low : 1 ≤ k) (high : k ≤ 24) (b : Btb) : f ((b.modifyRow n g).row k) = f (b.row k) := by
  rw [Btb.row_modifyRow low high]
  split
  · exact keeps _
  · rfl

/-- A counter that the function on a station row counts up. -/
theorem Btb.modifyRow_counts (f : Row → Nat) {g : Row → Row} (counts : ∀ r, f (g r) = satInc 65535 (f r)) (n : Nat)
    {k : Nat} (low : 1 ≤ k) (high : k ≤ 24) (b : Btb) : f ((b.modifyRow n g).row k)
      = if k = n ∧ f (b.row k) < 65535 then f (b.row k) + 1 else f (b.row k) := by
  rw [Btb.row_modifyRow low high, ← satInc_eq]
  split
  · exact counts _
  · rfl

/-- A malformed frame counts in one row's counter of malformed frames (R5, R34). -/
theorem Btb.countCrc_spec (n : Nat) (b : Btb) :
    (b.countCrc n).order = b.order
      ∧ (∀ k, k ≤ 24 → (b.countCrc n).misalignedCount k = b.misalignedCount k)
      ∧ (∀ k, k ≤ 24 → (b.countCrc n).crcCount k
          = if k = n ∧ b.crcCount k < 65535 then b.crcCount k + 1 else b.crcCount k)
      ∧ ∀ k, 1 ≤ k → k ≤ 24 →
          (b.countCrc n).row k = { b.row k with crcErrors := ((b.countCrc n).row k).crcErrors } := by
  rcases Nat.eq_zero_or_pos n with rfl | positive
  · refine ⟨rfl, fun k _ => rfl, fun k _ => ?_, fun k _ _ => rfl⟩
    rw [← satInc_eq]
    rcases Nat.eq_zero_or_pos k with rfl | station
    · rfl
    · exact (if_neg station.ne').trans ((if_neg station.ne').trans (if_neg station.ne')).symm
  · rw [show b.countCrc n = _ from if_neg positive.ne']
    refine ⟨(Btb.modifyRow_row0 _ _ _).1, fun k high => ?_, fun k high => ?_, fun k low high => ?_⟩
    · rcases Nat.eq_zero_or_pos k with rfl | low
      · exact (Btb.modifyRow_row0 _ _ _).2.2
      · simp only [Btb.misalignedCount, if_neg low.ne']
        exact Btb.modifyRow_keeps Row.misaligned (by exact fun _ => rfl) n low high b
    · rcases Nat.eq_zero_or_pos k with rfl | low
      · rw [if_neg (by omega)]
        exact (Btb.modifyRow_row0 _ _ _).2.1
      · simp only [Btb.crcCount, if_neg low.ne']
        exact Btb.modifyRow_counts Row.crcErrors (by exact fun _ => rfl) n low high b
    · rw [Btb.row_modifyRow low high]
      split <;> rfl

/-- A misaligned frame counts in one row's counter of misaligned frames (R13, R34). -/
theorem Btb.countMisaligned_spec (n : Nat) (b : Btb) :
    (b.countMisaligned n).order = b.order
      ∧ (∀ k, k ≤ 24 → (b.countMisaligned n).crcCount k = b.crcCount k)
      ∧ (∀ k, k ≤ 24 → (b.countMisaligned n).misalignedCount k
          = if k = n ∧ b.misalignedCount k < 65535 then b.misalignedCount k + 1 else b.misalignedCount k)
      ∧ ∀ k, 1 ≤ k → k ≤ 24 →
          (b.countMisaligned n).row k = { b.row k with misaligned := ((b.countMisaligned n).row k).misaligned } := by
  rcases Nat.eq_zero_or_pos n with rfl | positive
  · refine ⟨rfl, fun k _ => rfl, fun k _ => ?_, fun k _ _ => rfl⟩
    rw [← satInc_eq]
    rcases Nat.eq_zero_or_pos k with rfl | station
    · rfl
    · exact (if_neg station.ne').trans ((if_neg station.ne').trans (if_neg station.ne')).symm
  · rw [show b.countMisaligned n = _ from if_neg positive.ne']
    refine ⟨(Btb.modifyRow_row0 _ _ _).1, fun k high => ?_, fun k high => ?_, fun k low high => ?_⟩
    · rcases Nat.eq_zero_or_pos k with rfl | low
      · exact (Btb.modifyRow_row0 _ _ _).2.1
      · simp only [Btb.crcCount, if_neg low.ne']
        exact Btb.modifyRow_keeps Row.crcErrors (by exact fun _ => rfl) n low high b
    · rcases Nat.eq_zero_or_pos k with rfl | low
      · rw [if_neg (by omega)]
        exact (Btb.modifyRow_row0 _ _ _).2.2
      · simp only [Btb.misalignedCount, if_neg low.ne']
        exact Btb.modifyRow_counts Row.misaligned (by exact fun _ => rfl) n low high b
    · rw [Btb.row_modifyRow low high]
      split <;> rfl

/-! ### Rejected frames -/

/-- A bulletin of another station that is no anchor frame, outside a listen window, is a candidate for its window
(R13). -/
theorem State.validFrame_windowed {n : Nat} {s : State} (other : n ≠ s.own) (bus : s.lsc.bus ≠ .listen)
    (later : ¬ (n < s.own ∧ n ≤ s.lsc.anchor)) (r : RxFrame) (cs : List Byte) :
    s.endFrame.validFrame r (.bulletin n cs) = s.endFrame.windowed n r.start (State.acceptBulletin n cs) := by
  have passed : s.endFrame.isAnchor n = false := Bool.eq_false_iff.2 fun h => later ((State.isAnchor_iff n _).1 h)
  simp only [State.validFrame, State.endFrame_own, if_neg other, passed]
  exact if_neg bus

/-- A candidate outside its window is counted and nothing else (R13). -/
theorem State.windowed_of_outside {k p : Nat} (outside : ¬ (k * 40000 + 1000 ≤ p ∧ p ≤ k * 40000 + 5000))
    (accept : State → State) (s : State) :
    s.windowed k (some p) accept = { s with btb := s.btb.countMisaligned k } :=
  if_neg fun h => outside ((inWindow_iff k p).1 h)

/-- Settles O11: the judgement test by test, then each rejected frame: without a start position nothing is
counted, a malformed frame counts in its start slot's row, a misaligned one in the row of its slot. -/
theorem rejectedFramesAreCounted : Obligations.RejectedFramesAreCounted := by
  refine ⟨judgeFrame_spec, fun e chars r s => ?_⟩
  intro u base rx
  refine ⟨fun start => ?_, fun p start malformed => ?_, fun p n start outside candidate => ?_⟩
  · rw [exec_frameCompletion rx]
    rintro (malformed | ⟨cs, order⟩ | ⟨n, cs, bulletin, other, bus, later⟩)
    · simp only [State.completeFrame, malformed, start]
      rfl
    · simp only [State.completeFrame, order, State.validFrame, start]
      rfl
    · rw [State.completeFrame_of_bulletin bulletin, State.validFrame_windowed other bus later, start]
      rfl
  · have counted : exec (.frameCompletion e chars) s
        = .next { base with btb := u.btb.countCrc (p / slotUs) } := by
      rw [exec_frameCompletion rx]
      simp only [State.completeFrame, malformed, start]
      rfl
    exact ⟨_, counted, rfl, Btb.countCrc_spec _ _⟩
  · have counted : exec (.frameCompletion e chars) s = .next { base with btb := u.btb.countMisaligned n } := by
      rw [exec_frameCompletion rx]
      rcases candidate with ⟨rfl, cs, order⟩ | ⟨other, bus, later, cs, bulletin⟩
      · simp only [State.completeFrame, order, State.validFrame, start]
        exact congrArg _ (State.windowed_of_outside outside _ _)
      · rw [State.completeFrame_of_bulletin bulletin, State.validFrame_windowed other bus later, start]
        exact congrArg _ (State.windowed_of_outside outside _ _)
    exact ⟨_, counted, rfl, Btb.countMisaligned_spec _ _⟩

end Sys2Proof.Machine
end

section
/-! PROOFS. The bulletin's layout: what is stored of any characters, and the round trip through a bulletin's 21
characters (R3, R4, R25 to R28, R32). -/

namespace Sys2Proof.Machine

/-! ### The layout of R26 and the normalisation of R27 in numbers -/

theorem getLsbD_eq_decide {n : Nat} (w : BitVec n) (i : Nat) : w.getLsbD i = decide (w.toNat / 2 ^ i % 2 = 1) := by
  rw [BitVec.getLsbD, Nat.testBit_eq_decide_div_mod_eq]

theorem extractLsb'_toNat_eq {n : Nat} (w : BitVec n) (start len : Nat) :
    (w.extractLsb' start len).toNat = w.toNat / 2 ^ start % 2 ^ len := by
  rw [BitVec.extractLsb'_toNat, Nat.shiftRight_eq_div_pow]

theorem roleOfCode_eq (c : BitVec 3) : roleOfCode c
    = [Role.init, .resting, .warming, .carrying, .shedding, .protect, .withdrawn, .init].getD c.toNat .init := by
  revert c
  decide

theorem frostOfCode_eq (c : BitVec 2) :
    frostOfCode c = [FrostState.clear, .guard, .protect, .recover].getD c.toNat .clear := by
  revert c
  decide

/-- What a receiver stores of any characters is what the layout and the normalisation make of them (R26, R27). -/
theorem bulletinOf_storedFrom (cs : List Byte) : (bulletinOf cs).StoredFrom cs := by
  have nine : ∀ (i j : Nat) (n : Nat), ((byteAt cs i).extractLsb' n 1 ++ byteAt cs j).toNat
      = 256 * ((cs.getD i 0).toNat / 2 ^ n % 2) + (cs.getD j 0).toNat := fun i j n => by
    rw [toNat_append_eq, extractLsb'_toNat_eq, Nat.mul_comm]
    rfl
  have h : (bulletinOf cs).h = min 256 (256 * ((cs.getD 5 0).toNat / 32 % 2) + (cs.getD 6 0).toNat) :=
    congrArg (min 256) (nine 5 6 5)
  have nFit : (bulletinOf cs).nFit = if (cs.getD 16 0).toNat % 8 = 0 then 1
      else if (cs.getD 16 0).toNat % 8 = 7 then 6 else (cs.getD 16 0).toNat % 8 := by
    have code : ((byteAt cs 16).extractLsb' 0 3).toNat = (cs.getD 16 0).toNat % 8 := by
      rw [extractLsb'_toNat_eq, pow_zero, Nat.div_one]
      rfl
    exact congrArg storedFit code
  have bit := fun i n => getLsbD_eq_decide (byteAt cs i) n
  refine ⟨⟨rfl, rfl, bit 4 0, bit 4 1, bit 4 2⟩, ?_, ?_, ⟨bit 5 0, bit 5 1, bit 5 2, bit 5 3, bit 5 4⟩, h, ?_, ?_,
    rfl, ?_, ?_, rfl, nFit, ?_, ?_⟩
  · refine (roleOfCode_eq _).trans ?_
    rw [extractLsb'_toNat_eq]
    rfl
  · refine (frostOfCode_eq _).trans ?_
    have small := (byteAt cs 4).isLt
    rw [extractLsb'_toNat_eq, Nat.mod_eq_of_lt (by omega)]
    rfl
  · exact congrArg (min (bulletinOf cs).h) (nine 5 7 6)
  · refine (clampInt_eq _ _ _ (by omega)).trans ?_
    rw [toInt_eq_ite (n := 15), wordAt_toNat]
    rfl
  · exact congrArg (min 6144) (wordAt_toNat _ _)
  · exact wordAt_toNat _ _
  · exact congrArg (min (bulletinOf cs).nFit) (extractLsb'_toNat_eq _ _ _)
  · refine (toNat_append_eq _ _).trans ?_
    rw [extractLsb'_toNat_eq, pow_zero, Nat.div_one, Nat.mul_comm]
    rfl

/-! ### A bulletin's 21 characters -/

theorem roleOfCode_code (r : Role) : roleOfCode r.code = r := by cases r <;> rfl

theorem frostOfCode_code (f : FrostState) : frostOfCode f.code = f := by cases f <;> rfl

theorem word16_halves (w : Word16) : word16 (w.extractLsb' 8 8) (w.extractLsb' 0 8) = w :=
  BitVec.extractLsb'_append_extractLsb'

/-- A frame with its CRC passes the CRC test (R3). -/
theorem crcMatches_withCrc (body : List Byte) : crcMatches (withCrc body) = true := by
  have length : (withCrc body).length - 2 = body.length := by simp [withCrc, bytes16]
  have sum : wordAt (withCrc body) body.length = crc (body.drop 1) := by
    have hi : byteAt (withCrc body) body.length = (crc (body.drop 1)).extractLsb' 8 8 := by
      simp [byteAt, withCrc, bytes16, List.getD_eq_getElem?_getD]
    have lo : byteAt (withCrc body) (body.length + 1) = (crc (body.drop 1)).extractLsb' 0 8 := by
      simp [byteAt, withCrc, bytes16, List.getD_eq_getElem?_getD]
    rw [wordAt, hi, lo, word16_halves]
  rw [crcMatches, length, sum, withCrc, List.take_left, beq_self_eq_true]

/-- A byte that holds a small number. -/
theorem toNat_ofNat_of_le {n k : Nat} (h : k < 2 ^ n) : (BitVec.ofNat n k).toNat = k := by
  rw [BitVec.toNat_ofNat, Nat.mod_eq_of_lt h]

/-- The characters of a bulletin are judged as that bulletin (R4, R28). -/
theorem judgeFrame_bulletinChars {b : Bulletin} (low : 1 ≤ b.source) (high : b.source ≤ 24) (slot : b.slot = b.source) :
    judgeFrame ((bulletinChars b).map fun c => ⟨c, false⟩) = some (.bulletin b.source (bulletinChars b)) := by
  have chars : ((bulletinChars b).map fun c => (⟨c, false⟩ : RxChar)).map RxChar.byte = bulletinChars b := by
    simp [Function.comp_def]
  have source : (byteAt (bulletinChars b) 3).toNat = b.source := toNat_ofNat_of_le (by omega)
  have valid : ValidBulletin ((bulletinChars b).map fun c => ⟨c, false⟩) := by
    rw [validBulletin_iff, wholeFrame_iff, chars, source]
    refine ⟨⟨by simp, rfl, crcMatches_withCrc _⟩, rfl, rfl, ?_, low, high⟩
    exact congrArg (BitVec.ofNat 8) slot.symm
  rw [(judgeFrame_cases _).1 valid, chars, source]

/-- A number of nine bits, sent as its top bit and its low character (R26). -/
theorem nineBits {k : Nat} (h : k ≤ 256) :
    ((BitVec.ofNat 9 k).extractLsb' 8 1 ++ (BitVec.ofNat 9 k).extractLsb' 0 8).toNat = k := by
  rw [BitVec.extractLsb'_append_extractLsb', toNat_ofNat_of_le (by omega)]

theorem word16_bytes16 (cs : List Byte) (i : Nat) (w : Word16) (hi : byteAt cs i = w.extractLsb' 8 8)
    (lo : byteAt cs (i + 1) = w.extractLsb' 0 8) : wordAt cs i = w := by
  rw [wordAt, hi, lo, word16_halves]

/-- Character 4: frost state, role and three marks (R26). -/
def Bulletin.stateChar (b : Bulletin) : Byte :=
  b.frost.code ++ b.role.code ++ bit1 b.outletValid ++ bit1 b.dValid ++ bit1 b.loop

/-- Character 5: the top bits of H and S, and five marks (R26). -/
def Bulletin.markChar (b : Bulletin) : Byte :=
  (0 : BitVec 1) ++ (BitVec.ofNat 9 b.share).extractLsb' 8 1 ++ (BitVec.ofNat 9 b.h).extractLsb' 8 1
    ++ bit1 b.drained ++ bit1 b.noBasis ++ bit1 b.floorLimited ++ bit1 b.coldJoin ++ bit1 b.rotateDue

/-- Character 16: the fans fitted and available (R26). -/
def Bulletin.fanChar (b : Bulletin) : Byte := (0 : BitVec 2) ++ BitVec.ofNat 3 b.nAvail ++ BitVec.ofNat 3 b.nFit

/-- The fields of character 4, from the lowest. -/
theorem stateFields (f : BitVec 2) (r : BitVec 3) (o d l : BitVec 1) :
    ((f ++ r ++ o ++ d ++ l).getLsbD 0 = l.getLsbD 0 ∧ (f ++ r ++ o ++ d ++ l).getLsbD 1 = d.getLsbD 0
        ∧ (f ++ r ++ o ++ d ++ l).getLsbD 2 = o.getLsbD 0)
      ∧ (f ++ r ++ o ++ d ++ l).extractLsb' 3 3 = r ∧ (f ++ r ++ o ++ d ++ l).extractLsb' 6 2 = f := by
  refine ⟨?_, ?_, ?_⟩
  · simp only [BitVec.getLsbD_append]
    exact ⟨rfl, rfl, rfl⟩
  · iterate 3 rw [BitVec.extractLsb'_append_eq_of_le (by decide)]
    exact BitVec.extractLsb'_append_eq_right
  · iterate 3 rw [BitVec.extractLsb'_append_eq_of_le (by decide)]
    exact BitVec.extractLsb'_append_eq_left

/-- The fields of character 5, from the lowest. -/
theorem markFields (z s h d n f c r : BitVec 1) :
    ((z ++ s ++ h ++ d ++ n ++ f ++ c ++ r).getLsbD 0 = r.getLsbD 0
        ∧ (z ++ s ++ h ++ d ++ n ++ f ++ c ++ r).getLsbD 1 = c.getLsbD 0
        ∧ (z ++ s ++ h ++ d ++ n ++ f ++ c ++ r).getLsbD 2 = f.getLsbD 0
        ∧ (z ++ s ++ h ++ d ++ n ++ f ++ c ++ r).getLsbD 3 = n.getLsbD 0
        ∧ (z ++ s ++ h ++ d ++ n ++ f ++ c ++ r).getLsbD 4 = d.getLsbD 0)
      ∧ (z ++ s ++ h ++ d ++ n ++ f ++ c ++ r).extractLsb' 5 1 = h
      ∧ (z ++ s ++ h ++ d ++ n ++ f ++ c ++ r).extractLsb' 6 1 = s := by
  refine ⟨?_, ?_, ?_⟩
  · simp only [BitVec.getLsbD_append]
    exact ⟨rfl, rfl, rfl, rfl, rfl⟩
  · iterate 5 rw [BitVec.extractLsb'_append_eq_of_le (by decide)]
    exact BitVec.extractLsb'_append_eq_right
  · iterate 6 rw [BitVec.extractLsb'_append_eq_of_le (by decide)]
    exact BitVec.extractLsb'_append_eq_right

/-- The fields of character 16, from the lowest. -/
theorem fanFields (z : BitVec 2) (a f : BitVec 3) :
    (z ++ a ++ f).extractLsb' 0 3 = f ∧ (z ++ a ++ f).extractLsb' 3 3 = a := by
  refine ⟨BitVec.extractLsb'_append_eq_right, ?_⟩
  rw [BitVec.extractLsb'_append_eq_of_le (by decide)]
  exact BitVec.extractLsb'_append_eq_right

theorem getLsbD_bit1 (b : Bool) : (bit1 b).getLsbD 0 = b := by cases b <;> rfl

theorem getLsbD_stateChar (b : Bulletin) : b.stateChar.getLsbD 0 = b.loop ∧ b.stateChar.getLsbD 1 = b.dValid
    ∧ b.stateChar.getLsbD 2 = b.outletValid := by
  have fields := (stateFields b.frost.code b.role.code (bit1 b.outletValid) (bit1 b.dValid) (bit1 b.loop)).1
  rwa [getLsbD_bit1, getLsbD_bit1, getLsbD_bit1] at fields

theorem extractLsb'_stateChar (b : Bulletin) :
    b.stateChar.extractLsb' 3 3 = b.role.code ∧ b.stateChar.extractLsb' 6 2 = b.frost.code :=
  (stateFields _ _ _ _ _).2

theorem getLsbD_markChar (b : Bulletin) : b.markChar.getLsbD 0 = b.rotateDue ∧ b.markChar.getLsbD 1 = b.coldJoin
    ∧ b.markChar.getLsbD 2 = b.floorLimited ∧ b.markChar.getLsbD 3 = b.noBasis ∧ b.markChar.getLsbD 4 = b.drained := by
  have fields := (markFields 0 ((BitVec.ofNat 9 b.share).extractLsb' 8 1) ((BitVec.ofNat 9 b.h).extractLsb' 8 1)
    (bit1 b.drained) (bit1 b.noBasis) (bit1 b.floorLimited) (bit1 b.coldJoin) (bit1 b.rotateDue)).1
  rwa [getLsbD_bit1, getLsbD_bit1, getLsbD_bit1, getLsbD_bit1, getLsbD_bit1] at fields

theorem extractLsb'_markChar (b : Bulletin) : b.markChar.extractLsb' 5 1 = (BitVec.ofNat 9 b.h).extractLsb' 8 1
    ∧ b.markChar.extractLsb' 6 1 = (BitVec.ofNat 9 b.share).extractLsb' 8 1 :=
  (markFields _ _ _ _ _ _ _ _).2

theorem extractLsb'_fanChar (b : Bulletin) : b.fanChar.extractLsb' 0 3 = BitVec.ofNat 3 b.nFit
    ∧ b.fanChar.extractLsb' 3 3 = BitVec.ofNat 3 b.nAvail :=
  fanFields _ _ _

/-- What a receiver stores of a bulletin's characters is the bulletin (R26, R27). -/
theorem bulletinOf_bulletinChars {b : Bulletin} (range : b.InRange) : bulletinOf (bulletinChars b) = b := by
  obtain ⟨⟨low, high, slot⟩, ⟨cold, hot⟩, q, h, share, d, age, ⟨one, six⟩, avail, speed⟩ := range
  obtain ⟨loop, dValid, outletValid⟩ := getLsbD_stateChar b
  obtain ⟨role, frost⟩ := extractLsb'_stateChar b
  obtain ⟨rotateDue, coldJoin, floorLimited, noBasis, drained⟩ := getLsbD_markChar b
  obtain ⟨topH, topShare⟩ := extractLsb'_markChar b
  obtain ⟨fit, available⟩ := extractLsb'_fanChar b
  have hEq : (bulletinOf (bulletinChars b)).h = b.h := by
    have number : (b.markChar.extractLsb' 5 1 ++ (BitVec.ofNat 9 b.h).extractLsb' 0 8).toNat = b.h := by
      rw [topH, nineBits h]
    exact (congrArg (Nat.min 256) number).trans (Nat.min_eq_right h)
  have shareEq : (bulletinOf (bulletinChars b)).share = b.share := by
    have number : (b.markChar.extractLsb' 6 1 ++ (BitVec.ofNat 9 b.share).extractLsb' 0 8).toNat = b.share := by
      rw [topShare, nineBits (share.trans h)]
    refine (congrArg₂ Nat.min hEq number).trans (Nat.min_eq_right share)
  have nFitEq : (bulletinOf (bulletinChars b)).nFit = b.nFit := by
    have number : (b.fanChar.extractLsb' 0 3).toNat = b.nFit := by rw [fit, toNat_ofNat_of_le (by omega)]
    exact (congrArg storedFit number).trans ((if_neg (by omega)).trans (if_neg (by omega)))
  have nAvailEq : (bulletinOf (bulletinChars b)).nAvail = b.nAvail := by
    have number : (b.fanChar.extractLsb' 3 3).toNat = b.nAvail := by rw [available, toNat_ofNat_of_le (by omega)]
    exact (congrArg₂ Nat.min nFitEq number).trans (Nat.min_eq_right avail)
  have outletEq : (bulletinOf (bulletinChars b)).outlet = b.outlet := by
    have number : wordAt (bulletinChars b) 8 = BitVec.ofInt 16 b.outlet := word16_bytes16 _ _ _ rfl rfl
    refine (clampInt_eq _ _ _ (by omega)).trans ?_
    rw [number, BitVec.toInt_ofInt_eq_self (by omega) (by omega) (by omega)]
    omega
  have dEq : (bulletinOf (bulletinChars b)).d = b.d := by
    have number : (wordAt (bulletinChars b) 11).toNat = b.d := by
      rw [word16_bytes16 _ _ (BitVec.ofNat 16 b.d) rfl rfl, toNat_ofNat_of_le (by omega)]
    exact (congrArg (Nat.min 6144) number).trans (Nat.min_eq_right d)
  have ageEq : (bulletinOf (bulletinChars b)).restAge = b.restAge := by
    have number : (wordAt (bulletinChars b) 13).toNat = b.restAge := by
      rw [word16_bytes16 _ _ (BitVec.ofNat 16 b.restAge) rfl rfl, toNat_ofNat_of_le (by omega)]
    exact number
  have speedEq : (bulletinOf (bulletinChars b)).fanSpeed = b.fanSpeed := by
    have number : (byteAt (bulletinChars b) 15).toNat = b.fanSpeed := toNat_ofNat_of_le (by omega)
    exact (congrArg (Nat.min 250) number).trans (Nat.min_eq_right speed)
  have alertsEq : (bulletinOf (bulletinChars b)).alerts = b.alerts := by
    have high : ((0 : BitVec 4) ++ b.alerts.extractLsb' 8 4).extractLsb' 0 4 = b.alerts.extractLsb' 8 4 :=
      BitVec.extractLsb'_append_eq_right
    refine (congrArg (· ++ b.alerts.extractLsb' 0 8) high).trans ?_
    exact BitVec.extractLsb'_append_extractLsb'
  have slotEq : (bulletinOf (bulletinChars b)).slot = b.slot := toNat_ofNat_of_le (by omega)
  have sourceEq : (bulletinOf (bulletinChars b)).source = b.source := toNat_ofNat_of_le (by omega)
  have qEq : (bulletinOf (bulletinChars b)).q = b.q := toNat_ofNat_of_le (by omega)
  have roleEq : (bulletinOf (bulletinChars b)).role = b.role :=
    (congrArg roleOfCode role).trans (roleOfCode_code _)
  have frostEq : (bulletinOf (bulletinChars b)).frost = b.frost :=
    (congrArg frostOfCode frost).trans (frostOfCode_code _)
  have loopEq : (bulletinOf (bulletinChars b)).loop = b.loop := loop
  have dValidEq : (bulletinOf (bulletinChars b)).dValid = b.dValid := dValid
  have outletValidEq : (bulletinOf (bulletinChars b)).outletValid = b.outletValid := outletValid
  have rotateDueEq : (bulletinOf (bulletinChars b)).rotateDue = b.rotateDue := rotateDue
  have coldJoinEq : (bulletinOf (bulletinChars b)).coldJoin = b.coldJoin := coldJoin
  have floorLimitedEq : (bulletinOf (bulletinChars b)).floorLimited = b.floorLimited := floorLimited
  have noBasisEq : (bulletinOf (bulletinChars b)).noBasis = b.noBasis := noBasis
  have drainedEq : (bulletinOf (bulletinChars b)).drained = b.drained := drained
  generalize bulletinOf (bulletinChars b) = t at *
  cases t
  cases b
  simp_all

/-- Settles O54: the layout and the normalisation in numbers, and back through a bulletin's characters. -/
theorem bulletinSurvivesItsCharacters : Obligations.BulletinSurvivesItsCharacters := by
  refine ⟨bulletinOf_storedFrom, fun b range => ⟨bulletinChars_length b, ?_, bulletinOf_bulletinChars range⟩⟩
  obtain ⟨⟨low, high, slot⟩, -⟩ := range
  exact judgeFrame_bulletinChars low high slot

end Sys2Proof.Machine
end

section
/-! PROOFS. The records of the service views, item by item (R24, R41, R62, R84, R103, R118, R140, R150, R159, R166,
R172, R178). -/

namespace Sys2Proof.Machine

/-! ### Items and their bytes -/

theorem bytesOf_append (is js : List (Nat × Int)) : bytesOf (is ++ js) = bytesOf is ++ bytesOf js :=
  List.flatMap_append

theorem bytesOf_cons (i : Nat × Int) (is : List (Nat × Int)) : bytesOf (i :: is) = bytesOf [i] ++ bytesOf is :=
  bytesOf_append [i] is

theorem bytesOf_byte1 (v : Int) : bytesOf [byte1 v] = [BitVec.ofInt 8 v] := by
  simp [bytesOf, byte1]

theorem u8_eq (n : Nat) : u8 n = bytesOf [byte1 n] := by
  rw [bytesOf_byte1, BitVec.ofInt_natCast]
  rfl

theorem yn_eq (b : Bool) : yn b = bytesOf [yesNo b] := u8_eq _

theorem s16_eq (v : Int) : s16 v = bytesOf [byte2 v] := by
  have items : bytesOf [byte2 v] = [BitVec.ofInt 8 (v / 256), BitVec.ofInt 8 (v / 1)] := rfl
  rw [items, s16, bytes16]
  simp only [List.cons.injEq, and_true, ← BitVec.toNat_inj, extractLsb'_toNat_eq, BitVec.toNat_ofInt]
  omega

theorem u16_eq (n : Nat) : u16 n = bytesOf [byte2 n] := by
  rw [← s16_eq, s16, BitVec.ofInt_natCast]
  rfl

theorem s32_eq (v : Int) : s32 v = bytesOf [byte4 v] := by
  have items : bytesOf [byte4 v] = [BitVec.ofInt 8 (v / 16777216), BitVec.ofInt 8 (v / 65536),
      BitVec.ofInt 8 (v / 256), BitVec.ofInt 8 (v / 1)] := rfl
  rw [items, s32, bytes32]
  simp only [List.cons.injEq, and_true, ← BitVec.toNat_inj, extractLsb'_toNat_eq, BitVec.toNat_ofInt]
  omega

theorem mask32_eq (m : StationMask) : mask32 m = bytesOf [byte4 m.toNat] := by
  rw [← s32_eq, s32, BitVec.ofInt_natCast, BitVec.ofNat_toNat]
  rfl

theorem mask16_eq (m : AlertMask) : mask16 m = bytesOf [byte2 m.toNat] := by
  rw [← u16_eq, u16, BitVec.ofNat_toNat]
  rfl

/-- Zeros of a width are one item of value 0. -/
theorem replicate_eq (width : Nat) : List.replicate width (0 : Byte) = bytesOf [(width, 0)] := by
  simp [bytesOf]

theorem optional_eq {α : Type} (width : Nat) {f : α → List Byte} {items : α → List (Nat × Int)}
    (h : ∀ a, f a = bytesOf (items a)) (o : Option α) : optional width f o = bytesOf (mayBe width items o) := by
  cases o with
  | some a => rw [optional, u8_eq, h, ← bytesOf_append]; rfl
  | none => rw [optional, u8_eq, replicate_eq, ← bytesOf_append]; rfl

theorem flatMap_eq_bytesOf {α : Type} {f : α → List Byte} {item : α → Nat × Int} (h : ∀ a, f a = bytesOf [item a])
    (as : List α) : as.flatMap f = bytesOf (as.map item) := by
  induction as with
  | nil => rfl
  | cons a as ih => rw [List.flatMap_cons, ih, h, List.map_cons, ← bytesOf_cons]

theorem listed_eq {α : Type} {f : α → List Byte} {item : α → Nat × Int} (h : ∀ a, f a = bytesOf [item a])
    (as : List α) : listed f as = bytesOf (byte1 as.length :: as.map item) := by
  rw [listed, u8_eq, flatMap_eq_bytesOf h, ← bytesOf_cons]

/-- Bytes as items of one byte. -/
theorem bytesOf_map_byte1 (cs : List Byte) : bytesOf (cs.map fun c => byte1 c.toNat) = cs := by
  induction cs with
  | nil => rfl
  | cons c cs ih => rw [List.map_cons, bytesOf_cons, ih, ← u8_eq, u8, BitVec.ofNat_toNat, BitVec.setWidth_eq]; rfl

theorem byte_eq (c : Byte) : [c] = bytesOf [byte1 c.toNat] := (bytesOf_map_byte1 [c]).symm

/-! ### States by their places -/

theorem role_item (r : Role) : u8 r.position = bytesOf [placeIn roles r] := by cases r <;> exact u8_eq _

theorem frost_item (f : FrostState) : u8 f.position = bytesOf [placeIn frostStates f] := by
  cases f <;> exact u8_eq _

theorem rowState_item (r : RowState) : u8 r.position = bytesOf [placeIn rowStates r] := by cases r <;> exact u8_eq _

theorem bus_item (b : BusState) : u8 b.position
    = bytesOf [placeIn [BusState.unaddressed, .listen, .joining, .active, .duplicate] b] := by
  cases b <;> exact u8_eq _

theorem outcome_item (o : LoadOutcome) : u8 o.position
    = bytesOf [placeIn [LoadOutcome.accepted, .noAck, .marker, .length, .sum] o] := by
  cases o <;> exact u8_eq _

theorem cause_item (c : RoleCause) : u8 c.position = bytesOf [placeIn [RoleCause.allotment, .warmExpiry, .shedExpiry,
    .frostProtect, .frostClear, .withdraw, .restore] c] := by
  cases c <;> exact u8_eq _

theorem trip_item (c : TripCause) : u8 c.position
    = bytesOf [placeIn [TripCause.lowerSurface, .upperSurface, .pressure, .stagnation] c] := by
  cases c <;> exact u8_eq _

theorem comparator_item (c : Comparator) : u8 c.position
    = bytesOf [placeIn [Comparator.below, .inside, .above] c] := by
  cases c <;> exact u8_eq _

theorem fanState_item (s : FanState) : u8 s.position
    = bytesOf [placeIn [FanState.absent, .off, .queued, .starting, .kick, .running, .iced] s] := by
  cases s <;> exact u8_eq _

theorem fanClass_item (c : FanClass) : u8 c.position = bytesOf [placeIn [FanClass.duty, .exercise] c] := by
  cases c <;> exact u8_eq _

theorem kickPhase_item (k : KickPhase) : u8 k.position = bytesOf [placeIn [KickPhase.kick, .check] k] := by
  cases k <;> exact u8_eq _

theorem check_item (c : CheckState) : u8 c.position
    = bytesOf [placeIn [CheckState.idle, .timing, .suspended] c] := by
  cases c <;> exact u8_eq _

theorem cadence_item (c : Cadence) : u8 c.position = bytesOf [placeIn [Cadence.idle, .report, .space] c] := by
  cases c <;> exact u8_eq _

end Sys2Proof.Machine
end

section
/-! PROOFS. A read request answers the span of its view (R178): each view's records by their items. -/

namespace Sys2Proof.Machine

/-! ### Records used in several views -/

theorem allotmentItems_eq (a : Allotment) : allotmentItems a = bytesOf a.table := by
  rw [allotmentItems, role_item, optional_eq 2 s16_eq]
  simp only [u8_eq, yn_eq, u16_eq, ← bytesOf_append, Allotment.table, List.append_assoc, List.cons_append,
    List.nil_append]

theorem figureItems_eq (g : Figures) : figureItems g = bytesOf g.table := by
  simp only [figureItems, u8_eq, u16_eq, s16_eq, s32_eq, ← bytesOf_append, Figures.table,
    List.cons_append, List.nil_append]

theorem bulletinItems_eq (b : Bulletin) : bulletinItems b = bytesOf b.table := by
  unfold bulletinItems
  rw [role_item, frost_item]
  simp only [u8_eq, yn_eq, u16_eq, s16_eq, mask16_eq]
  simp only [← bytesOf_append, Bulletin.table, List.cons_append, List.nil_append]

theorem copyItems_eq (c : Option Bulletin) : copyItems c = bytesOf (copyTable c) := by
  cases c with
  | some b => exact bulletinItems_eq b
  | none => exact replicate_eq 28

theorem timerCounts_eq (t : Timer) : timerCounts t = bytesOf (t.table false) := by
  simp only [timerCounts, u8_eq, yn_eq, u16_eq, ← bytesOf_append, List.cons_append, List.nil_append]
  rfl

theorem minuteCounts_eq (t : Timer) : minuteCounts t = bytesOf (t.table true) := by
  rw [minuteCounts, timerCounts_eq, u8_eq, ← bytesOf_append]
  rfl

/-! ### The views -/

/-- View 0. -/
theorem State.view0_eq (s : State) : s.view0 = [bytesOf s.table0] := by
  have version : [s.imageVersion] = bytesOf [byte1 (if 2 ≤ s.cfl.image.length then s.cfl.image.getD 1 0
      else Config.versionUnread s.freeCount).toNat] := byte_eq _
  rw [State.view0, version, optional_eq 1 outcome_item, bus_item]
  simp only [u8_eq, yn_eq, ← bytesOf_append, State.table0, List.append_assoc, List.cons_append, List.nil_append]
  cases s.lsc.position <;> rfl

theorem roleChange_item (c : RoleChange) : roleChangeItems c = bytesOf [placeIn roles c.previous, placeIn roles c.new,
    placeIn [RoleCause.allotment, .warmExpiry, .shedExpiry, .frostProtect, .frostClear, .withdraw, .restore] c.cause] := by
  rw [roleChangeItems, role_item, role_item, cause_item]
  rfl

/-- View 1. -/
theorem State.view1_eq (s : State) : s.view1 = [bytesOf s.table1] := by
  rw [State.view1, fdeItems, State.roleItems, orderItems, optional_eq 23 allotmentItems_eq, optional_eq 2 s16_eq,
    optional_eq 22 figureItems_eq, optional_eq 2 s16_eq, optional_eq 3 roleChange_item, role_item]
  simp only [u8_eq, yn_eq, u16_eq, s16_eq, mask32_eq, timerCounts_eq, ← bytesOf_append, State.table1,
    List.append_assoc, List.cons_append, List.nil_append]

/-- View 2. -/
theorem State.view2_eq (s : State) : s.view2 = s.table2.map bytesOf := by
  have row : ∀ r : Row, copyItems r.live ++ u8 r.state.position ++ u8 r.age ++ yn r.heard
      = bytesOf (copyTable r.live ++ [placeIn rowStates r.state, byte1 r.age, yesNo r.heard]) := fun r => by
    rw [copyItems_eq, rowState_item]
    simp only [u8_eq, yn_eq, ← bytesOf_append, List.append_assoc, List.cons_append, List.nil_append]
  simp only [State.view2, State.table2, List.map_cons, List.map_map, Function.comp_def, row, bytesOf_append _ [_],
    ← yn_eq]
  cases s.btb.order with
  | some cs => simp only [bytesOf_map_byte1]
  | none => simp only [replicate_eq]

/-- View 3. -/
theorem State.view3_eq (s : State) : s.view3 = s.table3.map bytesOf := by
  have row : ∀ r : Row, copyItems r.snapCopy ++ u8 r.snapState.position ++ u8 r.snapAge
      = bytesOf (copyTable r.snapCopy ++ [placeIn rowStates r.snapState, byte1 r.snapAge]) := fun r => by
    rw [copyItems_eq, rowState_item]
    simp only [u8_eq, ← bytesOf_append, List.append_assoc, List.cons_append, List.nil_append]
  simp only [State.view3, State.table3, List.map_map, Function.comp_def, row]

theorem Btb.rows_toList (b : Btb) : b.rows.toList = (List.range 24).map fun k => b.row (k + 1) := by
  refine List.ext_getElem (by simp) fun i hi _ => ?_
  rw [List.getElem_map, List.getElem_range, Btb.row, Nat.add_sub_cancel, List.getD_eq_getElem _ _ hi]

/-- View 4. -/
theorem State.view4_eq (s : State) : s.view4 = s.table4.map bytesOf := by
  have station : ∀ k, u16 (s.btb.row (k + 1)).crcErrors ++ u16 (s.btb.row (k + 1)).misaligned
      = bytesOf [byte2 (s.btb.crcCount (k + 1)), byte2 (s.btb.misalignedCount (k + 1))] := fun k => by
    rw [u16_eq, u16_eq, ← bytesOf_append]
    rfl
  rw [State.view4, State.table4, List.range_succ_eq_map, Btb.rows_toList, u16_eq, u16_eq, ← bytesOf_append]
  simp only [List.map_cons, List.map_map, Function.comp_def, station]
  rfl

/-- What the latest set shows of a channel (R62). -/
def publishedTable (set : Option ScanSet) (i : Fin 8) : List (Nat × Int) :=
  match set with
  | some set =>
    let c := set.channels[i]
    [byte2 c.value, yesNo (!c.ok), placeIn [Comparator.below, .inside, .above] c.comparator]
  | none => [byte4 0]

theorem publishedItems_eq (set : Option ScanSet) (i : Fin 8) :
    publishedItems set i = bytesOf (publishedTable set i) := by
  cases set with
  | some set =>
    simp only [publishedItems, comparator_item, s16_eq, yn_eq, ← bytesOf_append]
    rfl
  | none => rfl

theorem shown_eq (published : Bool) (v : Int) :
    shown published (bytesOf [byte2 v]) = bytesOf [if published then byte2 v else byte2 0] := by
  cases published <;> rfl

theorem Ssc.setItems_eq (c : Ssc) : c.setItems
    = bytesOf [yesNo (match c.scanSet with | some set => set.fault | none => false), byte1 c.badRun,
      byte1 c.refGoodRun, yesNo c.scanSet.isSome] := by
  simp only [Ssc.setItems, u8_eq, yn_eq, ← bytesOf_append]
  rfl

theorem Ssc.channelItems_eq (c : Ssc) (i : Fin 7) : c.channelItems i
    = bytesOf (publishedTable c.scanSet i.castSucc
      ++ [if c.scanSet.isSome then byte2 (c.channels[i].raw.getD 0).toNat else byte2 0,
        if c.scanSet.isSome then byte2 (c.channels[i].x.getD 0) else byte2 0, yesNo c.channels[i].failed,
        byte1 c.channels[i].faultRun, byte1 c.channels[i].goodRun, yesNo c.channels[i].y.isSome]) := by
  simp only [Ssc.channelItems, publishedItems_eq, u8_eq, yn_eq, u16_eq, s16_eq, shown_eq, ← bytesOf_append,
    List.append_assoc, List.cons_append, List.nil_append]

theorem Ssc.refItems_eq (c : Ssc) : c.refItems
    = bytesOf (publishedTable c.scanSet 7
      ++ [if c.scanSet.isSome then byte2 (c.refRaw.getD 0).toNat else byte2 0,
        if c.scanSet.isSome then byte2 (c.refValue.getD 0) else byte2 0, yesNo c.fault,
        byte1 c.badRun, byte1 c.refGoodRun, yesNo c.refValue.isSome]) := by
  simp only [Ssc.refItems, publishedItems_eq, u8_eq, yn_eq, u16_eq, shown_eq, ← bytesOf_append,
    List.append_assoc, List.cons_append, List.nil_append]

/-- View 5. -/
theorem State.view5_eq (s : State) : s.view5 = s.table5.map bytesOf := by
  simp only [State.view5, State.table5, Ssc.setItems_eq, Ssc.channelItems_eq, Ssc.refItems_eq, List.map_cons,
    List.map_nil, List.cons_append, List.nil_append]
  rfl

/-- View 6. -/
theorem State.view6_eq (s : State) : s.view6 = s.table6.map bytesOf := by
  have fan : ∀ c : FanChannel, fanItems c = bytesOf ([placeIn [FanState.absent, .off, .queued, .starting, .kick,
      .running, .iced] c.state] ++ mayBe 1 (fun k => [placeIn [FanClass.duty, .exercise] k]) c.cls
      ++ [byte2 c.command] ++ mayBe 1 (fun k => [placeIn [KickPhase.kick, .check] k]) c.phase
      ++ [byte2 c.phaseCount, byte1 c.retries, byte1 c.stallRun, byte1 c.deferrals,
        yesNo c.iceSuspect, byte2 c.speed]) := fun c => by
    rw [fanItems, fanState_item, optional_eq 1 fanClass_item, optional_eq 1 kickPhase_item]
    simp only [u8_eq, yn_eq, u16_eq, ← bytesOf_append, List.append_assoc, List.cons_append, List.nil_append]
  have place : ∀ i : Fin 6, u8 i.val = bytesOf [byte1 i.val] := fun i => u8_eq _
  simp only [State.view6, State.table6, List.map_append, List.map_map, Function.comp_def, fan, listed_eq place,
    optional_eq 1 place, minuteCounts_eq]
  simp only [u8_eq, yn_eq, ← bytesOf_append, List.append_assoc, List.cons_append, List.nil_append, List.map_cons,
    List.map_nil]
  rfl

/-- The target of the command (R142), by the frost state, then the role. -/
theorem Vdr.target_eq_ite (p : Params) (v : Vdr) : v.target p
    = if v.frost = .protect ∨ v.frost = .recover then 1000
      else if v.role = .resting ∨ (v.role = .withdrawn ∧ v.drained = false)
        ∨ (v.role = .shedding ∧ v.fansAtRest = true) then minOpening p v.frost
      else if v.role = .withdrawn then 0 else 1000 := by
  unfold Vdr.target
  cases v.frost with
  | protect | recover => rfl
  | clear | guard =>
    cases v.role with
    | init | carrying | protect | warming | resting => rfl
    | shedding => cases v.fansAtRest <;> rfl
    | withdrawn => cases v.drained <;> rfl

/-- The ramp of the command (R150), by the frost state, then the role. -/
theorem Vdr.ramp_eq_ite (v : Vdr) : (v.ramp : Int)
    = if v.frost = .protect ∨ v.frost = .recover then 2 else if v.role = .warming then 0
      else if v.role = .shedding ∧ v.fansAtRest = true then 1 else 2 := by
  unfold Vdr.ramp
  cases v.frost with
  | protect | recover => rfl
  | clear | guard =>
    cases v.role with
    | init | carrying | protect | warming | resting | withdrawn => rfl
    | shedding => cases v.fansAtRest <;> rfl

/-- View 7. -/
theorem State.view7_eq (s : State) : s.view7 = [bytesOf s.table7] := by
  have dac : (dacCode s.vdr.command : Int) = (2 * s.vdr.command * 1023 + 1000) / 2000 := by
    rw [dacCode]
    push_cast
    rfl
  rw [State.view7, check_item]
  simp only [u8_eq, yn_eq, u16_eq, ← bytesOf_append, List.cons_append, List.nil_append, Vdr.target_eq_ite,
    Vdr.ramp_eq_ite, dac]
  rfl

/-- View 8. -/
theorem State.view8_eq (s : State) : s.view8 = s.table8.map bytesOf := by
  have record : ∀ id : TimerId, s.timerItems id = bytesOf ((s.timer id).table id.minute
      ++ [byte1 (s.timerParams id).p, byte2 (s.timerParams id).c, byte2 (s.timer id).expiries]) := fun id => by
    have sub : (if id.minute then u8 (s.timer id).sub else [])
        = bytesOf (if id.minute then [byte1 (s.timer id).sub] else []) := by
      split
      · exact u8_eq _
      · rfl
    rw [State.timerItems, Timer.table]
    simp only [timerCounts, u8_eq, yn_eq, u16_eq, ← bytesOf_append, List.append_assoc, List.cons_append,
      List.nil_append] at sub ⊢
    rw [sub]
    simp only [← bytesOf_append, List.cons_append, List.nil_append]
  simp only [State.view8, State.table8, allTimers, record, List.map_cons, List.map_nil]
  rfl

/-- The categories stand in the order of their bits (R26). -/
theorem range_eq_bits : List.range 12 = allCategories.map Category.bit := rfl

/-- The line qualifies where one of the twelve bits does (R170). -/
theorem Aou.qualifies_eq_any (enables selects : AlertMask) (a : Aou) : a.qualifies enables selects
    = (List.range 12).any fun n =>
      enables.getLsbD n && if selects.getLsbD n then a.latched.getLsbD n else a.live.getLsbD n := by
  have listed : ∀ c : Category, c ∈ allCategories := fun c => by cases c <;> decide
  rw [Bool.eq_iff_iff, Aou.qualifies_iff, range_eq_bits, List.any_map, List.any_eq_true]
  refine exists_congr fun c => ⟨fun ⟨on, source⟩ => ⟨listed c, ?_⟩, fun ⟨_, on⟩ => ?_⟩
  · exact Bool.and_eq_true_iff.2 ⟨on, source⟩
  · exact Bool.and_eq_true_iff.1 on

theorem frostItems_eq (c : Cfm) : frostItems c = bytesOf ([placeIn frostStates c.frost, yesNo c.suspended,
    yesNo c.guardPending, yesNo c.protectPending]
      ++ mayBe 1 (fun cs : List TripCause => byte1 cs.length
        :: cs.map (placeIn [TripCause.lowerSurface, .upperSurface, .pressure, .stagnation])) c.lastTrip
      ++ [byte2 c.tripCount]) := by
  rw [frostItems, frost_item, optional_eq 1 (listed_eq trip_item)]
  simp only [yn_eq, u16_eq, ← bytesOf_append, List.cons_append, List.nil_append]

/-- View 9. -/
theorem State.view9_eq (s : State) : s.view9 = s.table9.map bytesOf := by
  have category : ∀ c, s.categoryItems c = bytesOf [yesNo (s.aou.live.getLsbD c.bit),
      yesNo (s.aou.latched.getLsbD c.bit), yesNo (s.enables.getLsbD c.bit), yesNo (s.params.selects.getLsbD c.bit)] :=
    fun c => by
      simp only [State.categoryItems, yn_eq, ← bytesOf_append, List.cons_append, List.nil_append]
      rfl
  have line : s.lineItems = bytesOf [yesNo ((List.range 12).any fun n => s.enables.getLsbD n
        && if s.params.selects.getLsbD n then s.aou.latched.getLsbD n else s.aou.live.getLsbD n),
      yesNo (!s.aou.line), yesNo s.params.assertedReleased, byte1 s.params.reportInterval,
      byte1 s.params.spaceInterval, placeIn [Cadence.idle, .report, .space] s.aou.cadence, byte1 s.aou.count] := by
    rw [State.lineItems, cadence_item, Aou.qualifies_eq_any]
    simp only [u8_eq, yn_eq, ← bytesOf_append, List.cons_append, List.nil_append]
  unfold State.view9 State.table9
  dsimp only
  rw [line, frostItems_eq, List.map_append, range_eq_bits, List.map_map, List.map_map,
    List.map_congr_left fun c _ => category c]
  rfl

/-- View 10. -/
theorem State.view10_eq (s : State) : s.view10 = (s.cfl.image.map fun b => [byte1 b.toNat]).map bytesOf := by
  simp only [State.view10, List.map_map, Function.comp_def, byte_eq]

/-! ### The answer -/

/-- A known view's records are those of its table (R178). -/
theorem State.view_eq {n : Nat} (known : n ≤ 10) (s : State) : s.view n = some ((s.viewTable n).map bytesOf) := by
  match n, known with
  | 0, _ => exact congrArg some s.view0_eq
  | 1, _ => exact congrArg some s.view1_eq
  | 2, _ => exact congrArg some s.view2_eq
  | 3, _ => exact congrArg some s.view3_eq
  | 4, _ => exact congrArg some s.view4_eq
  | 5, _ => exact congrArg some s.view5_eq
  | 6, _ => exact congrArg some s.view6_eq
  | 7, _ => exact congrArg some s.view7_eq
  | 8, _ => exact congrArg some s.view8_eq
  | 9, _ => exact congrArg some s.view9_eq
  | 10, _ => exact congrArg some s.view10_eq

theorem State.view_unknown {n : Nat} (unknown : 10 < n) (s : State) : s.view n = none := by
  obtain ⟨k, rfl⟩ := Nat.exists_eq_add_of_lt unknown
  rw [show 10 + k + 1 = k + 11 by omega]
  rfl

/-- The number of records of a view (R178). -/
theorem State.viewTable_length {n : Nat} (known : n ≤ 10) (s : State) : (s.viewTable n).length
    = [1, 1, 25, 24, 25, 9, 7, 1, 10, 14, s.cfl.image.length].getD n 0 := by
  have rows : ∀ f : Row → List (Nat × Int), (s.btb.rows.toList.map f).length = 24 := fun f => by simp
  match n, known with
  | 0, _ | 1, _ | 4, _ | 5, _ | 6, _ | 7, _ | 8, _ | 9, _ => rfl
  | 2, _ => exact congrArg (· + 1) (rows _)
  | 3, _ => exact rows _
  | 10, _ => exact List.length_map _

theorem clampNat_eq (lo hi x : Nat) (h : lo ≤ hi) : clampNat lo hi x = max lo (min hi x) := by
  unfold clampNat
  repeat' split
  all_goals omega

/-- The sum of a response is the low byte of its bytes' sum (R178). -/
theorem response_eq (copy : List Byte) : response copy = copy ++ [BitVec.ofNat 8 (byteSum copy)] := by
  have low : BitVec.ofNat 8 (byteSum copy % 256) = BitVec.ofNat 8 (byteSum copy) :=
    BitVec.eq_of_toNat_eq (by simp only [BitVec.toNat_ofNat]; omega)
  rw [response, u8, low]

/-- A read request in hand is served as the crystal's time leaves the state (R178). -/
theorem exec_readRequest {e : Nat} {view start count : Byte} {s : State} (port : (s.advance e).svp.port = .receiving)
    (request : (s.advance e).svp.request = [0x52, view, start, count]) :
    exec (.readRequest e) s = .next { (s.advance e).serve view start count with
      freeCount := ((s.advance e).serve view start count).freeCount + 1 } := by
  unfold exec execReadRequest
  simp only [port, request]
  rfl

/-- Settles O52: an unknown view has no records and is refused; a known one answers its clipped span, whose records
are its table's, item by item. -/
theorem readRequestAnswersTheSpan : Obligations.ReadRequestAnswersTheSpan := by
  intro e view start count s u port request
  have served := exec_readRequest port request
  refine ⟨fun unknown => ?_, fun known => ⟨_, u.view_eq known, rfl, ?_, ?_⟩⟩
  · rw [served, State.serve, State.view_unknown unknown (s.advance e)]
    rfl
  · rw [List.length_map, State.viewTable_length known]
  · rw [served, State.serve, State.view_eq known (s.advance e), ← clampNat_eq 1 64 _ (by omega)]
    dsimp only
    rw [← response_eq]
    rfl

end Sys2Proof.Machine
end

section
/-! PROOFS. The table at a cycle end, and the state after reset against what every step keeps (R31, R36, R38, R85,
R104, R120, R141, R152, R167, R171, R173, R177). -/

namespace Sys2Proof.Machine

/-- A cycle end is raised in every bus state but UNADDRESSED (R9). -/
theorem BusState.raisesCycleEnd_iff (b : BusState) : b.raisesCycleEnd = true ↔ b ≠ .unaddressed := by
  cases b <;> decide

theorem State.endCycle_btb (cadenceFirst : Bool) (s : State) :
    (s.endCycle cadenceFirst).btb = s.btb.cycleEnd s.params.holdLimit := by
  simp [State.endCycle, State.ageRows]

/-- The table's other counters stand at a cycle end (R34). -/
theorem Btb.cycleEnd_eq (limit : Nat) (b : Btb) : b.cycleEnd limit = { b with rows := (b.cycleEnd limit).rows } := rfl

theorem Btb.row_cycleEnd {k : Nat} (low : 1 ≤ k) (high : k ≤ 24) (limit : Nat) (b : Btb) :
    (b.cycleEnd limit).row k = ((b.row k).age1 limit).snap :=
  Btb.row_mapRows low high (fun r => (r.age1 limit).snap) b

/-! ### The ageing of a row, by its state (R36) -/

theorem Row.age1_of_heard {r : Row} (heard : r.heard = true) (limit : Nat) : r.age1 limit = r :=
  if_pos heard

theorem Row.age1_of_fresh {r : Row} (unheard : r.heard = false) (fresh : r.state = .fresh) (limit : Nat) :
    r.age1 limit = { r with state := .held, age := 1 } := by
  simp [Row.age1, unheard, fresh]

theorem Row.age1_of_young {r : Row} {limit : Nat} (unheard : r.heard = false) (held : r.state = .held)
    (young : r.age < limit) : r.age1 limit = { r with age := r.age + 1 } := by
  simp [Row.age1, unheard, held, young]

theorem Row.age1_of_old {r : Row} {limit : Nat} (unheard : r.heard = false) (held : r.state = .held)
    (old : limit ≤ r.age) : r.age1 limit
      = ⟨none, none, .absent, 0, .absent, 0, false, r.crcErrors, r.misaligned⟩ := by
  simp [Row.age1, unheard, held, Nat.not_lt.2 old]

theorem Row.age1_of_absent {r : Row} (unheard : r.heard = false) (absent : r.state = .absent) (limit : Nat) :
    r.age1 limit = r := by
  simp [Row.age1, unheard, absent]

/-! ### The cycle end in the table -/

/-- Settles O21: the cycle end ages and then snapshots each row, so what it leaves is the snapshot of what the table
of R36 makes of the row, case by case. -/
theorem cycleEndAgesAndSnapshotsTheRows : Obligations.CycleEndAgesAndSnapshotsTheRows := by
  intro e cadenceFirst s u addressed passed
  refine ⟨u.endCycle cadenceFirst, if_pos ⟨(BusState.raisesCycleEnd_iff _).2 addressed, passed⟩, ?_,
    fun k low high => ?_⟩
  · rw [State.endCycle_btb]
    exact Btb.cycleEnd_eq _ _
  · have row : (u.endCycle cadenceFirst).btb.row k = ((u.btb.row k).age1 u.params.holdLimit).snap := by
      rw [State.endCycle_btb, Btb.row_cycleEnd low high]
    dsimp only
    rw [row]
    refine ⟨fun heard => ?_, fun unheard fresh => ?_, fun unheard held young => ?_, fun unheard held old => ?_,
      fun unheard absent => ?_⟩
    · rw [Row.age1_of_heard heard, Row.snap]
    · rw [Row.age1_of_fresh unheard fresh, Row.snap, unheard]
    · rw [Row.age1_of_young unheard held young, Row.snap, unheard, held]
    · rw [Row.age1_of_old unheard held old, Row.snap]
    · rw [Row.age1_of_absent unheard absent, Row.snap, unheard, absent]

/-! ### The state after reset -/

theorem State.reset_channel (i : Fin 6) : State.reset.fcc.channel i = FanChannel.reset := by
  simp [State.reset, Fcc.reset, Fcc.channel]

/-- No channel is STARTING or in KICK, none runs, and the permit and the run-order list are empty (R120). -/
theorem FansSound.reset : FansSound State.reset := by
  refine ⟨fun i => ?_, ⟨List.nodup_nil, fun i => ?_⟩, fun i => ?_⟩ <;> rw [State.reset_channel]
  · simp [FanChannel.reset, State.reset, Fcc.reset]
  · simp [FanChannel.reset, FanChannel.runningAs, State.reset, Fcc.reset]
  · unfold FanChannel.Sound; decide

theorem FansOfRole.reset : FansOfRole State.reset := fun i inHand => by
  rw [State.reset_channel] at inHand
  exact absurd inHand (by decide)

theorem NothingBeforeLoad.reset : NothingBeforeLoad State.reset := fun _ => ⟨rfl, rfl, rfl, rfl, rfl, rfl, rfl⟩

theorem BusSound.reset : BusSound State.reset :=
  ⟨fun _ => rfl, fun _ => rfl, fun _ => ⟨rfl, rfl⟩, by simp [State.reset, Lsc.reset],
    Nat.zero_le _, Nat.zero_le _, Nat.zero_le _⟩

/-- No flag is live or latched, so the line does not qualify and the cadence is IDLE (R167, R170, R171). -/
theorem LineFollowsCadence.reset : LineFollowsCadence State.reset := by
  have silent : State.reset.aou.qualifies State.reset.enables State.reset.params.selects = false := by decide
  exact ⟨iff_of_true rfl silent, rfl⟩

/-- Settles O55: each invariant at reset; the coil's come from the one that its step lemma keeps. -/
theorem resetMeetsEveryInvariant : Obligations.ResetMeetsEveryInvariant := by
  obtain ⟨coil, roleTimers, frostTimers⟩ := CoilTimed.reset
  obtain ⟨coilProtected, flags, command, ranges⟩ := (coilSound_iff _).1 coil
  exact ⟨⟨by unfold LatchesLive; decide, .reset⟩, ⟨.reset, .reset, fun l hl => nomatch hl⟩,
    ⟨coilProtected, flags, command, .reset, (timersOfState_iff _).2 ⟨roleTimers, frostTimers⟩⟩,
    ⟨.reset, .reset, .silent rfl rfl⟩, Svp.sound_of_empty (p := Svp.reset) (by decide) rfl, ranges,
    (followsBut_nil_iff _).1 (FollowsBut.reset State.reset)⟩

end Sys2Proof.Machine
end

section
/-! PROOFS. Sensors: the comparator, the filter, the reference check and a channel's part of a scan completion, case
by case, and what a scan completion leaves of the alerts (R43 to R61). -/

namespace Sys2Proof.Machine

/-! ### The window comparator (R57) -/

/-- The band in which a comparator's state keeps a value. -/
def Comparator.Holds (low high hyst y : Int) : Comparator → Prop
  | .below => y < low + hyst
  | .inside => low ≤ y ∧ y ≤ high
  | .above => high - hyst < y

/-- A state whose band holds the value is not moved by it (R57). -/
theorem compare_of_holds {low high hyst y : Int} {c : Comparator} (h : c.Holds low high hyst y) :
    compare low high hyst c y = c := by
  cases c with
  | below => exact if_pos h
  | inside => exact (if_neg (Int.not_lt.2 h.1)).trans (if_neg (Int.not_lt.2 h.2))
  | above => exact if_pos h

/-- The nine rows of R57: the state stands in its band, and outside it the limits decide. -/
theorem compare_rows {low high : Int} (ordered : low ≤ high) (hyst y : Int) :
    (y < low → compare low high hyst .inside y = .below)
    ∧ (high < y → compare low high hyst .inside y = .above)
    ∧ (low ≤ y → y ≤ high → compare low high hyst .inside y = .inside)
    ∧ (y < low + hyst → compare low high hyst .below y = .below)
    ∧ (low + hyst ≤ y → high < y → compare low high hyst .below y = .above)
    ∧ (low + hyst ≤ y → y ≤ high → compare low high hyst .below y = .inside)
    ∧ (high - hyst < y → compare low high hyst .above y = .above)
    ∧ (y ≤ high - hyst → y < low → compare low high hyst .above y = .below)
    ∧ (y ≤ high - hyst → low ≤ y → compare low high hyst .above y = .inside) := by
  have left : ∀ {c a b : Comparator} {p q : Prop} [Decidable p] [Decidable q], ¬ p →
      (if p then c else if q then a else b) = if q then a else b := fun h => if_neg h
  exact ⟨fun below => if_pos below, fun above => (left (by omega)).trans (if_pos above),
    fun notBelow notAbove => compare_of_holds (c := .inside) ⟨notBelow, notAbove⟩, fun held => if_pos held,
    fun free above => (left (Int.not_lt.2 free)).trans (if_pos above),
    fun free notAbove => (left (Int.not_lt.2 free)).trans (if_neg (Int.not_lt.2 notAbove)),
    fun held => if_pos held, fun free below => (left (Int.not_lt.2 free)).trans (if_pos below),
    fun free notBelow => (left (Int.not_lt.2 free)).trans (if_neg (Int.not_lt.2 notBelow))⟩

/-- An evaluation ends in a state whose band holds the value (R48, R57). -/
theorem compare_holds {low high : Int} (ordered : low ≤ high) {hyst : Int} (width : 0 ≤ hyst) (c : Comparator)
    (y : Int) : (compare low high hyst c y).Holds low high hyst y := by
  obtain ⟨fall, rise, stay, keepLow, lowRise, lowEnter, keepHigh, highFall, highEnter⟩ :=
    compare_rows ordered hyst y
  cases c with
  | inside =>
    rcases lt_or_ge y low with below | notBelow
    · rw [fall below, Comparator.Holds]; omega
    · rcases lt_or_ge high y with above | notAbove
      · rw [rise above, Comparator.Holds]; omega
      · rw [stay notBelow notAbove]; exact ⟨notBelow, notAbove⟩
  | below =>
    rcases lt_or_ge y (low + hyst) with held | free
    · rw [keepLow held]; exact held
    · rcases lt_or_ge high y with above | notAbove
      · rw [lowRise free above, Comparator.Holds]; omega
      · rw [lowEnter free notAbove]; exact ⟨by omega, notAbove⟩
  | above =>
    rcases lt_or_ge (high - hyst) y with held | free
    · rw [keepHigh held]; exact held
    · rcases lt_or_ge y low with below | notBelow
      · rw [highFall free below, Comparator.Holds]; omega
      · rw [highEnter free notBelow]; exact ⟨notBelow, by omega⟩

/-- Without hysteresis the state says where the value lies, whatever it was before (R57, R58). -/
theorem compare_without_hysteresis {low high : Int} (ordered : low ≤ high) (c : Comparator) (y : Int) :
    compare low high 0 c y = if y < low then .below else if high < y then .above else .inside := by
  have held := compare_holds ordered (Int.le_refl 0) c y
  generalize compare low high 0 c y = r at held
  cases r with
  | below => exact (if_pos (by simpa [Comparator.Holds] using held)).symm
  | inside => rw [if_neg (Int.not_lt.2 held.1), if_neg (Int.not_lt.2 held.2)]
  | above =>
    have above : high < y := by simpa [Comparator.Holds] using held
    rw [if_neg (by omega), if_pos above]

/-- Settles O28: the rows are the table's; the state that an evaluation ends in holds the value in its band, so
that a second one leaves it. -/
theorem comparatorSettlesInOneEvaluation : Obligations.ComparatorSettlesInOneEvaluation := by
  refine ⟨fun low high y hyst ordered => compare_rows ordered hyst y, fun low high y hyst c ordered => ?_⟩
  have held := compare_holds ordered (Int.natCast_nonneg hyst) c y
  have lies : compare low high hyst c y = .inside → low ≤ y ∧ y ≤ high := fun inside => by
    rwa [inside] at held
  refine ⟨compare_of_holds held, lies, fun below inside => Int.not_lt.2 (lies inside).1 below, ?_⟩
  rintro rfl
  rw [Int.natCast_zero, compare_without_hysteresis ordered]
  rcases lt_or_ge y low with below | notBelow
  · have notAbove : ¬ high < y := by omega
    simp [below, notAbove]
  · rcases lt_or_ge high y with above | notAbove
    · simp [above, Int.not_lt.2 notBelow]
    · simp [Int.not_lt.2 notBelow, Int.not_lt.2 notAbove]

/-! ### The filter (R56) -/

/-- The size of the filter's step at a distance `d` between x and y (R56). -/
def filterSize (shift d : Nat) : Nat := (2 * d + 2 ^ shift) / 2 ^ (shift + 1)

theorem filterStep_of_lt {x y : Int} (h : x < y) (shift : Nat) :
    filterStep shift x y = -(filterSize shift (x - y).natAbs : Int) := if_pos h

theorem filterStep_of_ge {x y : Int} (h : y ≤ x) (shift : Nat) :
    filterStep shift x y = (filterSize shift (x - y).natAbs : Int) := if_neg (Int.not_lt.2 h)

theorem filterSize_eq_zero_iff (shift d : Nat) : filterSize shift d = 0 ↔ 2 * d < 2 ^ shift := by
  rw [filterSize, Nat.div_eq_zero_iff, pow_succ]
  have positive : 0 < 2 ^ shift := Nat.two_pow_pos shift
  omega

/-- The step never passes the reading (R56). -/
theorem filterSize_le (shift d : Nat) : filterSize shift d ≤ d := by
  have positive : 0 < 2 ^ shift := Nat.two_pow_pos shift
  refine Nat.lt_succ_iff.1 ((Nat.div_lt_iff_lt_mul (Nat.two_pow_pos _)).2 ?_)
  calc 2 * d + 2 ^ shift
      < 2 * d * 2 ^ shift + 2 ^ shift + 2 ^ shift := by
        have := Nat.le_mul_of_pos_right (2 * d) positive
        omega
    _ = d.succ * 2 ^ (shift + 1) := by rw [pow_succ, Nat.succ_eq_add_one]; ring

theorem filterStep_natAbs (shift : Nat) (x y : Int) :
    (filterStep shift x y).natAbs = filterSize shift (x - y).natAbs := by
  rcases lt_or_ge x y with below | above
  · rw [filterStep_of_lt below, Int.natAbs_neg, Int.natAbs_natCast]
  · rw [filterStep_of_ge above, Int.natAbs_natCast]

/-- A good reading of an OK, seeded channel (R56, R57). -/
theorem Channel.good_seeded {c : Channel} (healthy : c.failed = false) {y : Int} (seeded : c.y = some y)
    (p : ChannelParams) (x : Int) :
    c.good p x = Channel.settle p { c with faultRun := 0 } (y + filterStep p.shift x y) := by
  simp [Channel.good, healthy, seeded]

/-- Settles O27: the step's size is at most the distance, so that y moves toward x and not past it. -/
theorem filterStepsTowardTheReading : Obligations.FilterStepsTowardTheReading := by
  refine ⟨fun p c x y healthy seeded => ?_, fun shift x y => ⟨filterStep_natAbs shift x y, ?_, ?_, ?_⟩⟩
  · rw [Channel.good_seeded healthy seeded, Channel.settle]
  · intro above
    have size := filterSize_le shift (x - y).natAbs
    rw [filterStep_of_ge above]
    omega
  · intro below
    have size := filterSize_le shift (x - y).natAbs
    rcases Int.lt_or_eq_of_le below with below | rfl
    · rw [filterStep_of_lt below]
      omega
    · rw [filterStep_of_ge (Int.le_refl x)]
      omega
  · rw [← Int.natAbs_eq_zero, filterStep_natAbs, filterSize_eq_zero_iff]

/-! ### The reference check (R50) -/

theorem refGood_iff (code : Nat) : refGood code = true ↔ 1950 ≤ code ∧ code ≤ 2146 := by
  simp [refGood]

theorem refCheck_good {code : Nat} (good : refGood code = true) (bad run : Nat) :
    refCheck code false bad run = (false, 0, run) := if_pos good

theorem refCheck_bad {code : Nat} (faulty : refGood code = false) {bad : Nat} (few : bad < 2) (run : Nat) :
    refCheck code false bad run = (false, bad + 1, run) := by
  simp [refCheck, faulty, Nat.not_le.2 few]

/-- The third of three consecutive bad codes sets the flag (R50). -/
theorem refCheck_third_bad {code : Nat} (faulty : refGood code = false) (run : Nat) :
    refCheck code false 2 run = (true, 0, 0) := by
  simp [refCheck, faulty]

theorem refCheck_fault_bad {code : Nat} (faulty : refGood code = false) (bad run : Nat) :
    refCheck code true bad run = (true, bad, 0) := by
  simp [refCheck, faulty]

theorem refCheck_fault_good {code : Nat} (good : refGood code = true) (bad : Nat) {run : Nat} (few : run < 7) :
    refCheck code true bad run = (true, bad, run + 1) := by
  simp [refCheck, good, Nat.not_le.2 few]

/-- The eighth of eight consecutive good codes clears the flag (R50). -/
theorem refCheck_eighth_good {code : Nat} (good : refGood code = true) (bad : Nat) :
    refCheck code true bad 7 = (false, bad, 0) := by
  simp [refCheck, good]

/-! ### The scan completion in the SSC (R49, R59) -/

/-- The fault flag and the runs after a scan completion (R50). -/
def Ssc.checked (c : Ssc) : Bool × Nat × Nat :=
  refCheck (c.refRaw.getD 0).toNat c.fault c.badRun c.refGoodRun

/-- The work of R49 outside the measurement channels. -/
theorem Ssc.complete_reference (p : Vector ChannelParams 7) (c : Ssc) :
    ((c.complete p).fault = c.checked.1 ∧ (c.complete p).badRun = c.checked.2.1
        ∧ (c.complete p).refGoodRun = c.checked.2.2)
      ∧ ((c.complete p).refRaw = c.refRaw ∧ (c.complete p).refValue = some (c.refRaw.getD 0).toNat
        ∧ (c.complete p).refComparator = compare 1950 2146 0 c.refComparator (c.refRaw.getD 0).toNat)
      ∧ (c.complete p).nextChannel = 0 := ⟨⟨rfl, rfl, rfl⟩, ⟨rfl, rfl, rfl⟩, rfl⟩

theorem Ssc.complete_channel (p : Vector ChannelParams 7) (c : Ssc) (i : Fin 7) :
    (c.complete p).channels[i] = c.channels[i].scan p[i] (channelRange i) (c.complete p).fault := by
  fin_cases i <;> rfl

/-- What the scan set publishes: each measurement channel, REF, and the fault flag (R58, R59). -/
theorem Ssc.complete_scanSet (p : Vector ChannelParams 7) (c : Ssc) :
    ∃ set, (c.complete p).scanSet = some set ∧ set.fault = (c.complete p).fault
      ∧ set.channels[7] = ⟨(c.refRaw.getD 0).toNat, !(c.complete p).fault, (c.complete p).refComparator⟩
      ∧ ∀ i : Fin 7, set.channels[i.castSucc] = (c.complete p).channels[i].publish (c.complete p).fault :=
  ⟨_, rfl, rfl, rfl, fun i => by fin_cases i <;> rfl⟩

theorem State.completeScan_of_set {s : State} {set : ScanSet}
    (published : (s.ssc.complete s.params.channels).scanSet = some set) (valveFirst : Bool) :
    s.completeScan valveFirst = s.judgeScan.reportSensors.raiseScan valveFirst set := by
  simp [State.completeScan, published]

theorem State.completeScan_ssc (valveFirst : Bool) (s : State) :
    (s.completeScan valveFirst).ssc = s.ssc.complete s.params.channels := by
  obtain ⟨set, published, -⟩ := Ssc.complete_scanSet s.params.channels s.ssc
  simp [State.completeScan_of_set published, State.reportSensors]

/-- A scan that has run whole is completed (R44, R49). -/
theorem exec_scanCompletion {s : State} (loaded : s.loaded = true) (whole : s.ssc.nextChannel = 8)
    (valveFirst : Bool) : exec (.scanCompletion valveFirst) s = .next (s.completeScan valveFirst) :=
  if_pos ⟨loaded, whole⟩

/-- Settles O26: the flag and the runs after the scan are what the check makes of them, case by case. -/
theorem referenceCheckSetsAndClearsTheFaultFlag : Obligations.ReferenceCheckSetsAndClearsTheFaultFlag := by
  intro valveFirst s loaded whole
  refine ⟨_, exec_scanCompletion loaded whole valveFirst, ?_⟩
  obtain ⟨⟨fault, badRun, goodRun⟩, -⟩ := Ssc.complete_reference s.params.channels s.ssc
  rw [State.completeScan_ssc, fault, badRun, goodRun, Ssc.checked]
  dsimp only
  rw [← refGood_iff, Bool.not_eq_true]
  refine ⟨fun ok good => ?_, fun ok bad few => ?_, fun ok bad third => ?_, fun set bad => ?_,
    fun set good few => ?_, fun set good eighth => ?_⟩
  · rw [ok, refCheck_good good]; exact ⟨rfl, rfl, rfl⟩
  · rw [ok, refCheck_bad bad few]; exact ⟨rfl, rfl, rfl⟩
  · rw [ok, third, refCheck_third_bad bad]; exact ⟨rfl, rfl, rfl⟩
  · rw [set, refCheck_fault_bad bad]; exact ⟨rfl, rfl, rfl⟩
  · rw [set, refCheck_fault_good good _ few]; exact ⟨rfl, rfl, rfl⟩
  · rw [set, eighth, refCheck_eighth_good good]; exact ⟨rfl, rfl, rfl⟩

/-! ### The conversion (R46) -/

/-- A conversion of a measurement channel (R46). -/
theorem Ssc.convert_castSucc (k : Fin 7) (code : BitVec 12) (c : Ssc) : c.convert k.castSucc code = { c with
    channels := c.channels.set k.val { c.channels[k] with raw := some code }
    nextChannel := c.nextChannel + 1 } := dif_pos k.isLt

theorem exec_channelConversion {s : State} (loaded : s.loaded = true) {k : Fin 8} (next : s.ssc.nextChannel = k.val)
    (code : BitVec 12) : exec (.channelConversion k code) s = .next { s with ssc := s.ssc.convert k code } :=
  if_pos ⟨loaded, next.symm⟩

/-- Settles O24: the conversion writes the raw code of its own channel, or REF's, and moves the scan on. -/
theorem conversionStoresTheRawCode : Obligations.ConversionStoresTheRawCode := by
  intro code s loaded
  refine ⟨fun k next => ⟨_, exec_channelConversion loaded (k := k.castSucc) next code, ?_⟩, fun next => ?_⟩
  · rw [Ssc.convert_castSucc, next]
    refine ⟨rfl, Vector.getElem_set_self _, fun j other => Vector.getElem_set_ne k.isLt j.isLt ?_⟩
    exact fun same => other (Fin.ext same.symm)
  · rw [exec_channelConversion loaded (k := 7) next, Ssc.convert, next]
    rfl

/-! ### A channel's reading (R47, R51 to R57) -/

theorem channelRange_eq (i : Fin 7) : channelRange i
    = if i.val ≤ 4 then (-600, 900) else if i.val = 5 then (0, 2000) else (0, 1000) := by
  fin_cases i <;> rfl

theorem channelRange_ordered (i : Fin 7) : (channelRange i).1 ≤ (channelRange i).2 := by
  fin_cases i <;> decide

theorem faultyCode_eq_false_iff (code : Nat) : faultyCode code = false ↔ 16 ≤ code ∧ code ≤ 4079 := by
  simp [faultyCode]
  omega

/-- The engineering value lies in the channel's range (R43, R47). -/
theorem engineering_eq (p : ChannelParams) (i : Fin 7) (code : Nat) :
    let range : Int × Int := if i.val ≤ 4 then (-600, 900) else if i.val = 5 then (0, 2000) else (0, 1000)
    engineering p (channelRange i) code
      = max range.1 (min range.2 (p.offset + Int.fdiv (code * p.span + 2048) 4096)) := by
  rw [engineering, clampInt_eq _ _ _ (channelRange_ordered i), channelRange_eq]

theorem Channel.scan_of_good {c : Channel} (good : faultyCode (c.raw.getD 0).toNat = false) {p : ChannelParams}
    {range : Int × Int} {x : Int} (converted : engineering p range (c.raw.getD 0).toNat = x) :
    c.scan p range false = Channel.good p { c with x := some x } x := by
  subst converted
  simp only [Channel.scan, good, Bool.false_eq_true, if_false]

theorem Channel.scan_of_faulty {c : Channel} (bad : faultyCode (c.raw.getD 0).toNat = true) {p : ChannelParams}
    {range : Int × Int} {x : Int} (converted : engineering p range (c.raw.getD 0).toNat = x) :
    c.scan p range false = Channel.faulty { c with x := some x } := by
  subst converted
  simp only [Channel.scan, bad, Bool.false_eq_true, if_false, if_true]

/-- The first good reading seeds the filter (R55). -/
theorem Channel.good_unseeded {c : Channel} (healthy : c.failed = false) (unseeded : c.y = none) (p : ChannelParams)
    (x : Int) : c.good p x = Channel.settle p { c with faultRun := 0 } x := by
  simp [Channel.good, healthy, unseeded]

theorem Channel.good_recovering {c : Channel} (failed : c.failed = true) (few : c.goodRun < 7) (p : ChannelParams)
    (x : Int) : c.good p x = { c with goodRun := c.goodRun + 1 } := by
  simp [Channel.good, failed, Nat.not_le.2 few]

/-- The eighth good reading clears FAILED and seeds the filter anew (R54, R55). -/
theorem Channel.good_recovered {c : Channel} (failed : c.failed = true) (eighth : c.goodRun = 7) (p : ChannelParams)
    (x : Int) : c.good p x = Channel.settle p { c with failed := false, goodRun := 0 } x := by
  simp [Channel.good, failed, eighth]

theorem Channel.faulty_of_failed {c : Channel} (failed : c.failed = true) : c.faulty = { c with goodRun := 0 } :=
  if_pos failed

theorem Channel.faulty_counted {c : Channel} (healthy : c.failed = false) (few : c.faultRun < 2) :
    c.faulty = { c with faultRun := c.faultRun + 1 } := by
  simp [Channel.faulty, healthy, Nat.not_le.2 few]

/-- The third faulty reading sets FAILED (R53). -/
theorem Channel.faulty_third {c : Channel} (healthy : c.failed = false) (third : c.faultRun = 2) :
    c.faulty = { c with failed := true, faultRun := 0 } := by
  simp [Channel.faulty, healthy, third]

/-- A measurement channel's part of a scan completion, case by case (R47, R49, R51 to R57): what the fault flag
leaves, a good reading and a faulty one, on an OK channel and on a FAILED one. -/
theorem Channel.scan_cases {p : ChannelParams} {range : Int × Int} {c : Channel} {x : Int}
    (converted : engineering p range (c.raw.getD 0).toNat = x) (fault : Bool) :
    let good := 16 ≤ (c.raw.getD 0).toNat ∧ (c.raw.getD 0).toNat ≤ 4079
    let settled := fun y : Int => { c with
      x := some x, y := some y, failed := false
      comparator := compare p.low p.highInForce p.hysteresis c.comparator y }
    let c' := c.scan p range fault
    (fault = true → c' = { c with x := some x })
      ∧ (fault = false → good → c.failed = false →
        (∀ y, c.y = some y → c' = { settled (y + filterStep p.shift x y) with faultRun := 0 })
          ∧ (c.y = none → c' = { settled x with faultRun := 0 }))
      ∧ (fault = false → good → c.failed = true →
        (c.goodRun < 7 → c' = { c with x := some x, goodRun := c.goodRun + 1 })
          ∧ (c.goodRun = 7 → c' = { settled x with goodRun := 0 }))
      ∧ (fault = false → ¬ good → c.failed = false →
        (c.faultRun < 2 → c' = { c with x := some x, faultRun := c.faultRun + 1 })
          ∧ (c.faultRun = 2 → c' = { c with x := some x, failed := true, faultRun := 0 }))
      ∧ (fault = false → ¬ good → c.failed = true → c' = { c with x := some x, goodRun := 0 }) := by
  dsimp only
  rw [← faultyCode_eq_false_iff, Bool.not_eq_false]
  refine ⟨?_, ?_, ?_, ?_, ?_⟩
  · rintro rfl
    rw [← converted]
    rfl
  · rintro rfl good healthy
    rw [Channel.scan_of_good good converted, ← healthy]
    exact ⟨fun y seeded => Channel.good_seeded (c := { c with x := some x }) healthy seeded p x,
      fun unseeded => Channel.good_unseeded (c := { c with x := some x }) healthy unseeded p x⟩
  · rintro rfl good failed
    rw [Channel.scan_of_good good converted]
    exact ⟨fun few => Channel.good_recovering (c := { c with x := some x }) failed few p x,
      fun eighth => Channel.good_recovered (c := { c with x := some x }) failed eighth p x⟩
  · rintro rfl bad healthy
    rw [Channel.scan_of_faulty bad converted]
    exact ⟨fun few => Channel.faulty_counted (c := { c with x := some x }) healthy few,
      fun third => Channel.faulty_third (c := { c with x := some x }) healthy third⟩
  · rintro rfl bad failed
    rw [Channel.scan_of_faulty bad converted]
    exact Channel.faulty_of_failed (c := { c with x := some x }) failed

/-! ### The alerts that a scan completion leaves (R61, R113, R148) -/

/-- The live conditions but for those of `cs` stand. -/
def AlertsBut (cs : List Category) (s t : State) : Prop :=
  ∀ c, c ∉ cs → hasAlert t.aou.live c = hasAlert s.aou.live c

theorem AlertsBut.refl (cs : List Category) (s : State) : AlertsBut cs s s := fun _ _ => rfl

theorem AlertsBut.trans {cs : List Category} {s t u : State} (h : AlertsBut cs s t) (h' : AlertsBut cs t u) :
    AlertsBut cs s u := fun c hc => (h' c hc).trans (h c hc)

theorem AlertsBut.same {cs : List Category} {s t : State} (aou : t.aou = s.aou) : AlertsBut cs s t :=
  fun _ _ => by rw [aou]

/-- The frost monitor's own conditions. -/
abbrev frostCategories : List Category := [.frostGuard, .frostTrip]

theorem AlertsBut.frostAlerts (s : State) : AlertsBut frostCategories s s.frostAlerts := fun c hc => by
  obtain ⟨guard, trip⟩ : c ≠ .frostGuard ∧ c ≠ .frostTrip := by simpa using hc
  rw [State.frostAlerts, State.reportLive_live, hasAlert_putAlert, if_neg trip, hasAlert_putAlert, if_neg guard]

theorem AlertsBut.cfmReport (s : State) : AlertsBut frostCategories s s.cfmReport := by
  unfold State.cfmReport
  split
  · split
    · exact .refl _ s
    · have stopped : AlertsBut frostCategories s s.suspendCfm.stopFrostTimers := .same rfl
      exact (stopped.trans (.frostAlerts _)).trans (.same rfl)
  · exact .same rfl

theorem AlertsBut.changeRole (cause : RoleCause) (new : Role) (drained : Bool) (s : State) :
    AlertsBut frostCategories s (s.changeRole cause new drained) := by
  have reported : AlertsBut frostCategories s (s.enterRole cause new drained).vdrReport.fccReport := .same (by simp)
  exact reported.trans (.cfmReport _)

theorem AlertsBut.setFrost (new : FrostState) (s : State) : AlertsBut frostCategories s (s.setFrost new) := by
  have announced : AlertsBut frostCategories s (s.announceFrost new) :=
    (AlertsBut.frostAlerts (s.putFrost new)).trans (.same rfl)
  unfold State.setFrost State.frostRole
  split
  · exact announced.trans (.changeRole _ _ _ _)
  · split
    · exact announced.trans (.changeRole _ _ _ _)
    · exact announced

theorem AlertsBut.evaluate (set : ScanSet) (s : State) : AlertsBut frostCategories s (s.evaluate set) := by
  have timed : ∀ {t : State} (new : FrostState), t.aou = s.aou → AlertsBut frostCategories s (t.setFrost new) :=
    fun new aou => (AlertsBut.same aou).trans (.setFrost new _)
  unfold State.evaluate
  split
  · exact timed .protect rfl
  · split
    · split
      · exact timed .guard rfl
      · exact .refl _ s
    · unfold State.watchGuard
      split
      · exact .same rfl
      · split
        · exact timed .clear rfl
        · exact .refl _ s
    · split
      · exact timed .recover rfl
      · exact .refl _ s
    · exact .refl _ s

theorem AlertsBut.frostScan (set : ScanSet) (s : State) : AlertsBut frostCategories s (s.frostScan set) := by
  unfold State.frostScan
  split
  · exact .refl _ s
  · have watched : ∀ t : State, (t.watchFlow set).aou = t.aou := fun t => by
      unfold State.watchFlow
      split <;> simp
    exact (AlertsBut.evaluate set s).trans (.same (watched _))

theorem AlertsBut.valveScan (set : ScanSet) (s : State) : AlertsBut [.valveStuck] s (s.valveScan set) := fun c hc => by
  have other : c ≠ .valveStuck := by simpa using hc
  rw [State.valveScan, State.reportStuck, State.report, State.reportLive_live, hasAlert_putAlert, if_neg other]
  rfl

theorem AlertsBut.weaken {cs ds : List Category} {s t : State} (h : AlertsBut cs s t) (sub : cs ⊆ ds) :
    AlertsBut ds s t := fun c hc => h c fun hm => hc (sub hm)

/-- The monitor and the valve report their own conditions alone at a scan completion, in either order (R60). -/
theorem AlertsBut.raiseScan (valveFirst : Bool) (set : ScanSet) (s : State) :
    AlertsBut [.frostGuard, .frostTrip, .valveStuck] s (s.raiseScan valveFirst set) := by
  have frost := fun u : State => (AlertsBut.frostScan set u).weaken
    (ds := [.frostGuard, .frostTrip, .valveStuck]) (by simp)
  have valve := fun u : State => (AlertsBut.valveScan set u).weaken
    (ds := [.frostGuard, .frostTrip, .valveStuck]) (by simp)
  unfold State.raiseScan
  split
  · exact (valve s).trans (frost _)
  · exact (frost s).trans (valve _)

/-- SENSOR_FAIL and CONVERTER_FAULT after a scan completion (R61). -/
theorem State.completeScan_alerts (valveFirst : Bool) (s : State) :
    hasAlert (s.completeScan valveFirst).aou.live .sensorFail = (s.ssc.complete s.params.channels).anyFailed
      ∧ hasAlert (s.completeScan valveFirst).aou.live .converterFault
        = (s.ssc.complete s.params.channels).fault := by
  obtain ⟨set, published, -⟩ := Ssc.complete_scanSet s.params.channels s.ssc
  have raised := AlertsBut.raiseScan valveFirst set s.judgeScan.reportSensors
  rw [State.completeScan_of_set published, raised .sensorFail (by decide), raised .converterFault (by decide),
    State.reportSensors, State.reportLive_live]
  simp

theorem State.completeScan_eq (valveFirst : Bool) (s : State) : s.completeScan valveFirst = { s with
    ssc := (s.completeScan valveFirst).ssc
    cfm := (s.completeScan valveFirst).cfm
    fde := (s.completeScan valveFirst).fde
    fcc := (s.completeScan valveFirst).fcc
    vdr := (s.completeScan valveFirst).vdr
    itb := (s.completeScan valveFirst).itb
    aou := (s.completeScan valveFirst).aou } := by
  have frame := State.completeScan_frame valveFirst s
  generalize s.completeScan valveFirst = t at frame
  cases t
  simp_all

/-- Settles O25: each channel by the cases of its scan, REF by its own comparator, and the set and the alerts by
what the SSC then holds. -/
theorem scanCompletionJudgesEveryChannel : Obligations.ScanCompletionJudgesEveryChannel := by
  intro valveFirst s loaded whole
  obtain ⟨set, published, fault, reference, measured⟩ := Ssc.complete_scanSet s.params.channels s.ssc
  obtain ⟨-, ⟨refRaw, refValue, refComparator⟩, next⟩ := Ssc.complete_reference s.params.channels s.ssc
  obtain ⟨sensorFail, converterFault⟩ := State.completeScan_alerts valveFirst s
  have channel := Ssc.complete_channel s.params.channels s.ssc
  refine ⟨_, set, exec_scanCompletion loaded whole valveFirst, ?_, State.completeScan_eq valveFirst s, ?_⟩
  · rw [State.completeScan_ssc, published]
  rw [State.completeScan_ssc, sensorFail]
  generalize s.ssc.complete s.params.channels = c at *
  refine ⟨next, fault, Ssc.anyFailed_iff c, converterFault, ?_, fun i => ?_⟩
  · rw [reference, refComparator, compare_without_hysteresis (by decide)]
    have place : (if ((s.ssc.refRaw.getD 0).toNat : Int) < 1950 then Comparator.below
        else if (2146 : Int) < (s.ssc.refRaw.getD 0).toNat then .above else .inside)
      = if (s.ssc.refRaw.getD 0).toNat < 1950 then .below
        else if 2146 < (s.ssc.refRaw.getD 0).toNat then .above else .inside := by norm_cast
    rw [place]
    exact ⟨refRaw, refValue, rfl, rfl⟩
  · have cases := Channel.scan_cases (engineering_eq s.params.channels[i] i (s.ssc.channels[i].raw.getD 0).toNat)
      c.fault
    rw [← channel i] at cases
    obtain ⟨discarded, good, goodFailed, bad, badFailed⟩ := cases
    exact ⟨discarded, good, goodFailed, bad, badFailed, measured i⟩

end Sys2Proof.Machine
end

section
/-! PROOFS. The image read: how each image ends it, and the parameters that an accepted one gives by the table of R176
(R48, R151, R173 to R176). -/

namespace Sys2Proof.Machine

/-! ### The read, byte by byte (R174) -/

theorem Cfl.readByte_of_done {c : Cfl} (done : c.state = .done) (b : Byte) : c.readByte b = c := if_pos done

/-- Bytes after the end of the read are not taken (R174). -/
theorem Cfl.read_of_done {c : Cfl} (done : c.state = .done) (bytes : List Byte) : c.read bytes = c := by
  induction bytes with
  | nil => rfl
  | cons b bytes ih => rw [Cfl.read, List.foldl_cons, Cfl.readByte_of_done done]; exact ih

/-- A byte past the header counts the limit down, and the last one ends the read with the sum test (R174). -/
theorem Cfl.readByte_of_body {c : Cfl} (loading : c.state = .loading) (body : 3 ≤ c.pointer) (b : Byte) :
    c.readByte b = (let d := { c with image := c.image ++ [b], pointer := c.pointer + 1, limit := c.limit - 1 }
      if d.limit = 0 then d.finish (if sumMatches d.image then .accepted else .sum) else d) := by
  have first : c.pointer ≠ 0 := by omega
  have second : c.pointer ≠ 1 := by omega
  have third : c.pointer ≠ 2 := by omega
  simp [Cfl.readByte, loading, first, second, third]

/-- The bytes that the length still asks for end the read with the sum test (R174). -/
theorem Cfl.read_body {rest : List Byte} {c : Cfl} (loading : c.state = .loading) (body : 3 ≤ c.pointer)
    (more : rest ≠ []) (counted : rest.length = c.limit) : c.read rest = { c with
      state := .done
      pointer := c.pointer + rest.length
      limit := 0
      image := c.image ++ rest
      outcome := some (if sumMatches (c.image ++ rest) then .accepted else .sum) } := by
  induction rest generalizing c with
  | nil => exact absurd rfl more
  | cons b rest ih =>
    have left : c.limit - 1 = rest.length := by rw [← counted]; rfl
    rw [Cfl.read, List.foldl_cons, Cfl.readByte_of_body loading body, left]
    cases rest with
    | nil => rfl
    | cons b' rest =>
      have step := ih (c := { c with image := c.image ++ [b], pointer := c.pointer + 1, limit := (b' :: rest).length })
        loading (Nat.le_succ_of_le body) (List.cons_ne_nil _ _) rfl
      rw [if_neg (by simp)]
      refine step.trans ?_
      simp [Nat.add_assoc, Nat.add_comm]

/-- A wrong marker ends the read at its first byte (R174). -/
theorem Cfl.read_marker {b : Byte} (wrong : b ≠ 0x4E) (rest : List Byte) :
    Cfl.reset.read (b :: rest) = ⟨.done, 1, 0, [b], false, some .marker⟩ := by
  have first : Cfl.reset.readByte b = ⟨.done, 1, 0, [b], false, some .marker⟩ := if_neg wrong
  rw [Cfl.read, List.foldl_cons, first]
  exact Cfl.read_of_done rfl rest

/-- A length out of its range ends the read at its third byte (R174). -/
theorem Cfl.read_length {b : Byte} (wrong : ¬ (48 ≤ b.toNat ∧ b.toNat ≤ 240)) (version : Byte) (rest : List Byte) :
    Cfl.reset.read (0x4E :: version :: b :: rest)
      = ⟨.done, 3, 0, [0x4E, version, b], false, some .length⟩ := by
  have third : Cfl.readByte ⟨.loading, 2, 0, [0x4E, version], false, none⟩ b
      = ⟨.done, 3, 0, [0x4E, version, b], false, some .length⟩ := if_neg wrong
  refine Eq.trans ?_ (Cfl.read_of_done (c := ⟨.done, 3, 0, [0x4E, version, b], false, some .length⟩) rfl rest)
  exact congrArg (Cfl.read rest) third

/-- A good marker and length leave the rest of the image to read (R174). -/
theorem Cfl.read_header {b : Byte} (right : 48 ≤ b.toNat ∧ b.toNat ≤ 240) (version : Byte) (rest : List Byte) :
    Cfl.reset.read (0x4E :: version :: b :: rest)
      = Cfl.read rest ⟨.loading, 3, b.toNat - 3, [0x4E, version, b], false, none⟩ := by
  have third : Cfl.readByte ⟨.loading, 2, 0, [0x4E, version], false, none⟩ b
      = ⟨.loading, 3, b.toNat - 3, [0x4E, version, b], false, none⟩ := if_pos right
  exact congrArg (Cfl.read rest) third

theorem exists_header {bytes : List Byte} (long : 3 ≤ bytes.length) (marker : byteAt bytes 0 = 0x4E) :
    ∃ version b rest, bytes = 0x4E :: version :: b :: rest := by
  match bytes, long with
  | first :: version :: b :: rest, _ => exact ⟨version, b, rest, by rw [show first = 0x4E from marker]⟩

/-- A whole image with its marker and length right is read to its end, and the sum decides (R174). -/
theorem Cfl.read_image {bytes : List Byte} (low : 48 ≤ bytes.length) (high : bytes.length ≤ 240)
    (marker : byteAt bytes 0 = 0x4E) (length : (byteAt bytes 2).toNat = bytes.length) : Cfl.reset.read bytes
      = ⟨.done, bytes.length, 0, bytes, false, some (if sumMatches bytes then .accepted else .sum)⟩ := by
  obtain ⟨version, b, rest, rfl⟩ := exists_header (by omega) marker
  have size : b.toNat = rest.length + 3 := length
  rw [List.length_cons, List.length_cons, List.length_cons] at low high
  have more : rest ≠ [] := by
    rintro rfl
    simp at low
  rw [Cfl.read_header (by omega), Cfl.read_body rfl (Nat.le_refl 3) more (by dsimp only; omega)]
  simp [Nat.add_comm 3]

theorem sumMatches_iff {bytes : List Byte} (length : (byteAt bytes 2).toNat = bytes.length) :
    sumMatches bytes = true
      ↔ byteSum (bytes.take (bytes.length - 2)) % 65536 = (wordAt bytes (bytes.length - 2)).toNat := by
  rw [sumMatches, imageLength, length, beq_iff_eq]

/-! ### The parameters of an accepted image (R175, R176) -/

/-- The number that an image gives at an offset, clamped to its range, or the default (R175, R176). -/
def imageField (bytes : List Byte) (off width : Nat) (signed : Bool) (lo hi dflt : Int) : Int :=
  let u : Int := if width = 1 then (bytes.getD off 0).toNat
    else 256 * (bytes.getD off 0).toNat + (bytes.getD (off + 1) 0).toNat
  let v := if signed = true ∧ 32768 ≤ u then u - 65536 else u
  if off + width + 2 ≤ bytes.length then max lo (min hi v) else dflt

/-- The mask that an image gives at an offset, or the default (R176). -/
def imageMask (bytes : List Byte) (off : Nat) (dflt : AlertMask) : AlertMask :=
  if off + 4 ≤ bytes.length then (bytes.getD off 0 ++ bytes.getD (off + 1) 0).setWidth 12 else dflt

/-- Two's complement by the value of the two bytes (R176). -/
theorem wordAt_toInt (cs : List Byte) (i : Nat) : (wordAt cs i).toInt
    = if 32768 ≤ 256 * ((cs.getD i 0).toNat : Int) + (cs.getD (i + 1) 0).toNat then
        256 * ((cs.getD i 0).toNat : Int) + (cs.getD (i + 1) 0).toNat - 65536
      else 256 * ((cs.getD i 0).toNat : Int) + (cs.getD (i + 1) 0).toNat := by
  rw [BitVec.toInt_eq_toNat_cond, wordAt_toNat]
  split <;> split <;> omega

/-- A byte clamped to 0 … 1 is a yes or no (R176). -/
theorem param8_toNat (img : List Byte) (off : Nat) : (param8 img off 0 1 0 == 1).toNat = param8 img off 0 1 0 := by
  have bound := (param8_mem (Nat.zero_le 0) (Nat.zero_le 1) img off).2
  interval_cases param8 img off 0 1 0 <;> rfl

section
variable {bytes : List Byte} (length : imageLength bytes = bytes.length)
include length

theorem imageHolds_iff (off width : Nat) : imageHolds bytes off width = true ↔ off + width + 2 ≤ bytes.length := by
  rw [imageHolds, length, decide_eq_true_eq]

theorem param8_eq_imageField {lo hi : Nat} (range : lo ≤ hi) (off dflt : Nat) :
    (param8 bytes off lo hi dflt : Int) = imageField bytes off 1 false lo hi dflt := by
  rw [param8, clampNat_eq lo hi _ range]
  simp only [imageHolds_iff length, imageField, byteAt, Bool.false_eq_true, false_and, if_true, if_false]
  split <;> simp

theorem param16_eq_imageField {lo hi : Nat} (range : lo ≤ hi) (off dflt : Nat) :
    (param16 bytes off lo hi dflt : Int) = imageField bytes off 2 false lo hi dflt := by
  rw [param16, clampNat_eq lo hi _ range, wordAt_toNat]
  simp only [imageHolds_iff length, imageField, Bool.false_eq_true, false_and, if_false, OfNat.ofNat_ne_one]
  split <;> simp

theorem paramSigned_eq_imageField {lo hi : Int} (range : lo ≤ hi) (off : Nat) (dflt : Int) :
    paramSigned bytes off lo hi dflt = imageField bytes off 2 true lo hi dflt := by
  rw [paramSigned, clampInt_eq lo hi _ range, wordAt_toInt]
  simp only [imageHolds_iff length, imageField, true_and, if_false, OfNat.ofNat_ne_one]

theorem paramMask_eq_imageMask (off : Nat) (dflt : AlertMask) :
    paramMask bytes off dflt = imageMask bytes off dflt := by
  simp only [paramMask, imageHolds_iff length, imageMask, wordAt, word16, byteAt,
    BitVec.setWidth_eq_extractLsb' (by decide : 12 ≤ 8 + 8)]

theorem paramChannel_fields (i : Fin 7) (dflt : ChannelParams) :
    let c := paramChannel bytes i dflt
    let at0 := 61 + 10 * i.val
    let r := channelRange i
    let field := imageField bytes
    [c.offset, c.span, c.low, c.high, (c.shift : Int), c.hysteresis]
      = [field at0 2 true (-32768) 32767 dflt.offset, field (at0 + 2) 2 true (-32768) 32767 dflt.span,
        field (at0 + 4) 2 true r.1 r.2 dflt.low, field (at0 + 6) 2 true r.1 r.2 dflt.high,
        field (at0 + 8) 1 false 0 3 dflt.shift, field (at0 + 9) 1 false 0 255 dflt.hysteresis] := by
  have word := fun {lo hi : Int} (range : lo ≤ hi) => paramSigned_eq_imageField length range
  have ordered := channelRange_ordered i
  simp only [List.cons.injEq, and_true]
  exact ⟨word (by decide) _ _, word (by decide) _ _, word ordered _ _, word ordered _ _,
    param8_eq_imageField length (by decide) _ _, param8_eq_imageField length (by decide) _ _⟩

theorem paramTimer_fields (i : Fin 10) (dflt : TimerParams) :
    [((paramTimer bytes i dflt).p : Int), (paramTimer bytes i dflt).c]
      = [imageField bytes (131 + 3 * i.val) 1 false 1 64 dflt.p,
        imageField bytes (132 + 3 * i.val) 2 false 1 256 dflt.c] := by
  simp only [List.cons.injEq, and_true]
  exact ⟨param8_eq_imageField length (by decide) _ _, param16_eq_imageField length (by decide) _ _⟩

/-- The parameters of an accepted image are the table's, row by row (R48, R151, R176). -/
theorem Params.ofImage_followTable :
    (Params.ofImage bytes).FollowTable (imageField bytes) (imageMask bytes) := by
  have n8 := fun {lo hi off dflt : Nat} (range : lo ≤ hi) => param8_eq_imageField length range off dflt
  have n16 := fun {lo hi off dflt : Nat} (range : lo ≤ hi) => param16_eq_imageField length range off dflt
  have s16 := fun {lo hi dflt : Int} {off : Nat} (range : lo ≤ hi) => paramSigned_eq_imageField length range off dflt
  unfold Params.FollowTable
  refine ⟨?_, ?_, ?_, ?_, ?_, paramMask_eq_imageMask length _ _, paramMask_eq_imageMask length _ _, fun i => ?_,
    fun i => ?_⟩
  · simp only [List.cons.injEq, and_true]
    refine ⟨n8 ?_, n8 ?_, n8 ?_, n8 ?_, n8 ?_, n8 ?_, n8 ?_⟩
    all_goals decide
  · simp only [List.cons.injEq, and_true]
    refine ⟨n8 ?_, n8 ?_, n8 ?_, n8 ?_, n8 ?_, ?_, n8 ?_, n8 ?_, n8 ?_⟩
    case refine_6 => exact (congrArg Nat.cast (param8_toNat bytes 15)).trans (n8 (Nat.zero_le 1))
    all_goals decide
  · simp only [List.cons.injEq, and_true]
    refine ⟨n16 ?_, n16 ?_, n16 ?_, n16 ?_, n16 ?_, n16 ?_, n16 ?_, n16 ?_⟩
    all_goals decide
  · simp only [List.cons.injEq, and_true]
    refine ⟨s16 ?_, n16 ?_, n16 ?_, n16 ?_, n16 ?_, n16 ?_, n16 ?_⟩
    all_goals decide
  · simp only [List.cons.injEq, and_true]
    refine ⟨s16 ?_, s16 ?_, s16 ?_, s16 ?_⟩
    all_goals decide
  · have fields := paramChannel_fields length i defaultChannels[i]
    fin_cases i <;> exact fields
  · have fields := paramTimer_fields length i defaultTimers[i]
    fin_cases i <;> exact fields

end

/-- The defaults are those of the table (R48, R151, R176). -/
theorem Params.default_followTable :
    Params.default.FollowTable (fun _ _ _ _ _ dflt => dflt) (fun _ dflt => dflt) := by
  unfold Params.FollowTable
  decide

/-! ### Load completion after the read (R175) -/

/-- A read that has ended is completed in every block (R174, R175). -/
theorem exec_configurationLoadCompletion {s : State} (released : s.released = true) (unloaded : s.loaded = false)
    {ok : Bool} {bytes : List Byte} (done : (s.cfl.complete ok bytes).state = .done) :
    exec (.configurationLoadCompletion ok bytes) s
      = .next (State.completeLoad { s with cfl := (s.cfl.complete ok bytes).judge }) := by
  simp only [exec, execConfigurationLoadCompletion, released, unloaded, done]
  rfl

theorem Cfl.complete_of_done {c : Cfl} (done : c.state = .done) (ok : Bool) (bytes : List Byte) :
    c.complete ok bytes = c := if_pos done

theorem State.completeLoad_configDefault (s : State) :
    hasAlert s.completeLoad.aou.live .configDefault = s.cfl.defaults := by
  rw [State.completeLoad_live, hasAlert_putAlert, if_pos rfl]

/-- Settles O6: the read of a whole image ends ACCEPTED with the image as read, and the parameters handed out are
those that the table makes of it. -/
theorem goodImageIsAccepted : Obligations.GoodImageIsAccepted := by
  intro bytes s released unloaded reset low high marker length sum at0 field mask
  have read : s.cfl.complete true bytes = ⟨.done, bytes.length, 0, bytes, false, some .accepted⟩ := by
    rw [reset]
    refine (Cfl.read_image low high marker length).trans ?_
    rw [if_pos ((sumMatches_iff length).2 sum)]
  have done : (s.cfl.complete true bytes).state = .done := by rw [read]
  refine ⟨_, exec_configurationLoadCompletion released unloaded done, ?_⟩
  rw [read]
  generalize loaded : ({ s with cfl := (⟨.done, bytes.length, 0, bytes, false, some .accepted⟩ : Cfl).judge } : State)
    = u
  have image : u.cfl = ⟨.done, bytes.length, 0, bytes, false, some .accepted⟩ := by rw [← loaded]; rfl
  obtain ⟨on, params, -⟩ := State.completeLoad_blocks u
  have cfl : u.completeLoad.cfl = u.cfl := (State.completeLoad_frame u).2.2.1
  refine ⟨on, ?_, cfl.trans image, ?_⟩
  · rw [params, image]
    exact Params.ofImage_followTable length
  · rw [State.completeLoad_configDefault, image]

/-- Every image that is not accepted ends the read with its outcome (R174). -/
theorem Cfl.complete_reset_of_bad {acknowledged : Bool} {bytes : List Byte} {outcome : LoadOutcome}
    (bad : (acknowledged = false ∧ outcome = .noAck)
      ∨ (acknowledged = true ∧ bytes ≠ [] ∧ byteAt bytes 0 ≠ 0x4E ∧ outcome = .marker)
      ∨ (acknowledged = true ∧ 3 ≤ bytes.length ∧ byteAt bytes 0 = 0x4E
        ∧ ((byteAt bytes 2).toNat < 48 ∨ 240 < (byteAt bytes 2).toNat) ∧ outcome = .length)
      ∨ (acknowledged = true ∧ 48 ≤ bytes.length ∧ bytes.length ≤ 240 ∧ byteAt bytes 0 = 0x4E
        ∧ (byteAt bytes 2).toNat = bytes.length
        ∧ byteSum (bytes.take (bytes.length - 2)) % 65536 ≠ (wordAt bytes (bytes.length - 2)).toNat
        ∧ outcome = .sum)) :
    (Cfl.reset.complete acknowledged bytes).state = .done
      ∧ (Cfl.reset.complete acknowledged bytes).outcome = some outcome ∧ outcome ≠ .accepted := by
  have read : ∀ {c}, Cfl.reset.read bytes = c → Cfl.reset.complete true bytes = c := fun h => h
  rcases bad with ⟨rfl, rfl⟩ | ⟨rfl, nonempty, wrong, rfl⟩ | ⟨rfl, long, marker, wrong, rfl⟩
    | ⟨rfl, low, high, marker, length, wrong, rfl⟩
  · exact ⟨rfl, rfl, by decide⟩
  · obtain ⟨b, rest, rfl⟩ := List.exists_cons_of_ne_nil nonempty
    rw [read (Cfl.read_marker wrong rest)]
    exact ⟨rfl, rfl, by decide⟩
  · obtain ⟨version, b, rest, rfl⟩ := exists_header long marker
    have outside : ¬ (48 ≤ b.toNat ∧ b.toNat ≤ 240) := fun h => by
      rcases wrong with below | above
      · exact Nat.not_lt.2 h.1 below
      · exact Nat.not_lt.2 h.2 above
    rw [read (Cfl.read_length outside version rest)]
    exact ⟨rfl, rfl, by decide⟩
  · rw [read (Cfl.read_image low high marker length), if_neg fun h => wrong ((sumMatches_iff length).1 h)]
    exact ⟨rfl, rfl, by decide⟩

/-- Settles O7: an outcome other than ACCEPTED, however the read ended with it, raises the defaults flag at the
completion, and the defaults and the alert follow it. -/
theorem badImageTakesTheDefaults : Obligations.BadImageTakesTheDefaults := by
  intro acknowledged bytes outcome s released unloaded latches ended
  obtain ⟨done, result, refused⟩ : (s.cfl.complete acknowledged bytes).state = .done
      ∧ (s.cfl.complete acknowledged bytes).outcome = some outcome ∧ outcome ≠ .accepted := by
    rcases ended with ⟨done, result, refused⟩ | ⟨reset, bad⟩
    · rw [Cfl.complete_of_done done]
      exact ⟨done, result, refused⟩
    · rw [reset]
      exact Cfl.complete_reset_of_bad bad
  refine ⟨_, exec_configurationLoadCompletion released unloaded done, ?_⟩
  have defaults : (s.cfl.complete acknowledged bytes).judge.defaults = true := by
    simp [Cfl.judge, result, refused]
  generalize (s.cfl.complete acknowledged bytes) = c at *
  have latched := State.completeLoad_latched (s := { s with cfl := c.judge }) latches
  generalize loaded : ({ s with cfl := c.judge } : State) = u at *
  have image : u.cfl = c.judge := by rw [← loaded]
  obtain ⟨on, params, -⟩ := State.completeLoad_blocks u
  have cfl : u.completeLoad.cfl = u.cfl := (State.completeLoad_frame u).2.2.1
  have standard : u.completeLoad.params = Params.default := by rw [params, image, Cfl.params, if_pos defaults]
  have live : hasAlert u.completeLoad.aou.live .configDefault = true := by
    rw [State.completeLoad_configDefault, image, defaults]
  rw [cfl, image, standard]
  refine ⟨on, Params.default_followTable, rfl, done, result, defaults, live, ?_⟩
  rw [latched, hasAlert_or, live, Bool.or_true]

end Sys2Proof.Machine
end

section
/-! PROOFS. Fans kept: the permit, the run-order list, the channels' records and the classes in hand, under each
operation of the FCC (R115, R120, R122 to R139). -/

namespace Sys2Proof.Machine

/-- STARTING or KICK: the states of the channel that holds the permit (R127). -/
def FanChannel.starts (c : FanChannel) : Bool := c.state == .starting || c.state == .kick

theorem FanChannel.not_runningAs_of_starts {c : FanChannel} (h : c.starts = true) (cls : FanClass) :
    c.runningAs cls = false := by
  simp only [FanChannel.starts, Bool.or_eq_true, beq_iff_eq] at h
  rcases h with h | h <;> simp [FanChannel.runningAs, h]

theorem FanChannel.inHand_of_turning {c : FanChannel} (h : c.turning = true) : c.inHand = true := by
  simp only [FanChannel.turning, FanChannel.inHand, Bool.or_eq_true] at h ⊢
  tauto

theorem FanChannel.inHand_of_starts {c : FanChannel} (h : c.starts = true) : c.inHand = true := by
  simp only [FanChannel.starts, FanChannel.inHand, Bool.or_eq_true] at h ⊢
  tauto

/-- Only KICK has a phase (R131). -/
theorem FanChannel.Sound.phase_none {c : FanChannel} (h : c.Sound) (state : c.state ≠ .kick) : c.phase = none :=
  not_not.1 fun hp => state (h.2.1.2 hp)

/-- A pass over channels, each of whose steps replaces one record by a function of it. -/
theorem Fcc.channel_foldl {op : Fcc → Fin 6 → Fcc} {g : FanChannel → FanChannel}
    (step : ∀ (f : Fcc) i j, (op f i).channel j = if j = i then g (f.channel i) else f.channel j)
    {l : List (Fin 6)} (nodup : l.Nodup) (f : Fcc) (j : Fin 6) :
    (l.foldl op f).channel j = if j ∈ l then g (f.channel j) else f.channel j := by
  induction l generalizing f with
  | nil => simp
  | cons i l ih =>
    obtain ⟨fresh, rest⟩ := List.nodup_cons.1 nodup
    rw [List.foldl_cons, ih rest, step]
    by_cases hj : j = i
    · subst hj; simp [fresh]
    · simp [hj]

/-- A forcing sets OFF the channels in hand that its test selects, and no other (R115, R133). -/
theorem Fcc.channel_forceOff (sel : FanChannel → Bool) (f : Fcc) (i : Fin 6) : (f.forceOff sel).channel i
    = if ((f.channel i).inHand && sel (f.channel i)) = true then (f.channel i).toOff else f.channel i := by
  refine (Fcc.channel_foldl (g := fun c => if (c.inHand && sel c) = true then c.toOff else c)
    (fun f i j => ?_) (by decide) f i).trans (if_pos (mem_fanChannels i))
  unfold Fcc.forceOne
  split
  · exact Fcc.channel_off i j f
  · split
    · next same => rw [same]
    · rfl

/-- The permit, the run-order list and the record agree about channel i (R120, R122, R127). -/
structure Fcc.SoundAt (f : Fcc) (i : Fin 6) : Prop where
  permit : (f.channel i).starts = true ↔ f.permit = some i
  listed : i ∈ f.runOrder ↔ (f.channel i).runningAs .duty = true
  record : (f.channel i).Sound

/-- What the FCC keeps, where the classes of the channels in hand are those that `P` allows. -/
structure Fcc.Kept (P : Option FanClass → Prop) (f : Fcc) : Prop where
  nodup : f.runOrder.Nodup
  sound : ∀ i, f.SoundAt i
  hand : ∀ i, (f.channel i).inHand = true → P (f.channel i).cls

/-- The classes that a channel may have in hand in a role and frost state (R115, R133 to R137). -/
def AllowedClass (r : Role) (z : FrostState) (cls : Option FanClass) : Prop :=
  (r = .carrying ∨ r = .shedding ∨ (r = .resting ∧ cls = some .exercise))
    ∧ (cls = some .exercise → z = .clear)

/-- `Fcc.Kept` is what the Safety predicates of the fans say together. -/
theorem fcc_kept_iff (s : State) :
    s.fcc.Kept (AllowedClass s.fde.role s.cfm.frost) ↔ FansSound s ∧ FansOfRole s := by
  have starts : ∀ c : FanChannel, c.starts = true ↔ c.state = .starting ∨ c.state = .kick := by
    simp [FanChannel.starts]
  constructor
  · rintro ⟨nodup, sound, hand⟩
    exact ⟨⟨fun i => (starts _).symm.trans (sound i).permit, ⟨nodup, fun i => (sound i).listed⟩,
      fun i => (sound i).record⟩, hand⟩
  · rintro ⟨⟨permit, ⟨nodup, listed⟩, record⟩, hand⟩
    exact ⟨nodup, fun i => ⟨(starts _).trans (permit i), listed i, record i⟩, hand⟩

/-- A release of the permit by one channel (R128). -/
theorem Fcc.permit_release (i : Fin 6) (f : Fcc) (j : Fin 6) :
    (f.release i).permit = some j ↔ f.permit = some j ∧ j ≠ i := by
  rw [Fcc.release_permit]
  by_cases held : f.permit = some i
  · simp [held, eq_comm]
  · rw [if_neg held]
    exact ⟨fun h => ⟨h, fun e => held (e ▸ h)⟩, And.left⟩

namespace Fcc.Kept
variable {P Q : Option FanClass → Prop} {f : Fcc}

/-- A wider allowance. -/
theorem mono (h : f.Kept P) (wider : ∀ cls, P cls → Q cls) : f.Kept Q :=
  ⟨h.nodup, h.sound, fun i hi => wider _ (h.hand i hi)⟩

/-! ### One channel at a time -/

/-- An operation that touches one channel alone, and leaves it sound and of an allowed class. -/
theorem change (h : f.Kept P) {g : Fcc} {i : Fin 6} (channel : ∀ j, j ≠ i → g.channel j = f.channel j)
    (permit : ∀ j, j ≠ i → (g.permit = some j ↔ f.permit = some j))
    (list : ∀ j, j ≠ i → (j ∈ g.runOrder ↔ j ∈ f.runOrder)) (nodup : g.runOrder.Nodup) (sound : g.SoundAt i)
    (hand : (g.channel i).inHand = true → P (g.channel i).cls) : g.Kept P := by
  refine ⟨nodup, fun j => ?_, fun j hj => ?_⟩
  · by_cases hji : j = i
    · exact hji ▸ sound
    · obtain ⟨hp, hl, hr⟩ := h.sound j
      rw [← channel j hji] at hp hl hr
      exact ⟨hp.trans (permit j hji).symm, (list j hji).trans hl, hr⟩
  · by_cases hji : j = i
    · subst hji; exact hand hj
    · rw [channel j hji] at hj ⊢; exact h.hand j hj

/-- A record changes in ways that neither the permit nor the list follows. -/
theorem modify (h : f.Kept P) {i : Fin 6} {g : FanChannel → FanChannel}
    (starts : (g (f.channel i)).starts = true ↔ (f.channel i).starts = true)
    (runs : (g (f.channel i)).runningAs .duty = true ↔ (f.channel i).runningAs .duty = true)
    (record : (g (f.channel i)).Sound) (hand : (g (f.channel i)).inHand = true → P (g (f.channel i)).cls) :
    (f.modify i g).Kept P := by
  obtain ⟨hp, hl, -⟩ := h.sound i
  refine h.change (i := i) (fun j hj => by simp [hj]) (fun _ _ => Iff.rfl) (fun _ _ => Iff.rfl) h.nodup
    ⟨?_, ?_, ?_⟩ ?_
  · simpa using starts.trans hp
  · simpa using hl.trans runs.symm
  · simpa using record
  · simpa using hand

/-- A record's counts and command change; its state, class and phase stand. -/
theorem adjust (h : f.Kept P) {i : Fin 6} {g : FanChannel → FanChannel}
    (state : (g (f.channel i)).state = (f.channel i).state) (cls : (g (f.channel i)).cls = (f.channel i).cls)
    (phase : (g (f.channel i)).phase = (f.channel i).phase)
    (command : (f.channel i).turning = true ∨ (g (f.channel i)).command = (f.channel i).command) :
    (f.modify i g).Kept P := by
  obtain ⟨classed, phased, stopped⟩ := (h.sound i).record
  have hand := h.hand i
  refine h.modify ?_ ?_ ⟨?_, ?_, fun still => ?_⟩ ?_
  · simp [FanChannel.starts, state]
  · simp [FanChannel.runningAs, state, cls]
  · simpa [FanChannel.inHand, state, cls] using classed
  · simpa [state, phase] using phased
  · have rest : (f.channel i).turning = false := by simpa [FanChannel.turning, state] using still
    rcases command with turning | same
    · simp [rest] at turning
    · exact same.trans (stopped rest)
  · simpa [FanChannel.inHand, state, cls] using hand

/-- A pass each of whose steps keeps the fans. -/
theorem foldl (h : f.Kept P) {op : Fcc → Fin 6 → Fcc} (step : ∀ (g : Fcc) i, g.Kept P → (op g i).Kept P)
    (l : List (Fin 6)) : (l.foldl op f).Kept P := Fcc.foldl_keeps step l h

/-- A channel set OFF holds no permit and stands in no list (R122, R124, R133). -/
theorem off (h : f.Kept P) (i : Fin 6) : (f.off i).Kept P := by
  have permit : ∀ j, (f.off i).permit = some j ↔ f.permit = some j ∧ j ≠ i :=
    Fcc.permit_release i ((f.modify i FanChannel.toOff).leave i)
  refine h.change (i := i) (fun j hj => by simp [Fcc.channel_off, hj]) (fun j hj => by simp [permit, hj])
    (fun j hj => by simp [Fcc.off, hj]) (h.nodup.filter _) ⟨?_, ?_, ?_⟩ ?_
  · simp [permit, Fcc.channel_off, FanChannel.toOff, FanChannel.starts]
  · simp [Fcc.off, FanChannel.toOff, FanChannel.runningAs]
  · simp [Fcc.channel_off, FanChannel.toOff, FanChannel.Sound, FanChannel.inHand, FanChannel.turning]
  · simp [Fcc.channel_off, FanChannel.toOff, FanChannel.inHand]

/-! ### Forcing (R115, R133) -/

theorem forceOne (h : f.Kept P) (sel : FanChannel → Bool) (i : Fin 6) : (Fcc.forceOne sel f i).Kept P := by
  unfold Fcc.forceOne
  split
  · exact h.off i
  · exact h

/-- A forcing leaves in hand the classes that its test does not select. -/
theorem forceOff (h : f.Kept P) {sel : FanChannel → Bool}
    (left : ∀ c : FanChannel, c.cls ≠ none → P c.cls → sel c = false → Q c.cls) : (f.forceOff sel).Kept Q := by
  obtain ⟨nodup, sound, -⟩ : (f.forceOff sel).Kept P := h.foldl (fun _ i hg => hg.forceOne sel i) _
  refine ⟨nodup, sound, fun i => ?_⟩
  rw [Fcc.channel_forceOff]
  split
  · simp [FanChannel.toOff, FanChannel.inHand]
  · next spared =>
    intro inHand
    exact left _ ((h.sound i).record.1.1 inHand) (h.hand i inHand) (by simpa [inHand] using spared)

/-! ### Staging (R122 to R125) -/

/-- An OFF channel is queued (R123, R134). -/
theorem queue (h : f.Kept P) {i : Fin 6} (state : (f.channel i).state = .off) {cls : FanClass}
    (allowed : P (some cls)) : (f.queue cls i).Kept P := by
  have phase := (h.sound i).record.phase_none (by simp [state])
  have command := (h.sound i).record.2.2 (by simp [FanChannel.turning, state])
  refine h.modify (g := FanChannel.toQueue cls) ?_ ?_ ⟨?_, ?_, ?_⟩ fun _ => allowed
  · simp [FanChannel.toQueue, FanChannel.starts, state]
  · simp [FanChannel.toQueue, FanChannel.runningAs, state]
  · simp [FanChannel.toQueue, FanChannel.inHand]
  · simp [FanChannel.toQueue, phase]
  · simp [FanChannel.toQueue, command]

/-- A RUNNING exercise channel becomes a duty channel at the tail of the list (R122, R123). -/
theorem convert (h : f.Kept P) {i : Fin 6} (runs : (f.channel i).runningAs .exercise = true)
    (allowed : P (some .duty)) : (f.convert i).Kept P := by
  obtain ⟨permit, listed, record⟩ := h.sound i
  obtain ⟨running, cls⟩ : (f.channel i).state = .running ∧ (f.channel i).cls = some .exercise := by
    simpa [FanChannel.runningAs] using runs
  have absent : i ∉ f.runOrder := by simp [listed, FanChannel.runningAs, cls]
  refine h.change (i := i) (fun j hj => by simp [Fcc.convert, hj]) (fun _ _ => Iff.rfl)
    (fun j hj => by simp [Fcc.convert, hj]) ?_ ⟨?_, ?_, ⟨?_, ?_, ?_⟩⟩ ?_
  · exact h.nodup.append (List.nodup_singleton i) (by simpa using absent)
  · simpa [Fcc.convert, FanChannel.toDuty, FanChannel.starts] using permit
  · simp [Fcc.convert, FanChannel.toDuty, FanChannel.runningAs, running]
  · simp [Fcc.convert, FanChannel.toDuty, FanChannel.inHand, running]
  · simpa [Fcc.convert, FanChannel.toDuty] using record.2.1
  · simp [Fcc.convert, FanChannel.toDuty, FanChannel.turning, running]
  · simpa [Fcc.convert, FanChannel.toDuty] using fun _ => allowed

theorem raise (h : f.Kept P) (order m : Nat) (frost : FrostState) (allowed : P (some .duty)) :
    (f.raise order m frost).Kept P := by
  have converted : ((f.pairOrder order).foldl (Fcc.raiseConvert m) f).Kept P := by
    refine h.foldl (fun g i hg => ?_) _
    unfold Fcc.raiseConvert
    split
    · next hr => exact hg.convert hr.2 allowed
    · exact hg
  unfold Fcc.raise
  dsimp only
  split
  · exact converted
  · refine converted.foldl (fun g i hg => ?_) _
    unfold Fcc.raiseQueue
    split
    · next hq => exact hg.queue hq.2 allowed
    · exact hg

/-- Each step of a staging down sets one channel OFF under a test (R124). -/
theorem lower (h : f.Kept P) (m : Nat) : (f.lower m).Kept P := by
  have stop : ∀ (p : Fcc → Fin 6 → Prop) [∀ g i, Decidable (p g i)] (g : Fcc) (i : Fin 6), g.Kept P →
      (if p g i then g.off i else g).Kept P := by
    intro p _ g i hg
    split
    · exact hg.off i
    · exact hg
  exact ((h.foldl (stop _) _).foldl (stop _) _).foldl (stop _) _

theorem ramp (h : f.Kept P) (ramp v : Nat) : (f.ramp ramp v).Kept P := by
  refine h.foldl (fun g i hg => ?_) _
  unfold Fcc.rampOne
  split
  · next runs =>
    refine hg.adjust rfl rfl rfl (.inl ?_)
    simp_all [FanChannel.runningAs, FanChannel.turning]
  · exact hg

/-- The staging and the ramp; only an allotment that runs fans queues or converts any (R123 to R125). -/
theorem stage (h : f.Kept P) (order ramp m v : Nat) (frost : FrostState) (allowed : 0 < m → P (some .duty)) :
    (f.stage order ramp m v frost).Kept P := by
  unfold Fcc.stage
  split
  · next below => exact (h.raise order m frost (allowed (Nat.zero_lt_of_lt below))).ramp ramp v
  · exact (h.lower m).ramp ramp v

/-! ### Starting, running and stopping (R127 to R135) -/

/-- Channels, list and permit stand. -/
theorem congr (h : f.Kept P) {g : Fcc} (channels : g.channels = f.channels) (list : g.runOrder = f.runOrder)
    (permit : g.permit = f.permit) : g.Kept P := by
  have channel : ∀ i, g.channel i = f.channel i := fun i => by rw [Fcc.channel, channels, Fcc.channel]
  refine ⟨list ▸ h.nodup, fun i => ⟨?_, ?_, ?_⟩, fun i => ?_⟩
  · rw [channel, permit]; exact (h.sound i).permit
  · rw [channel, list]; exact (h.sound i).listed
  · rw [channel]; exact (h.sound i).record
  · rw [channel]; exact h.hand i

theorem grant (h : f.Kept P) (order startSpeed : Nat) : (f.grant order startSpeed).Kept P := by
  unfold Fcc.grant
  split
  · next i free next =>
    have queued := Fcc.nextStart_queued next
    obtain ⟨-, listed, record⟩ := h.sound i
    have cls := record.1.1 (by simp [FanChannel.inHand, queued])
    have phase := record.phase_none (by simp [queued])
    have started : ∀ c : FanChannel, c.phase = none → (c.toStart startSpeed).cls = c.cls
        ∧ (c.toStart startSpeed).starts = true ∧ (c.toStart startSpeed).turning = true
        ∧ ((c.toStart startSpeed).state = .kick ↔ (c.toStart startSpeed).phase ≠ none) := by
      intro c hc
      unfold FanChannel.toStart
      split <;> simp [FanChannel.starts, FanChannel.turning, hc]
    obtain ⟨sameClass, starts, turns, phased⟩ := started _ phase
    have running := FanChannel.not_runningAs_of_starts starts .duty
    have absent : i ∉ f.runOrder := by simp [listed, FanChannel.runningAs, queued]
    refine h.change (i := i) (fun j hj => by simp [Fcc.grantTo, hj]) (fun j hj => ?_) (fun _ _ => Iff.rfl) h.nodup
      ⟨?_, ?_, ⟨?_, ?_, ?_⟩⟩ ?_
    · simp [Fcc.grantTo, free, hj.symm]
    · simpa [Fcc.grantTo] using starts
    · simpa [Fcc.grantTo, running] using absent
    · simpa [Fcc.grantTo, sameClass, cls] using FanChannel.inHand_of_turning turns
    · simpa [Fcc.grantTo] using phased
    · simp [Fcc.grantTo, turns]
    · simpa [Fcc.grantTo, sameClass] using fun _ => h.hand i (by simp [FanChannel.inHand, queued])
  · exact h

theorem interval (h : f.Kept P) (order startSpeed : Nat) : (f.interval order startSpeed).Kept P := by
  have advanced : f.advancePhases.Kept P := by
    refine h.foldl (fun g i hg => ?_) _
    unfold Fcc.advanceOne
    split
    · exact hg.adjust rfl rfl rfl (.inr rfl)
    · exact hg
  have counted : ∀ g : Fcc, g.Kept P → g.countTen.Kept P := fun g hg => by
    unfold Fcc.countTen
    split <;> exact hg.congr rfl rfl rfl
  exact (counted _ advanced).grant order startSpeed

/-- The permit's holder becomes RUNNING, frees the permit and, in duty class, joins the list (R122, R130, R131). -/
theorem enterRunning (h : f.Kept P) {i : Fin 6} (starts : (f.channel i).starts = true) (exerciseSpeed : Nat) :
    (f.enterRunning exerciseSpeed i).Kept P := by
  obtain ⟨-, listed, record⟩ := h.sound i
  have inHand := FanChannel.inHand_of_starts starts
  have cls := record.1.1 inHand
  have absent : i ∉ f.runOrder := by simp [listed, FanChannel.not_runningAs_of_starts starts]
  have permit := Fcc.permit_release i (f.modify i (FanChannel.toRunning exerciseSpeed))
  have ran : (FanChannel.toRunning exerciseSpeed (f.channel i)).Sound := by
    simp [FanChannel.toRunning, FanChannel.Sound, FanChannel.inHand, FanChannel.turning, cls]
  have hand := h.hand i inHand
  unfold Fcc.enterRunning
  dsimp only
  split
  · next duty =>
    refine h.change (i := i) (fun j hj => by simp [hj]) (fun j hj => by rw [Fcc.join_permit, permit]; simp [hj])
      (fun j hj => by simp [hj]) ?_ ⟨?_, ?_, ?_⟩ ?_
    · exact h.nodup.append (List.nodup_singleton i) (by simpa using absent)
    · rw [Fcc.join_permit, permit]; simp [FanChannel.toRunning, FanChannel.starts]
    · simp [FanChannel.toRunning, FanChannel.runningAs, duty]
    · simpa using ran
    · simpa [FanChannel.toRunning] using fun _ => hand
  · next exercise =>
    refine h.change (i := i) (fun j hj => by simp [hj]) (fun j hj => by rw [permit]; simp [hj])
      (fun j hj => by simp) h.nodup ⟨?_, ?_, ?_⟩ ?_
    · rw [permit]; simp [FanChannel.toRunning, FanChannel.starts]
    · simp [FanChannel.toRunning, FanChannel.runningAs, exercise, absent]
    · simpa using ran
    · simpa [FanChannel.toRunning] using fun _ => hand

/-- A slow measurement counts; the third returns the channel to QUEUED and takes it off the list (R122, R132). -/
theorem slow (h : f.Kept P) {i : Fin 6} (running : (f.channel i).state = .running) : (f.slow i).Kept P := by
  obtain ⟨permit, -, record⟩ := h.sound i
  unfold Fcc.slow
  split
  · have inHand : (f.channel i).inHand = true := by simp [FanChannel.inHand, running]
    refine h.change (i := i) (fun j hj => by simp [hj]) (fun _ _ => Iff.rfl) (fun j hj => by simp [hj])
      (h.nodup.filter _) ⟨?_, ?_, ⟨?_, ?_, ?_⟩⟩ ?_
    · simpa [FanChannel.toStalled, FanChannel.starts, running] using permit
    · simp [FanChannel.toStalled, FanChannel.runningAs]
    · simpa [FanChannel.toStalled, FanChannel.inHand] using record.1.1 inHand
    · simpa [FanChannel.toStalled] using record.phase_none (by simp [running])
    · simp [FanChannel.toStalled]
    · simpa [FanChannel.toStalled] using fun _ => h.hand i inHand
  · exact h.adjust rfl rfl rfl (.inr rfl)

theorem judge (h : f.Kept P) (rated exerciseSpeed speed : Nat) (i : Fin 6) :
    (f.judge rated exerciseSpeed speed i).Kept P := by
  unfold Fcc.judge
  split
  · next judged =>
    split
    · refine h.enterRunning ?_ _
      simp only [FanChannel.judged, FanChannel.starts, Bool.or_eq_true, Bool.and_eq_true] at judged ⊢
      exact judged.imp_right And.left
    · exact h
  · split
    · next running =>
      split
      · exact h.slow running
      · exact h.adjust rfl rfl rfl (.inr rfl)
    · exact h

theorem tach (h : f.Kept P) (rated exerciseSpeed : Nat) (measured stored : Fin 6 → Nat) :
    (f.tach rated exerciseSpeed measured stored).Kept P := by
  refine (h.congr (g := { f with tachDue := false }) rfl rfl rfl).foldl (fun g i hg => ?_) _
  unfold Fcc.measure
  split
  · exact hg
  · exact Fcc.Kept.judge (hg.adjust rfl rfl rfl (.inr rfl)) _ _ _ _

/-- The permit's holder stays in KICK, or enters it (R130, R131). -/
theorem startKick (h : f.Kept P) {i : Fin 6} (starts : (f.channel i).starts = true) : (f.startKick i).Kept P := by
  have inHand := FanChannel.inHand_of_starts starts
  refine h.modify (g := FanChannel.toKick) ?_ ?_ ⟨?_, ?_, ?_⟩ fun _ => h.hand i inHand
  · exact iff_of_true (by simp [FanChannel.toKick, FanChannel.starts]) starts
  · rw [FanChannel.not_runningAs_of_starts starts]
    simp [FanChannel.toKick, FanChannel.runningAs]
  · simpa [FanChannel.toKick, FanChannel.inHand] using (h.sound i).record.1.1 inHand
  · simp [FanChannel.toKick]
  · simp [FanChannel.toKick, FanChannel.turning]

theorem startCheck (h : f.Kept P) {i : Fin 6} (kick : (f.channel i).state = .kick) (startSpeed : Nat) :
    (f.startCheck startSpeed i).Kept P := by
  refine h.modify .rfl .rfl ⟨(h.sound i).record.1, ?_, ?_⟩ (h.hand i)
  · simp [kick]
  · simp [FanChannel.turning, kick]

/-- The permit's holder becomes ICED and frees the permit (R131). -/
theorem ice (h : f.Kept P) {i : Fin 6} (kick : (f.channel i).state = .kick) : (f.ice i).Kept P := by
  have permit := Fcc.permit_release i (f.modify i FanChannel.toIced)
  have absent : i ∉ f.runOrder := by simp [(h.sound i).listed, FanChannel.runningAs, kick]
  unfold Fcc.ice
  refine h.change (i := i) (fun j hj => by simp [hj]) (fun j hj => by rw [permit]; simp [hj]) (fun _ _ => Iff.rfl)
    h.nodup ⟨?_, ?_, ?_⟩ ?_
  · rw [permit]; simp [FanChannel.toIced, FanChannel.starts]
  · simp [FanChannel.toIced, FanChannel.runningAs, absent]
  · simp [FanChannel.toIced, FanChannel.Sound, FanChannel.inHand, FanChannel.turning]
  · simp [FanChannel.toIced, FanChannel.inHand]

theorem failWindow (h : f.Kept P) {i : Fin 6} (kick : (f.channel i).state = .kick) (order startSpeed : Nat) :
    (f.failWindow order startSpeed i).Kept P := by
  have counted : (f.countRetry i).Kept P := h.adjust rfl rfl rfl (.inr rfl)
  have still : ((f.countRetry i).channel i).state = .kick := by simp [Fcc.countRetry, kick]
  refine Fcc.Kept.grant ?_ _ _
  unfold Fcc.failCheck
  split
  · exact counted.startKick (by simp [FanChannel.starts, still])
  · exact counted.ice still

/-- The permit's holder acts, if at all, in the state of its phase. -/
theorem endPhase (h : f.Kept P) {state : FanState} {phase : Option KickPhase} {time : Nat} {act : Fin 6 → Fcc → Fcc}
    (acts : ∀ i, (f.channel i).state = state → (act i f).Kept P) : (f.endPhase state phase time act).Kept P := by
  unfold Fcc.endPhase
  split
  · split
    · next i _ ended => exact acts i (by simp [Fcc.phaseEnded] at ended; exact ended.1.1.1)
    · exact h
  · exact h

theorem endExercise (h : f.Kept P) (time : Nat) (i : Fin 6) : (f.endExercise time i).Kept P := by
  unfold Fcc.endExercise
  split
  · exact h.off i
  · exact h

/-- Where no channel turns none is RUNNING, and the run-order list is empty (R121, R122). -/
theorem runOrder_eq_nil (h : f.Kept P) (still : f.anyTurning = false) : f.runOrder = [] := by
  refine List.eq_nil_iff_forall_not_mem.2 fun i hi => ?_
  have running := ((h.sound i).listed).1 hi
  have rest : (f.channel i).turning = false := by
    simpa using List.any_eq_false.1 still i (mem_fanChannels i)
  simp_all [FanChannel.runningAs, FanChannel.turning]

/-! ### Exercise, ice retry, reset and fitting (R120, R134, R137, R139) -/

theorem exercise (h : f.Kept P) {frost : FrostState} (allowed : frost = .clear → P (some .exercise)) :
    (f.exercise frost).Kept P := by
  refine h.foldl (fun g i hg => ?_) _
  unfold Fcc.exerciseOne
  split
  · next off =>
    split
    · next clear => exact hg.queue off (allowed clear)
    · exact hg.adjust rfl rfl rfl (.inr rfl)
  · exact hg

theorem iceRetry (h : f.Kept P) (allowed : P (some .exercise)) : f.iceRetry.Kept P := by
  refine h.foldl (fun g i hg => ?_) _
  unfold Fcc.retryOne
  split
  · next iced =>
    have phase := (hg.sound i).record.phase_none (by simp [iced])
    have command := (hg.sound i).record.2.2 (by simp [FanChannel.turning, iced])
    refine hg.modify ?_ ?_ ⟨?_, ?_, ?_⟩ fun _ => allowed
    · simp [FanChannel.starts, iced]
    · simp [FanChannel.runningAs, iced]
    · simp [FanChannel.inHand]
    · simp [phase]
    · simp [command]
  · exact hg

theorem fanReset (h : f.Kept P) : f.fanReset.Kept P := by
  refine h.foldl (fun g i hg => ?_) _
  unfold Fcc.resetOne
  split
  · next stopped =>
    have idle : (g.channel i).starts = false ∧ (g.channel i).runningAs .duty = false
        ∧ (g.channel i).state ≠ .kick := by
      rcases stopped with state | state <;> simp [FanChannel.starts, FanChannel.runningAs, state]
    obtain ⟨starts, runs, kick⟩ := idle
    have phase := (hg.sound i).record.phase_none kick
    refine hg.modify ?_ ?_ ⟨?_, ?_, ?_⟩ ?_
    · rw [starts]; simp [FanChannel.starts]
    · rw [runs]; simp [FanChannel.runningAs]
    · simp [FanChannel.inHand]
    · simp [phase]
    · simp
    · simp [FanChannel.inHand]
  · exact hg

theorem fit (h : f.Kept P) (nFit : Nat) : (f.fit nFit).Kept P := by
  refine h.foldl (fun g i hg => ?_) _
  unfold Fcc.fitOne
  split
  · refine (hg.off i).modify ?_ ?_ ?_ ?_ <;> rw [Fcc.channel_off, if_pos rfl]
    · simp [FanChannel.toOff, FanChannel.starts]
    · simp [FanChannel.toOff, FanChannel.runningAs]
    · simp [FanChannel.toOff, FanChannel.Sound, FanChannel.inHand, FanChannel.turning]
    · simp [FanChannel.toOff, FanChannel.inHand]
  · exact hg

end Fcc.Kept
end Sys2Proof.Machine
end

section
/-! PROOFS. Fans kept by every step: the role machine, the frost monitor, orders, the end of a computation, the cycle
end and the load, down to each command (R63, R86, R93, R113 to R117, R133 to R139). -/

namespace Sys2Proof.Machine

/-- What every step keeps of the fans. -/
structure FansKept (s : State) : Prop where
  fcc : s.fcc.Kept (AllowedClass s.fde.role s.cfm.frost)
  latched : LatchedFans s

theorem fansKept_iff (s : State) : FansKept s ↔ FansSound s ∧ FansOfRole s ∧ LatchedFans s :=
  ⟨fun ⟨fcc, latched⟩ => and_assoc.1 ⟨(fcc_kept_iff s).1 fcc, latched⟩,
    fun ⟨sound, role, latched⟩ => ⟨(fcc_kept_iff s).2 ⟨sound, role⟩, latched⟩⟩

/-- Fans, role, frost state and latched inputs stand. -/
def SameFans (s t : State) : Prop :=
  t.fcc = s.fcc ∧ t.fde.role = s.fde.role ∧ t.cfm.frost = s.cfm.frost ∧ t.fde.latched = s.fde.latched

/-! ### Classes allowed -/

/-- A class other than exercise is allowed in every frost state (R115, R134). -/
theorem AllowedClass.of_ne {r : Role} {z z' : FrostState} {cls : Option FanClass} (h : AllowedClass r z cls)
    (duty : cls ≠ some .exercise) : AllowedClass r z' cls := ⟨h.1, fun e => absurd e duty⟩

theorem AllowedClass.clear {r : Role} {z : FrostState} {cls : Option FanClass} (h : AllowedClass r z cls) :
    AllowedClass r .clear cls := ⟨h.1, fun _ => rfl⟩

/-- A class that the forcing of a new role spares is allowed in it (R133). -/
theorem AllowedClass.of_spared {old new : Role} {z : FrostState} {c : FanChannel} (h : AllowedClass old z c.cls)
    (classed : c.cls ≠ none) (spared : roleForces new c = false) : AllowedClass new z c.cls := by
  refine ⟨?_, h.2⟩
  cases new <;> simp [roleForces] at spared ⊢
  cases hc : c.cls with
  | none => exact absurd hc classed
  | some cls => cases cls <;> simp_all

/-- The FCC takes a report of a role (R133). -/
theorem Fcc.Kept.roleReport {f : Fcc} {old : Role} {z : FrostState} (h : f.Kept (AllowedClass old z)) (new : Role) :
    (f.roleReport new).Kept (AllowedClass new z) :=
  h.forceOff fun _ classed allowed spared => allowed.of_spared classed spared

/-- The FCC takes a report of a frost change (R115). -/
theorem Fcc.Kept.frostReport {f : Fcc} {r : Role} {old : FrostState} (h : f.Kept (AllowedClass r old))
    (new : FrostState) : (f.frostReport old new).Kept (AllowedClass r new) := by
  unfold Fcc.frostReport
  split
  · exact h.forceOff fun _ _ _ spared => by simp at spared
  · split
    · exact h.forceOff fun c _ allowed spared => allowed.of_ne (by simpa using spared)
    · next stays =>
      refine h.mono fun cls allowed => ⟨allowed.1, fun exercise => ?_⟩
      by_contra left
      exact stays ⟨allowed.2 exercise, left⟩

namespace FansKept
variable {s t : State}

theorem congr (h : FansKept s) (same : SameFans s t) : FansKept t := by
  obtain ⟨fcc, role, frost, latched⟩ := same
  refine ⟨by rw [fcc, role, frost]; exact h.fcc, ?_⟩
  unfold LatchedFans
  rw [latched]
  exact h.latched

/-- The FCC takes a value. -/
theorem setFcc (h : FansKept s) {f : Fcc} (kept : f.Kept (AllowedClass s.fde.role s.cfm.frost)) :
    FansKept (s.setFcc f) := ⟨by simpa using kept, h.latched⟩

theorem putFcc (h : FansKept s) {f : Fcc} (kept : f.Kept (AllowedClass s.fde.role s.cfm.frost)) :
    FansKept { s with fcc := f } := ⟨kept, h.latched⟩

/-- Every owner of the coil stands. -/
theorem of_owners (h : FansKept s) (same : SameOwners s t) : FansKept t := by
  obtain ⟨-, fde, cfm, fcc, -, -⟩ := same
  exact h.congr ⟨fcc, by rw [fde], by rw [cfm], by rw [fde]⟩

theorem startTimer (h : FansKept s) (id : TimerId) : FansKept (s.startTimer id) := h.congr (by simp [SameFans])

/-! ### The role machine (R86, R93 to R102) -/

/-- The CFM takes a report of role: where it is suspended it is in CLEAR (R116, R117). -/
theorem cfmReport (h : FansKept s) : FansKept s.cfmReport := by
  unfold State.cfmReport
  split
  · split
    · exact h
    · refine ⟨?_, ?_⟩
      · simpa [Cfm.suspend] using h.fcc.mono fun _ => AllowedClass.clear
      · simpa [LatchedFans] using h.latched
  · exact h.congr ⟨rfl, rfl, rfl, rfl⟩

theorem changeRole (h : FansKept s) (cause : RoleCause) (new : Role) (drained : Bool) :
    FansKept (s.changeRole cause new drained) := by
  refine FansKept.cfmReport ⟨?_, ?_⟩
  · simpa [Fde.enter] using h.fcc.roleReport new
  · simpa [LatchedFans, Fde.enter] using h.latched

theorem rotExpired (h : FansKept s) : FansKept s.rotExpired := by
  unfold State.rotExpired
  split
  · exact h.congr ⟨rfl, rfl, rfl, rfl⟩
  · exact h

theorem warmExpired (h : FansKept s) : FansKept s.warmExpired := by
  unfold State.warmExpired
  split
  · have marked : ∀ u, FansKept u → FansKept u.setColdJoin := fun u hu => hu.congr ⟨rfl, rfl, rfl, rfl⟩
    rw [State.reportRole_setColdJoin]
    exact marked _ (h.changeRole .warmExpiry .carrying false)
  · exact h

theorem shedExpired (h : FansKept s) : FansKept s.shedExpired := by
  unfold State.shedExpired
  split
  · exact h.changeRole _ _ _
  · split
    · exact h.changeRole _ _ _
    · exact h

theorem takeLevels (h : FansKept s) (withdraw drained : Bool) : FansKept (s.takeLevels withdraw drained) := by
  unfold State.takeLevels
  split
  · split
    · exact h.changeRole _ _ _
    · split
      · have told : FansKept (s.putDrained drained).vdrReport := h.congr ⟨rfl, rfl, rfl, rfl⟩
        exact told.cfmReport
      · exact h
  · split
    · exact h.changeRole _ _ _
    · exact h

/-! ### The frost monitor (R105 to R117) -/

theorem setFrost (h : FansKept s) (new : FrostState) : FansKept (s.setFrost new) := by
  have announced : FansKept (s.announceFrost new) := by
    refine ⟨?_, ?_⟩
    · simpa using h.fcc.frostReport new
    · simpa [LatchedFans] using h.latched
  unfold State.setFrost State.frostRole
  split
  · exact announced.changeRole _ _ _
  · split
    · exact announced.changeRole _ _ _
    · exact announced

theorem enterProtect (h : FansKept s) (causes : List TripCause) : FansKept (s.enterProtect causes) := by
  have timed : FansKept { s.protectTimers with cfm := s.cfm.trip causes } :=
    h.congr (by simp [SameFans, Cfm.trip])
  exact timed.setFrost _

theorem releaseGuard (h : FansKept s) : FansKept s.releaseGuard := by
  have timed : FansKept ((s.stopTimer .guard).putGuardPending false) := h.congr (by simp [SameFans])
  exact timed.setFrost _

theorem enterRecover (h : FansKept s) : FansKept s.enterRecover := by
  have timed : FansKept ((s.startTimer .recov).putProtectPending false) := h.congr (by simp [SameFans])
  exact timed.setFrost _

theorem enterGuard (h : FansKept s) : FansKept s.enterGuard := by
  have timed : FansKept ((s.startTimer .guard).putGuardPending false) := h.congr (by simp [SameFans])
  exact timed.setFrost _

theorem guardExpired (h : FansKept s) : FansKept s.guardExpired := by
  unfold State.guardExpired
  split
  · split
    · exact h.releaseGuard
    · exact h.congr (by simp [SameFans])
  · exact h

theorem protExpired (h : FansKept s) : FansKept s.protExpired := by
  unfold State.protExpired
  split
  · split
    · exact h.enterRecover
    · exact h.congr (by simp [SameFans])
  · exact h

theorem recovExpired (h : FansKept s) : FansKept s.recovExpired := by
  unfold State.recovExpired
  split
  · exact h.setFrost _
  · exact h

theorem stagExpired (h : FansKept s) : FansKept s.stagExpired := by
  unfold State.stagExpired
  split
  · exact h
  · exact h.enterProtect _

theorem evaluate (h : FansKept s) (set : ScanSet) : FansKept (s.evaluate set) := by
  unfold State.evaluate
  split
  · exact h.enterProtect _
  · split
    · split
      · exact h.enterGuard
      · exact h
    · unfold State.watchGuard
      split
      · exact h.congr (by simp [SameFans])
      · split
        · exact h.releaseGuard
        · exact h
    · split
      · exact h.enterRecover
      · exact h
    · exact h

theorem frostScan (h : FansKept s) (set : ScanSet) : FansKept (s.frostScan set) := by
  unfold State.frostScan
  split
  · exact h
  · exact (h.evaluate set).congr (by simp [SameFans])

theorem completeScan (h : FansKept s) (valveFirst : Bool) : FansKept (s.completeScan valveFirst) := by
  have judged : FansKept s.judgeScan.reportSensors := h.congr (by simp [SameFans])
  have valve : ∀ (u : State) set, FansKept u → FansKept (u.valveScan set) :=
    fun u set hu => hu.congr (by simp [SameFans])
  unfold State.completeScan
  split
  · unfold State.raiseScan
    split
    · exact (valve _ _ judged).frostScan _
    · exact valve _ _ (judged.frostScan _)
  · exact judged

/-! ### Orders and expiries (R134, R137, R139, R156, R161 to R165) -/

theorem exercise (h : FansKept s) : FansKept s.exercise := by
  unfold State.exercise
  split
  · next resting => exact h.putFcc (h.fcc.exercise fun clear => ⟨.inr (.inr ⟨resting, rfl⟩), fun _ => clear⟩)
  · exact h

theorem iceExpired (h : FansKept s) : FansKept s.iceExpired := by
  unfold State.iceExpired
  split
  · next retries =>
    obtain ⟨-, clear, role⟩ := retries
    have allowed : AllowedClass s.fde.role s.cfm.frost (some .exercise) := by
      refine ⟨?_, fun _ => clear⟩
      cases hr : s.fde.role <;> simp [hr, Role.retriesIce] at role ⊢
    exact (h.putFcc (h.fcc.iceRetry allowed)).congr (by simp [SameFans])
  · exact h

theorem fanReset (h : FansKept s) : FansKept s.fanReset :=
  (h.putFcc h.fcc.fanReset).congr (by simp [SameFans, State.fanReset])

theorem ordExpired (h : FansKept s) : FansKept s.ordExpired := h.congr (by simp [SameFans])

theorem takeOrder (h : FansKept s) (o : Order) : FansKept (s.takeOrder o) := by
  have levels : FansKept ((s.noteOrder.takeSettings o).takeWithdraw o) := by
    have held : FansKept ((s.noteOrder.takeSettings o).holdLevels o) := h.congr (by simp [SameFans])
    exact held.takeLevels _ _
  have reset : FansKept (((s.noteOrder.takeSettings o).takeWithdraw o).takeFanReset o) := by
    unfold State.takeFanReset
    split
    · exact levels.fanReset
    · exact levels
  have exercised : ∀ u : State, FansKept u → FansKept (u.takeExercise o) := by
    intro u hu
    unfold State.takeExercise
    split
    · exact hu.exercise
    · exact hu
  exact (exercised _ reset).congr (by simp [SameFans, State.takeOrder, State.takeEdges])

theorem takeExpiry (h : FansKept s) {id : TimerId} {owner : State → State}
    (keeps : ∀ u, FansKept u → FansKept (owner u)) : FansKept (s.takeExpiry id owner) := by
  unfold State.takeExpiry
  split
  · exact keeps _ (h.congr (by simp [SameFans]))
  · exact h

theorem withCycleEnd {act : State → State} (h : FansKept (act s)) : FansKept (s.withCycleEnd act) :=
  h.congr (by simp [SameFans])

end FansKept

/-! ### The end of a computation (R79, R80, R123 to R125, R133) -/

/-- The FCC at the end of a computation: a changed role is reported, then the record staged (R123 to R125, R133). -/
theorem State.issue_fcc (valveFirst : Bool) (l : Latched) (s : State) : (s.issue valveFirst l).fcc
    = (if (s.decideAndRecord l).fde.role != s.fde.role then s.fcc.roleReport (s.decideAndRecord l).fde.role
        else s.fcc).stage s.params.pairOrder s.params.fanRamp (s.ownResult l).m (s.ownResult l).v s.cfm.frost := by
  unfold State.issue State.raiseAllotment
  split <;> simp [State.stageFans]

/-- Only CARRYING and SHEDDING with fans running ask for duty fans (R77, R78). -/
theorem staging_runs {p : Params} {role : Role} {coldJoin : Bool} {share nAvail running mPrev vPrev : Nat}
    (h : 0 < (staging p role coldJoin share nAvail running mPrev vPrev).1) :
    role = .carrying ∨ (role = .shedding ∧ 0 < running) := by
  cases role <;> simp only [staging, Nat.lt_irrefl] at h
  case carrying => exact .inl rfl
  case shedding =>
    split at h
    · simp at h
    · exact .inr ⟨rfl, h⟩

/-- Stage 10 leaves a cell whose record asks for duty fans in CARRYING or SHEDDING (R91, R92). -/
theorem State.decide_role_of_runs {s : State} {l : Latched} (latched : l.anyTurning = false → l.runningCount = 0)
    (runs : 0 < (s.ownResult l).m) (share : Nat) :
    (s.decide l share).fde.role = .carrying ∨ (s.decide l share).fde.role = .shedding := by
  rcases staging_runs runs with role | ⟨role, running⟩
  · left
    simp only [State.decide, role, State.decideCarrying]
    split <;> simp [State.testColdJoin, role]
  · have turning : l.anyTurning = true := by
      by_contra still
      exact running.ne' (latched (by simpa using still))
    simp only [State.decide, role, State.decideShedding, turning]
    split
    · left; simp [Fde.enter]
    · right; simp [role]

/-! ### The commands that leave the fans alone -/

/-- The commands that can move a fan, the role, the frost state or the latched inputs. -/
def reachesFans : Instr → Bool
  | .configurationLoadCompletion _ _ | .frameCompletion _ _ | .cycleEnd _ _ | .allotmentIssued _ | .scanCompletion _
  | .tRotExpiry | .tWarmExpiry | .tShedExpiry | .tExerExpiry | .tIceExpiry | .tGuardExpiry | .tProtExpiry
  | .tRecovExpiry | .tStagExpiry | .tOrdExpiry | .fanInterval | .spinUpWindowEnd | .kickPhaseEnd | .checkWindowEnd
  | .exerciseRunEnd _ | .tachMeasurementCompletion _ | .resetAsserted => true
  | .resetRelease _ _ | .sclHoldTimeout _ | .frameStartDetected _ | .ownSlotStart _ | .transmitInstant _ _
  | .transmitReadbackMismatch _ | .cleanTransmission _ | .listenWindowEndInSilence _ | .travelTimeReached
  | .ageingMark _ | .channelConversion _ _ | .readRequest _ | .clearRequest | .serviceCharacterDropped _ _
  | .serviceRequestTimeout | .serviceQuietEnd | .serviceResponseEnd | .strayCharacter _
  | .serviceRequestCharacter _ => false

theorem exec_sameFans {c : Instr} {s t : State} (hc : reachesFans c = false) (he : exec c s = .next t) :
    SameFans s t := by
  cases c <;> simp only [reachesFans, Bool.true_eq_false] at hc <;>
    simp only [exec, execResetRelease, execSclHoldTimeout, execFrameStartDetected, execStrayCharacter,
      execOwnSlotStart, execTransmitInstant, execTransmitReadbackMismatch, execCleanTransmission,
      execListenWindowEndInSilence, execTravelTimeReached, execAgeingMark, execChannelConversion, execReadRequest,
      execClearRequest, execServiceCharacterDropped, execServiceRequestTimeout, execServiceQuietEnd,
      execServiceResponseEnd, execServiceRequestCharacter] at he
  all_goals
    repeat' split at he
    all_goals
      cases he
      simp [SameFans]

namespace FansKept
variable {s t : State}

theorem issue (h : FansKept s) {l : Latched} (latched : s.fde.latched = some l) (valveFirst : Bool) :
    FansKept (s.issue valveFirst l) := by
  have role := State.issue_role valveFirst l s
  have cfm : (s.issue valveFirst l).cfm = s.cfm := by simp
  have reported : ∀ r : Role, (if r != s.fde.role then s.fcc.roleReport r else s.fcc).Kept
      (AllowedClass r s.cfm.frost) := by
    intro r
    split
    · exact h.fcc.roleReport r
    · next same =>
      have : r = s.fde.role := by simpa using same
      exact this ▸ h.fcc
  have decided : (s.decideAndRecord l).fde.role = (s.decide l (s.ownResult l).share).fde.role := rfl
  refine ⟨?_, ?_⟩
  · rw [State.issue_fcc, role, decided, cfm]
    refine (reported _).stage _ _ _ _ _ fun runs => ⟨?_, by simp⟩
    exact (State.decide_role_of_runs (h.latched l latched) runs _).imp_right .inl
  · intro m hm
    have none : (s.issue valveFirst l).fde.latched = none := by
      simp [State.issue, State.decideAndRecord, State.conclude, Fde.conclude]
    simp [none] at hm

/-! ### The cycle end and the load (R63, R120) -/

theorem endCycle (h : FansKept s) (cadenceFirst : Bool) : FansKept (s.endCycle cadenceFirst) := by
  refine ⟨by simpa [State.endCycle_fde] using h.fcc, fun l hl still => ?_⟩
  obtain rfl : s.latchedInputs s.lsc.bus = l := by simpa [State.endCycle_fde] using hl
  exact List.length_eq_zero_iff.2 (h.fcc.runOrder_eq_nil still)

theorem completeLoad (h : FansKept s) : FansKept s.completeLoad := by
  have fitted : FansKept s.handOut.fitFans := (h.congr (t := s.handOut) (by simp [SameFans])).setFcc (h.fcc.fit _)
  exact fitted.congr (by simp [SameFans, State.completeLoad])

theorem reset : FansKept State.reset :=
  (fansKept_iff _).2 ⟨.reset, .reset, fun _ hl => nomatch hl⟩

/-! ### Every command -/

theorem completeFrame (h : FansKept s) (r : RxFrame) (chars : List RxChar) : FansKept (s.completeFrame r chars) := by
  have ended : FansKept s.endFrame := h.congr (by simp [SameFans])
  unfold State.completeFrame
  split
  · exact ended.congr (by simp [SameFans])
  · unfold State.validFrame
    split
    · next cs _ =>
      rcases State.windowed_cases 0 r.start (State.acceptOrder cs) s.endFrame with taken | same
      · rw [taken]
        have stored : FansKept (s.endFrame.storeOrder cs) := ended.congr (by simp [SameFans])
        unfold State.acceptOrder
        split
        · exact stored.takeOrder _
        · exact stored
      · exact ended.of_owners same
    · next k cs _ =>
      split
      · exact ended.congr (by simp [SameFans])
      · split
        · exact ended.congr (by simp [SameFans])
        · split
          · exact ended.congr (by simp [SameFans])
          · rcases State.windowed_cases k r.start (State.acceptBulletin k cs) s.endFrame with taken | same
            · rw [taken]; exact ended.of_owners (.acceptBulletin k cs _)
            · exact ended.of_owners same

theorem spend (h : FansKept s) (n : Nat) : FansKept { s with freeCount := n } := h.congr ⟨rfl, rfl, rfl, rfl⟩

/-- A command keeps the fans. -/
theorem exec {c : Instr} (h : FansKept s) (he : exec c s = .next t) : FansKept t := by
  cases hc : reachesFans c with
  | false => exact h.congr (exec_sameFans hc he)
  | true =>
    cases c <;> simp only [reachesFans, Bool.false_eq_true] at hc <;> simp only [Machine.exec] at he
    case allotmentIssued vf =>
      unfold execAllotmentIssued at he
      split at he
      · next l latched => cases he; exact h.issue latched vf
      · cases he; exact h
    case scanCompletion vf =>
      unfold execScanCompletion at he
      split at he
      · cases he; exact h.completeScan vf
      · cases he; exact h
    case tRotExpiry => cases he; exact h.takeExpiry fun _ => rotExpired
    case tWarmExpiry => cases he; exact h.takeExpiry fun _ => warmExpired
    case tShedExpiry => cases he; exact h.takeExpiry fun _ => shedExpired
    case tExerExpiry => cases he; exact h.takeExpiry fun _ => exercise
    case tIceExpiry => cases he; exact h.takeExpiry fun _ => iceExpired
    case tGuardExpiry => cases he; exact h.takeExpiry fun _ => guardExpired
    case tProtExpiry => cases he; exact h.takeExpiry fun _ => protExpired
    case tRecovExpiry => cases he; exact h.takeExpiry fun _ => recovExpired
    case tStagExpiry => cases he; exact h.takeExpiry fun _ hu => hu.stagExpired.withCycleEnd
    case tOrdExpiry => cases he; exact h.takeExpiry fun _ hu => hu.ordExpired.withCycleEnd
    case fanInterval =>
      unfold execFanInterval at he
      split at he
      · cases he; exact h.setFcc (h.fcc.interval _ _)
      · cases he; exact h
    case spinUpWindowEnd =>
      cases he
      exact h.setFcc (h.fcc.endPhase fun i starting => h.fcc.startKick (by simp [FanChannel.starts, starting]))
    case kickPhaseEnd =>
      cases he
      exact h.setFcc (h.fcc.endPhase fun i kick => h.fcc.startCheck kick _)
    case checkWindowEnd =>
      cases he
      have failed := h.fcc.endPhase (phase := some .check) (time := s.params.checkWindow)
        (act := Fcc.failWindow s.params.pairOrder s.params.startSpeed) fun i kick => h.fcc.failWindow kick _ _
      exact (h.setFcc failed).congr (by simp [SameFans])
    case exerciseRunEnd i => cases he; exact h.setFcc (h.fcc.endExercise _ i)
    case tachMeasurementCompletion edges =>
      unfold execTachMeasurementCompletion at he
      split at he
      · cases he; exact (h.setFcc (h.fcc.tach _ _ _ _)).spend _
      · cases he; exact h
    case configurationLoadCompletion ok bytes =>
      unfold execConfigurationLoadCompletion at he
      split at he
      · cases he
        split
        · exact completeLoad (h.congr ⟨rfl, rfl, rfl, rfl⟩)
        · exact h.congr ⟨rfl, rfl, rfl, rfl⟩
      · cases he; exact h
    case frameCompletion e chars =>
      unfold execFrameCompletion at he
      dsimp only at he
      split at he
      · cases he; exact (h.of_owners (.advance e s)).completeFrame _ _
      · cases he; exact h.of_owners (.advance e s)
    case cycleEnd e f =>
      unfold execCycleEnd at he
      dsimp only at he
      split at he
      · cases he; exact (h.of_owners (.advance e s)).endCycle f
      · cases he; exact h.of_owners (.advance e s)
    case resetAsserted => cases he; exact reset.congr ⟨rfl, rfl, rfl, rfl⟩

end FansKept

/-- Settles O57: every operation of the FCC keeps the permit, the list and the records, and the classes that role and
frost state allow; each command is made of such operations and of reports that force what a new role or frost state
does not allow. -/
theorem everyStepKeepsTheFans : Obligations.EveryStepKeepsTheFans := by
  intro s t hs hst
  refine (fansKept_iff t).1 (step_keeps (P := FansKept) (fun _ _ h => ?_) (fun _ _ _ h he => h.exec he)
    ((fansKept_iff s).2 hs) hst)
  exact h.congr ⟨rfl, rfl, rfl, rfl⟩

end Sys2Proof.Machine
end

section
/-! PROOFS. The end of a computation: its record, its figures, and what it leaves outside the FDE, the fans, the
valve, the role machine's timers and the alerts (R64, R71, R76, R79, R80, R84). -/

namespace Sys2Proof.Machine

/-- An allotment is issued where a computation is in progress (R64, R80). -/
theorem exec_allotmentIssued {s : State} {l : Latched} (latched : s.fde.latched = some l) (valveFirst : Bool) :
    exec (.allotmentIssued valveFirst) s = .next (s.issue valveFirst l) := by
  simp only [exec, execAllotmentIssued, latched]

/-- The state as stage 10 leaves it (R79). -/
def State.decided (l : Latched) (s : State) : State := s.decide l (s.ownResult l).share

/-- The record of the computation on `l` (R80). -/
def State.record (l : Latched) (s : State) : Allotment :=
  recordOf l (s.fieldResult l) (s.ownResult l) (s.decided l).fde

/-- The figures of the computation on `l` (R84). -/
def State.figures (l : Latched) (s : State) : Figures :=
  figuresOf s.freeCount (s.fieldResult l) (s.ownResult l)

/-- What the FDE keeps of a computation (R64, R71, R76, R80, R83, R84, R89). -/
theorem State.issue_fde (valveFirst : Bool) (l : Latched) (s : State) : (s.issue valveFirst l).fde
    = (s.decided l).fde.conclude s.params s.freeCount l (s.fieldResult l) (s.ownResult l) (s.issueTarget l) := by
  simp [State.issue, State.decideAndRecord, State.conclude, State.decided]

theorem State.issue_allotment (valveFirst : Bool) (l : Latched) (s : State) :
    (s.issue valveFirst l).fde.allotment = some (s.record l) := by
  rw [State.issue_fde]; rfl

theorem State.issue_figures (valveFirst : Bool) (l : Latched) (s : State) :
    (s.issue valveFirst l).fde.figures = some (s.figures l) := by
  rw [State.issue_fde]; rfl

/-- A statement about the record of an allotment issued. -/
theorem issued_record {s : State} {l : Latched} (latched : s.fde.latched = some l) (valveFirst : Bool)
    {Q : State → Allotment → Prop} (holds : Q (s.issue valveFirst l) (s.record l)) :
    ∃ t a, exec (.allotmentIssued valveFirst) s = .next t ∧ t.fde.allotment = some a ∧ Q t a :=
  ⟨_, _, exec_allotmentIssued latched valveFirst, State.issue_allotment valveFirst l s, holds⟩

/-- A statement about the record and the figures of an allotment issued. -/
theorem issued_figures {s : State} {l : Latched} (latched : s.fde.latched = some l) (valveFirst : Bool)
    {Q : State → Allotment → Figures → Prop} (holds : Q (s.issue valveFirst l) (s.record l) (s.figures l)) :
    ∃ t a g, exec (.allotmentIssued valveFirst) s = .next t ∧ t.fde.allotment = some a ∧ t.fde.figures = some g
      ∧ Q t a g :=
  ⟨_, _, _, exec_allotmentIssued latched valveFirst, State.issue_allotment valveFirst l s,
    State.issue_figures valveFirst l s, holds⟩

/-- Stage 10 leaves the overcool count (R83). -/
theorem State.decide_overcool (l : Latched) (share : Nat) (s : State) :
    (s.decide l share).fde.overcool = s.fde.overcool := by
  unfold State.decide State.decideInit State.decideResting State.decideWarming State.decideCarrying
    State.decideShedding
  repeat' split
  all_goals simp [Fde.enter, State.rest, State.testColdJoin]

/-! ### What an allotment leaves alone -/

/-- What an allotment issued leaves as it was. -/
theorem State.issue_eq (valveFirst : Bool) (l : Latched) (s : State) : s.issue valveFirst l = { s with
    fde := (s.issue valveFirst l).fde
    fcc := (s.issue valveFirst l).fcc
    vdr := (s.issue valveFirst l).vdr
    itb := (s.issue valveFirst l).itb
    aou := (s.issue valveFirst l).aou
    freeCount := s.freeCount + 1 } := by
  have frame := State.issue_frame valveFirst l s
  have free : (s.issue valveFirst l).freeCount = s.freeCount + 1 := by simp [State.issue, State.spend]
  generalize s.issue valveFirst l = t at frame free
  cases t
  simp_all

theorem State.timer_startIf_ne {a b : TimerId} (h : a ≠ b) (on : Bool) (s : State) :
    (s.startIf on b).timer a = s.timer a := by
  cases on <;> simp [State.startIf, State.timer_startTimer, h]

theorem State.timer_stopIf_ne {a b : TimerId} (h : a ≠ b) (on : Bool) (s : State) :
    (s.stopIf on b).timer a = s.timer a := by
  cases on <;> simp [State.stopIf, State.timer_stopTimer, h]

/-- A change of role moves no timer but the role machine's (R93). -/
theorem State.timer_enterRole {a : TimerId} (ha : a ≠ .warm ∧ a ≠ .rot ∧ a ≠ .shed) (cause : RoleCause) (new : Role)
    (drained : Bool) (s : State) : (s.enterRole cause new drained).timer a = s.timer a := by
  obtain ⟨warm, rot, shed⟩ := ha
  have bank : (s.enterRole cause new drained).timer a = (s.roleTimers s.fde.role new).timer a := rfl
  simp only [bank, State.roleTimers, State.timer_startIf_ne, State.timer_stopIf_ne, ne_eq, warm, rot, shed,
    not_false_eq_true]

/-- Stage 10 moves no timer but the role machine's (R87 to R93). -/
theorem State.timer_decide {a : TimerId} (ha : a ≠ .warm ∧ a ≠ .rot ∧ a ≠ .shed) (l : Latched) (share : Nat)
    (s : State) : (s.decide l share).timer a = s.timer a := by
  have enter := fun cause new d (u : State) => State.timer_enterRole ha cause new d u
  have rest : s.rest.timer a = s.timer a := rfl
  have cold : ∀ u : State, (u.testColdJoin l).timer a = u.timer a := fun _ => rfl
  unfold State.decide State.decideInit State.decideResting State.decideWarming State.decideCarrying
    State.decideShedding
  repeat' split
  all_goals simp [enter, rest, cold, State.timer_startTimer, State.timer_stopTimer, ha]

/-- An allotment issued moves no timer but T_ROT, T_WARM, T_SHED and T_EXER (R93, R136). -/
theorem State.timer_issue {a : TimerId} (ha : a ≠ .warm ∧ a ≠ .rot ∧ a ≠ .shed) (exer : a ≠ .exer)
    (valveFirst : Bool) (l : Latched) (s : State) : (s.issue valveFirst l).timer a = s.timer a := by
  have staged : ∀ (u : State) changed m v, (u.stageFans changed m v).timer a = u.timer a := fun u changed m v =>
    (State.timer_startIf_ne exer _ _).trans (State.timer_congr (State.setFcc_itb _ u) a)
  have stepped : ∀ u : State, u.stepValve.timer a = u.timer a := fun _ => rfl
  have recorded : ((s.decideAndRecord l).reportField (s.fieldResult l)).timer a
      = (s.decide l (s.ownResult l).share).timer a := rfl
  have spent : ∀ u : State, u.spend.timer a = u.timer a := fun _ => rfl
  unfold State.issue State.raiseAllotment
  split <;> simp only [spent, staged, stepped, recorded, State.timer_decide ha]

/-- The VDR takes the role and drained flag that stage 10 left (R141, R143). -/
theorem State.issue_vdr_reports (valveFirst : Bool) (l : Latched) (s : State) :
    (s.issue valveFirst l).vdr.role = (s.decided l).fde.role
      ∧ (s.issue valveFirst l).vdr.drained = (s.decided l).fde.drained
      ∧ (s.issue valveFirst l).vdr.allotmentReceived = true := by
  have staged : ∀ (u : State) changed m v, (u.stageFans changed m v).vdr.role = u.vdr.role
      ∧ (u.stageFans changed m v).vdr.drained = u.vdr.drained
      ∧ (u.stageFans changed m v).vdr.allotmentReceived = u.vdr.allotmentReceived := fun u changed m v => by
    simp [State.stageFans, State.setFcc, State.reportFans]
  have recorded : (s.decideAndRecord l).fde.role = (s.decided l).fde.role
      ∧ (s.decideAndRecord l).fde.drained = (s.decided l).fde.drained := ⟨rfl, rfl⟩
  unfold State.issue State.raiseAllotment
  split <;> simp [staged, Vdr.allotment_eq, recorded]

/-- Settles O31: the record is made of stage 10's role, the stages' results and the latched inputs, and the
reports that follow reach the named blocks alone. -/
theorem allotmentIsOneRecord : Obligations.AllotmentIsOneRecord := by
  intro valveFirst s
  refine ⟨fun none => by simp only [exec, execAllotmentIssued, none],
    fun l latched => issued_record latched valveFirst ?_⟩
  refine ⟨State.issue_eq valveFirst l s, ?_⟩
  rw [State.issue_fde]
  exact ⟨rfl, ⟨rfl, rfl, rfl, rfl, rfl⟩, ⟨rfl, rfl, rfl, rfl, rfl⟩, rfl, rfl, State.issue_vdr_reports valveFirst l s,
    fun id rot warm shed exer => State.timer_issue ⟨warm, rot, shed⟩ exer valveFirst l s⟩

end Sys2Proof.Machine
end

section
/-! PROOFS. Stages 1 to 5: the mix, the consensus, the step, D_cap and the new field duty, and the field alerts that
follow them (R67 to R71, R82 to R84). -/

namespace Sys2Proof.Machine

/-! ### Roundings and clamps (00, Conventions) -/

/-- A rounded quotient by its bounds. -/
theorem roundDiv_bounds {q : Int} (pos : 0 < q) (n : Int) :
    2 * q * roundDiv n q ≤ 2 * n + q ∧ 2 * n + q < 2 * q * (roundDiv n q + 1) := by
  have twice : 0 < 2 * q := by omega
  unfold roundDiv
  rw [Int.fdiv_eq_ediv_of_nonneg _ twice.le]
  exact ⟨Int.mul_ediv_self_le twice.ne', Int.lt_mul_ediv_self_add twice |>.trans_eq (by ring)⟩

/-- A rounded mean of counts by its bounds. -/
theorem roundDivNat_bounds {q : Nat} (pos : 0 < q) (n : Nat) :
    2 * q * roundDivNat n q ≤ 2 * n + q ∧ 2 * n + q < 2 * q * (roundDivNat n q + 1) :=
  ⟨Nat.mul_div_le _ _, Nat.lt_mul_div_succ _ (by omega)⟩

theorem toNat_clampInt (cap : Nat) (x : Int) : ((clampInt 0 cap x).toNat : Int) = max 0 (min (cap : Int) x) := by
  rw [clampInt_eq _ _ _ (Int.natCast_nonneg cap), Int.toNat_of_nonneg (le_max_left _ _)]

theorem clampInt_of_nonneg {bound x : Int} (hb : 0 ≤ bound) (hx : 0 ≤ x) :
    clampInt (-bound) bound x = min bound x := by
  rw [clampInt_eq _ _ _ (by omega)]
  omega

theorem clampInt_neg {bound : Int} (hb : 0 ≤ bound) (x : Int) :
    clampInt (-bound) bound (-x) = -clampInt (-bound) bound x := by
  rw [clampInt_eq _ _ _ (by omega), clampInt_eq _ _ _ (by omega)]
  omega

/-! ### The mix (R68) -/

theorem flowSum_outletsOf (own : Option Int) (ownQ : Nat) (peers : List Member) :
    flowSum (outletsOf own ownQ peers)
      = (if own.isSome then ownQ else 0) + ((peers.filter Member.outletValid).map Member.q).sum := by
  cases own <;> simp [flowSum, outletsOf, Function.comp_def]

theorem heatSum_outletsOf (own : Option Int) (ownQ : Nat) (peers : List Member) :
    heatSum (outletsOf own ownQ peers) = (ownQ : Int) * own.getD 0
      + ((peers.filter Member.outletValid).map fun m => (m.q : Int) * m.outlet).sum := by
  cases own <;> simp [heatSum, outletsOf, Function.comp_def]

/-- Weighted outlets between two temperatures have their sum between the weighted bounds (R68). -/
theorem heatSum_bounds {lo hi : Int} {os : List (Nat × Int)} (h : ∀ o ∈ os, lo ≤ o.2 ∧ o.2 ≤ hi) :
    lo * flowSum os ≤ heatSum os ∧ heatSum os ≤ hi * flowSum os := by
  induction os with
  | nil => simp [flowSum, heatSum]
  | cons o os ih =>
    obtain ⟨low, high⟩ := h o (by simp)
    obtain ⟨lows, highs⟩ := ih fun o ho => h o (by simp [ho])
    have weight : (0 : Int) ≤ o.1 := Int.natCast_nonneg _
    simp only [flowSum, heatSum, List.map_cons, List.sum_cons, Nat.cast_add] at lows highs ⊢
    constructor <;> nlinarith

/-- A mix of outlets between two temperatures lies between them (R68). -/
theorem roundDiv_between {lo hi n q : Int} (pos : 0 < q) (low : lo * q ≤ n) (high : n ≤ hi * q) :
    lo ≤ roundDiv n q ∧ roundDiv n q ≤ hi := by
  obtain ⟨below, above⟩ := roundDiv_bounds pos n
  constructor
  · by_contra h
    nlinarith
  · by_contra h
    nlinarith

theorem mem_outletsOf {own : Option Int} {ownQ : Nat} {peers : List Member} {o : Nat × Int}
    (h : o ∈ outletsOf own ownQ peers) :
    own = some o.2 ∨ ∃ m ∈ peers, m.outletValid = true ∧ m.outlet = o.2 := by
  rcases List.mem_append.1 h with h | h
  · left; cases own <;> simp_all
  · right
    obtain ⟨m, hm, rfl⟩ := List.mem_map.1 h
    obtain ⟨mem, valid⟩ := List.mem_filter.1 hm
    exact ⟨m, mem, valid, rfl⟩

/-- The mix estimate of a computation (R68). -/
theorem State.fieldResult_tMix (l : Latched) (s : State) : (s.fieldResult l).tMix
    = if 0 < (s.fieldResult l).qSum then some (roundDiv (s.fieldResult l).n (s.fieldResult l).qSum)
      else s.fde.tMix := rfl

theorem State.fieldResult_noBasis (l : Latched) (s : State) :
    (s.fieldResult l).noBasis = true ↔ (s.fieldResult l).qSum = 0 := by
  show ((s.fieldResult l).qSum == 0) = true ↔ _
  simp

/-- Settles O40: a rounded mean lies between the bounds of what it is the mean of. -/
theorem mixLiesBetweenTheOutlets : Obligations.MixLiesBetweenTheOutlets := by
  intro valveFirst l lo hi s latched own peers
  refine issued_record latched valveFirst fun basis => ?_
  have flow : 0 < (s.fieldResult l).qSum := by
    refine Nat.pos_of_ne_zero fun zero => ?_
    have : (s.fieldResult l).noBasis = false := basis
    simp [(State.fieldResult_noBasis l s).2 zero] at this
  obtain ⟨low, high⟩ := heatSum_bounds (lo := lo) (hi := hi) (os := outletsOf (ownOutlet l.scan) l.q s.peers)
    fun o ho => by
      rcases mem_outletsOf ho with h | ⟨m, hm, valid, h⟩
      · exact own _ h
      · exact h ▸ peers m hm valid
  refine ⟨_, (State.fieldResult_tMix l s).trans (if_pos flow), ?_⟩
  exact roundDiv_between (by exact_mod_cast flow) low high

/-! ### The step (R70) -/

theorem stepFor_of_small {p : Params} {e : Int} (h : e.natAbs ≤ p.deadband) : stepFor p e = 0 := if_pos h

theorem stepFor_of_warm {p : Params} {e : Int} (h : (p.deadband : Int) < e) :
    stepFor p e = min (p.slew : Int) ((e - p.deadband) * p.gain / 16) := by
  have scaled : 0 ≤ (e - p.deadband) * (p.gain : Int) := mul_nonneg (by omega) (Int.natCast_nonneg _)
  unfold stepFor
  rw [if_neg (by omega), if_pos (by omega)]
  dsimp only
  rw [Int.tdiv_eq_ediv_of_nonneg scaled]
  exact clampInt_of_nonneg (Int.natCast_nonneg _) (Int.ediv_nonneg scaled (by norm_num))

theorem stepFor_of_cold {p : Params} {e : Int} (h : e < -(p.deadband : Int)) :
    stepFor p e = -min (p.slew : Int) ((-e - p.deadband) * p.gain / 16) := by
  have mirrored : stepFor p e = -stepFor p (-e) := by
    have sign : (e + p.deadband) * (p.gain : Int) = -((-e - p.deadband) * p.gain) := by ring
    unfold stepFor
    rw [if_neg (by omega), if_neg (by omega), if_neg (by omega), if_pos (by omega)]
    dsimp only
    rw [sign, Int.neg_tdiv, clampInt_neg (Int.natCast_nonneg _)]
  rw [mirrored, stepFor_of_warm (by omega)]

/-! ### The ceilings of the eligible members (R67, R71) -/

/-- The roles in which a member can be eligible, as the list of R67. -/
theorem Role.canCarry_eq (r : Role) : r.canCarry = [Role.resting, .warming, .carrying, .shedding].contains r := by
  cases r <;> rfl

theorem Member.eligible_eq (m : Member) :
    m.eligible = ([Role.resting, .warming, .carrying, .shedding].contains m.role && decide (0 < m.h)) := by
  rw [Member.eligible, Role.canCarry_eq]

theorem ownEligible_iff (bus : BusState) (role : Role) (h : Nat) : ownEligible bus role h = true
    ↔ bus = .active ∧ [Role.resting, .warming, .carrying, .shedding].contains role = true ∧ 0 < h := by
  rw [ownEligible, Role.canCarry_eq]
  simp [and_assoc]

theorem Fde.offered_eq (f : Fde) : f.offered = (f.allotment.map Allotment.h).getD 0 := by
  unfold Fde.offered
  split <;> simp_all

theorem consensus_of_empty (ownD : Nat) : consensus ownD [] = ownD := rfl

theorem consensus_bounds {ds : List Nat} (some : ds ≠ []) (ownD : Nat) :
    2 * ds.length * consensus ownD ds ≤ 2 * ds.sum + ds.length
      ∧ 2 * ds.sum + ds.length < 2 * ds.length * (consensus ownD ds + 1) := by
  have mean : consensus ownD ds = roundDivNat ds.sum ds.length := if_neg (by simpa using some)
  rw [mean]
  exact roundDivNat_bounds (List.length_pos_iff.2 some) _

/-- Without a flow basis or a mix estimate there is no step (R70). -/
theorem stepOf_of_apart {p : Params} {noBasis : Bool} {tMix : Option Int} (h : noBasis = true ∨ tMix = none)
    (tSet : Int) : stepOf p noBasis (tMix.map (· - tSet)) = 0 := by
  rcases h with rfl | rfl
  · cases tMix <;> simp [stepOf]
  · rfl

/-- D_cap counts the own ceiling of an eligible own station, which is above 0 (R67, R71). -/
theorem dCapOf_eq (bus : BusState) (role : Role) (h : Nat) (peers : List Member) :
    dCapOf (ownEligible bus role h) h peers
      = (if bus = .active ∧ [Role.resting, .warming, .carrying, .shedding].contains role = true then h else 0)
        + ((peers.filter Member.eligible).map Member.h).sum := by
  unfold dCapOf
  congr 1
  have own := ownEligible_iff bus role h
  rcases Nat.eq_zero_or_pos h with rfl | pos
  · simp
  · simp only [pos, and_true] at own
    exact if_congr own rfl rfl

/-- The error of the figures where there is a mix estimate (R84). -/
theorem figuresOf_e {r : FieldPart} {e : Int} (h : r.e = some e) (free : Nat) (o : OwnPart) :
    (figuresOf free r o).e = e := by simp [figuresOf, h]

/-- Settles O32: each stage by its own rule, the quotients by their bounds. -/
theorem fieldDutyFollowsTheSnapshot : Obligations.FieldDutyFollowsTheSnapshot := by
  intro valveFirst l s latched
  refine issued_figures latched valveFirst ?_
  intro carries offered outlet heard q n ds able db
  have qSum : (s.fieldResult l).qSum = q := flowSum_outletsOf _ _ _
  have heat : (s.fieldResult l).n = n := heatSum_outletsOf _ _ _
  have tMix := State.fieldResult_tMix l s
  have noBasis := State.fieldResult_noBasis l s
  have offered_eq : s.fde.offered = offered := Fde.offered_eq _
  have able_eq : s.peers.filter Member.eligible = able := List.filter_congr fun m _ => Member.eligible_eq m
  have dCap : (s.fieldResult l).dCap
      = (if l.bus = .active ∧ carries l.role = true then offered else 0) + (able.map Member.h).sum := by
    rw [← able_eq, ← offered_eq]
    exact dCapOf_eq l.bus l.role s.fde.offered s.peers
  have eligible : (s.fieldResult l).eligible
      = able.length + (if l.bus = .active ∧ carries l.role = true ∧ 0 < offered then 1 else 0) := by
    rw [← able_eq, ← offered_eq]
    exact congrArg _ (if_congr (ownEligible_iff l.bus l.role s.fde.offered) rfl rfl)
  rw [qSum, heat] at tMix
  rw [qSum] at noBasis
  refine ⟨rfl, qSum, heat, fun flow => ⟨?_, _, tMix.trans (if_pos flow), ?_⟩, fun none => ⟨noBasis.2 none, ?_⟩,
    fun some => consensus_bounds some _, fun none => ?_, fun apart => stepOf_of_apart apart _, fun x mix => ?_, dCap,
    eligible, toNat_clampInt _ _⟩
  · exact Bool.eq_false_iff.2 fun h => flow.ne' (noBasis.1 h)
  · exact roundDiv_bounds (by exact_mod_cast flow) n
  · exact tMix.trans (if_neg (Nat.not_lt.2 none.le))
  · exact (congrArg (consensus _) none).trans (consensus_of_empty _)
  · have error : (s.fieldResult l).e = some (x - l.tSet) := congrArg (Option.map (· - l.tSet)) mix
    have e : (s.figures l).e = x - l.tSet := figuresOf_e error _ _
    refine ⟨e, fun basis => ?_⟩
    have step : (s.figures l).step = stepFor s.params (x - l.tSet) := by
      show stepOf s.params (s.fieldResult l).noBasis (s.fieldResult l).e = _
      rw [error, show (s.fieldResult l).noBasis = false from basis]
      rfl
    rw [e, step]
    exact ⟨stepFor_of_small, stepFor_of_warm, stepFor_of_cold⟩

/-! ### The field alerts (R82, R83) -/

/-- A test holds of the error of a computation that has a flow basis and a mix estimate (R82, R83). -/
def FieldPart.Errs (r : FieldPart) (test : Int → Prop) : Prop :=
  r.noBasis = false ∧ ∃ e, r.e = some e ∧ test e

theorem fieldShort_iff (p : Params) (r : FieldPart) : fieldShort p r = true
    ↔ (r.d = r.dCap ∧ 0 < r.dCap) ∧ r.Errs fun e => (p.deadband : Int) < e := by
  unfold fieldShort FieldPart.Errs
  cases r.e with
  | none => simp
  | some e => simp; tauto

theorem overcoolMet_iff (p : Params) (r : FieldPart) : overcoolMet p r = true
    ↔ r.d = 0 ∧ r.Errs fun e => e < -(p.overcoolMargin : Int) := by
  unfold overcoolMet FieldPart.Errs
  cases r.e with
  | none => simp
  | some e => simp; tauto

/-- The error of a computation is the mix estimate's distance from the setpoint (R70). -/
theorem State.fieldResult_errs (l : Latched) (s : State) (test : Int → Prop) : (s.fieldResult l).Errs test
    ↔ (s.fieldResult l).noBasis = false ∧ ∃ x, (s.fieldResult l).tMix = some x ∧ test (x - l.tSet) := by
  have error : (s.fieldResult l).e = (s.fieldResult l).tMix.map (· - l.tSet) := rfl
  simp [FieldPart.Errs, error]

/-- The overcool count after an allotment (R83). -/
theorem State.issue_overcool (valveFirst : Bool) (l : Latched) (s : State) : (s.issue valveFirst l).fde.overcool
    = if overcoolMet s.params (s.fieldResult l) = true then satInc 30 s.fde.overcool else 0 := by
  have before : (s.decided l).fde.overcool = s.fde.overcool := State.decide_overcool l _ s
  rw [State.issue_fde, ← before]
  rfl

/-- An allotment reports the field alerts and no other (R82, R83). -/
theorem State.issue_live (valveFirst : Bool) (l : Latched) (s : State) : (s.issue valveFirst l).aou.live
    = putAlert (putAlert s.aou.live .fieldShort (fieldShort s.params (s.fieldResult l))) .fieldOvercool
      (overcoolMet s.params (s.fieldResult l) && 30 ≤ (s.issue valveFirst l).fde.overcool) := by
  have kept : (s.issue valveFirst l).aou = ((s.decideAndRecord l).reportField (s.fieldResult l)).aou := by
    simp [State.issue]
  have count : (s.issue valveFirst l).fde.overcool = (s.decideAndRecord l).fde.overcool := by
    simp [State.issue]
  rw [kept, State.reportField, State.reportLive_live, count]
  simp

/-- Settles O37: both conditions are put as R82 and R83 test them, and the put of one bit leaves the others. -/
theorem fieldAlertsFollowTheComputation : Obligations.FieldAlertsFollowTheComputation := by
  refine ⟨by decide, fun valveFirst l s latched => issued_figures latched valveFirst ?_⟩
  intro error overcool
  have short := fieldShort_iff s.params (s.fieldResult l)
  have met := overcoolMet_iff s.params (s.fieldResult l)
  simp only [State.fieldResult_errs] at short met
  have count := State.issue_overcool valveFirst l s
  have live := State.issue_live valveFirst l s
  refine ⟨?_, fun cold => ?_, fun mild => ?_, ?_, fun c hs ho => ?_⟩
  · rw [live, hasAlert_putAlert, if_neg (by simp), hasAlert_putAlert, if_pos rfl]
    exact short
  · rw [count, if_pos (met.2 cold)]; rfl
  · rw [count, if_neg fun h => mild (met.1 h)]
  · rw [live, hasAlert_putAlert, if_pos rfl, Bool.and_eq_true, decide_eq_true_eq]
    exact and_congr_left' met
  · rw [live, hasAlert_putAlert, if_neg ho, hasAlert_putAlert, if_neg hs]

end Sys2Proof.Machine
end

section
/-! PROOFS. Stages 6 to 9: the own rank, lending, share, capacity and floor ceiling, and the duty fans with their
speed in every role (R65, R67, R72 to R78, R80). -/

namespace Sys2Proof.Machine

/-! ### Rank and lending (R72, R73) -/

/-- The peers ahead, with eligibility as R67 lists it (R67, R72). -/
theorem ahead_eq (own : Member) (peers : List Member) : ahead own peers
    = peers.filter fun m =>
      [Role.resting, .warming, .carrying, .shedding].contains m.role && 0 < m.h && m.before own := by
  unfold ahead
  simp only [Member.eligible_eq]

theorem notYetCarrying_iff (m : Member) : m.notYetCarrying = true
    ↔ m.role = .resting ∨ m.role = .warming ∨ (m.role = .carrying ∧ m.coldJoin = true) := by
  simp [Member.notYetCarrying, or_assoc]

/-- A member lends its ceiling, but not to a rotate-due station before it carries heat itself (R73). -/
theorem cBeforeOf_eq (own : Member) (peers : List Member) : cBeforeOf own peers
    = ((ahead own peers).map fun m => if own.tier = 3 ∧ (m.role = .resting ∨ m.role = .warming
        ∨ (m.role = .carrying ∧ m.coldJoin = true)) then 0 else m.h).sum := by
  unfold cBeforeOf
  congr 1
  refine List.map_congr_left fun m _ => ?_
  unfold Member.lends
  simp only [notYetCarrying_iff]

/-! ### The floor ceiling (R75, R76) -/

theorem newFloorCeiling_le (p : Params) (role : Role) (outlet : Option Int) (tFloor : Int) (c f : Nat) :
    newFloorCeiling p role outlet tFloor c f ≤ c := by
  have lowered : Nat.min f c ≤ c := Nat.min_le_right f c
  unfold newFloorCeiling
  dsimp only
  split
  · split
    · exact (Nat.sub_le _ _).trans lowered
    · split
      · exact Nat.min_le_left _ _
      · exact lowered
  · exact lowered
  · exact Nat.le_refl c

theorem newFloorCeiling_of_apart {role : Role} (h : role ≠ .carrying) (p : Params) (outlet : Option Int) (tFloor : Int)
    (c f : Nat) : newFloorCeiling p role outlet tFloor c f = c := by
  cases role <;> simp_all [newFloorCeiling]

/-- In CARRYING the floor ceiling goes by the own outlet's band (R76). -/
theorem newFloorCeiling_of_carrying (p : Params) (x tFloor : Int) (c f : Nat) :
    (x < tFloor → newFloorCeiling p .carrying (some x) tFloor c f = min f c - p.floorStep)
      ∧ (tFloor ≤ x → x < tFloor + 10 → newFloorCeiling p .carrying (some x) tFloor c f = min f c)
      ∧ (tFloor + 10 ≤ x → newFloorCeiling p .carrying (some x) tFloor c f = min c (min f c + p.floorStep)) := by
  unfold newFloorCeiling
  dsimp only
  refine ⟨fun below => if_pos below, fun above inside => ?_, fun warm => ?_⟩
  · rw [if_neg (by omega), if_neg (by omega)]
  · rw [if_neg (by omega), if_pos (by omega)]

/-- Settles O33: the own part of the computation, on the own role and flags as they stand at issue. -/
theorem ownShareAndCeilingFollowTheRank : Obligations.OwnShareAndCeilingFollowTheRank := by
  intro valveFirst l s latched
  refine issued_figures latched valveFirst ?_
  intro carries offered own ahead' cold lent eligible c f
  have offered_eq : s.fde.offered = offered := Fde.offered_eq _
  have own_eligible : (s.ownResult l).eligible = true ↔ eligible := by
    show _ ↔ l.bus = .active ∧ carries s.fde.role = true ∧ 0 < offered
    rw [← offered_eq]
    exact ownEligible_iff l.bus s.fde.role s.fde.offered
  have ahead_eq : ahead own s.peers = ahead' := ahead_eq own s.peers
  have cBefore : cBeforeOf own s.peers = (ahead'.map lent).sum := by rw [cBeforeOf_eq, ahead_eq]
  have h : (s.record l).h = newFloorCeiling s.params s.fde.role (ownOutlet l.scan) l.tFloor c s.fde.floorCeiling := rfl
  have share : (s.figures l).share
      = if (s.ownResult l).eligible = true then min offered ((s.record l).d - cBeforeOf own s.peers) else 0 := by
    rw [← offered_eq]; rfl
  refine ⟨fun able => ?_, fun unable => ?_, rfl, newFloorCeiling_le _ _ _ _ _ _, decide_eq_true_iff,
    fun apart => newFloorCeiling_of_apart apart _ _ _ _ _, fun carrying none => ?_, fun x carrying some => ?_⟩
  · have able' := own_eligible.2 able
    have figures : (s.figures l).tier = own.tier ∧ (s.figures l).position = (ahead own s.peers).length + 1
        ∧ (s.figures l).cBefore = cBeforeOf own s.peers := ⟨if_pos able', if_pos able', if_pos able'⟩
    obtain ⟨tier, position, before⟩ := figures
    rw [share, if_pos able', before, cBefore]
    exact ⟨tier, position.trans (by rw [ahead_eq]), rfl, rfl⟩
  · rw [share, if_neg fun able => unable (own_eligible.1 able)]
  · rw [h, carrying, none]; rfl
  · rw [h, carrying, some]
    exact newFloorCeiling_of_carrying _ _ _ _ _

/-! ### Staging (R77, R78) -/

/-- The ceiling of a quotient by its bounds. -/
theorem ceilDiv_bounds {q : Nat} (pos : 0 < q) (n : Nat) : n ≤ q * ceilDiv n q ∧ q * ceilDiv n q < n + q := by
  have below := Nat.mul_div_le (n + q - 1) q
  have above := Nat.lt_mul_div_succ (n + q - 1) pos
  unfold ceilDiv
  rw [Nat.mul_add] at above
  omega

/-- The previous record's staging, none before the first (R77). -/
theorem State.ownResult_staging (l : Latched) (s : State) : ((s.ownResult l).m, (s.ownResult l).v)
    = staging s.params s.fde.role s.fde.coldJoin (s.ownResult l).share l.nAvail l.runningCount
      ((s.fde.allotment.map Allotment.m).getD 0) ((s.fde.allotment.map Allotment.v).getD 0) := by
  unfold State.ownResult ownPart
  dsimp only
  cases s.fde.allotment <;> rfl

/-- Staging in SHEDDING: the speed ramps down until it falls below v_min or no fan runs (R78). -/
theorem staging_shedding (p : Params) (coldJoin : Bool) (share nAvail running mPrev vPrev : Nat) :
    let down : Int := (vPrev : Int) - p.shedRamp
    let stopped := down < p.vMin ∨ down ≤ 0 ∨ running = 0
    (stopped → staging p .shedding coldJoin share nAvail running mPrev vPrev = (0, 0))
      ∧ (¬ stopped → staging p .shedding coldJoin share nAvail running mPrev vPrev = (running, vPrev - p.shedRamp)
        ∧ ((vPrev - p.shedRamp : Nat) : Int) = down) := by
  intro down stopped
  have same : stopped ↔ vPrev - p.shedRamp < p.vMin ∨ vPrev - p.shedRamp = 0 ∨ running = 0 := by
    simp only [stopped, down]; omega
  refine ⟨fun h => if_pos (same.1 h), fun h => ⟨if_neg fun hs => h (same.2 hs), ?_⟩⟩
  simp only [stopped, down] at h ⊢
  omega

/-- Outside CARRYING and SHEDDING no duty fan is asked for (R78). -/
theorem staging_of_apart {role : Role} (carrying : role ≠ .carrying) (shedding : role ≠ .shedding) (p : Params)
    (coldJoin : Bool) (share nAvail running mPrev vPrev : Nat) :
    staging p role coldJoin share nAvail running mPrev vPrev = (0, 0) := by
  cases role <;> simp_all [staging]

/-- Settles O34: the staging by role, share and cold-join. -/
theorem stagingFollowsTheRole : Obligations.StagingFollowsTheRole := by
  intro valveFirst l s latched
  refine issued_record latched valveFirst ?_
  intro p mPrev vPrev down stopped
  have staged : ((s.record l).m, (s.record l).v) = staging p s.fde.role s.fde.coldJoin (s.record l).share l.nAvail
      l.runningCount mPrev vPrev := State.ownResult_staging l s
  obtain ⟨stop, shed⟩ := staging_shedding p s.fde.coldJoin (s.record l).share l.nAvail l.runningCount mPrev vPrev
  refine ⟨fun role warm some => ?_, fun role warm none => ?_, fun role cold => ?_, fun role h => ?_, fun role h => ?_,
    fun carrying shedding => ?_⟩
  · rw [role, warm] at staged
    obtain ⟨m, v⟩ := Prod.mk.inj (staged.trans (if_pos some))
    have bounds := ceilDiv_bounds (q := 256) (by norm_num) ((s.record l).share * p.nFit)
    rw [← m] at bounds v
    exact ⟨bounds.1, bounds.2, v⟩
  · rw [role, warm] at staged
    exact Prod.mk.inj (staged.trans (if_neg (by omega)))
  · rw [role, cold] at staged
    exact Prod.mk.inj staged
  · rw [role, stop h] at staged
    exact Prod.mk.inj staged
  · obtain ⟨ran, speed⟩ := shed h
    rw [role, ran] at staged
    obtain ⟨m, v⟩ := Prod.mk.inj staged
    exact ⟨m, by rw [v]; exact speed⟩
  · rw [staging_of_apart carrying shedding] at staged
    exact Prod.mk.inj staged

/-- A share of the capacity needs no more fans than are available (R75, R77). -/
theorem ceilDiv_le_nAvail {share nAvail nFit : Nat} (h : share ≤ capacity nAvail nFit) :
    ceilDiv (share * nFit) 256 ≤ nAvail := by
  have capped : share * nFit ≤ 256 * nAvail :=
    (Nat.mul_le_mul_right nFit h).trans (Nat.div_mul_le_self (256 * nAvail) nFit)
  obtain ⟨-, above⟩ := ceilDiv_bounds (q := 256) (by norm_num) (share * nFit)
  omega

/-- The speed for a share that its fans can carry is at most 1000 ‰ (R77). -/
theorem speedFor_le {nFit s m : Nat} (h : s * nFit ≤ 256 * m) : speedFor nFit s m ≤ 1000 := by
  unfold speedFor
  rcases Nat.eq_zero_or_pos m with rfl | pos
  · simp
  · refine Nat.lt_succ_iff.1 ((Nat.div_lt_iff_lt_mul (by omega)).2 ?_)
    have scaled : 2 * s * nFit * 1000 = 2000 * (s * nFit) := by ring
    omega

/-- Settles O35: case by case of the staging, under the ceiling that the share keeps. -/
theorem stagingStaysInRange : Obligations.StagingStaysInRange := by
  intro valveFirst l s latched fitted least running previous
  refine issued_record latched valveFirst ?_
  have staged : ((s.record l).m, (s.record l).v) = staging s.params s.fde.role s.fde.coldJoin (s.record l).share
      l.nAvail l.runningCount ((s.fde.allotment.map Allotment.m).getD 0)
      ((s.fde.allotment.map Allotment.v).getD 0) := State.ownResult_staging l s
  have vPrev : (s.fde.allotment.map Allotment.v).getD 0 ≤ 1000 := by
    cases ha : s.fde.allotment with
    | none => simp
    | some a => exact previous a ha
  have share : (s.record l).share ≤ capacity l.nAvail s.params.nFit :=
    (Nat.min_le_right _ _).trans (newFloorCeiling_le _ _ _ _ _ _)
  have fans := ceilDiv_le_nAvail share
  obtain ⟨carried, -⟩ := ceilDiv_bounds (q := 256) (by norm_num) ((s.record l).share * s.params.nFit)
  generalize (s.fde.allotment.map Allotment.v).getD 0 = v at *
  suffices (staging s.params s.fde.role s.fde.coldJoin (s.record l).share l.nAvail l.runningCount
      ((s.fde.allotment.map Allotment.m).getD 0) v).1 ≤ l.nAvail
      ∧ (staging s.params s.fde.role s.fde.coldJoin (s.record l).share l.nAvail l.runningCount
      ((s.fde.allotment.map Allotment.m).getD 0) v).2 ≤ 1000 by rwa [← staged] at this
  unfold staging
  split
  · split
    · simp
    · split
      · exact ⟨fans, Nat.max_le.2 ⟨least, speedFor_le carried⟩⟩
      · exact ⟨Nat.min_le_right _ _, vPrev⟩
  · dsimp only
    split
    · simp
    · exact ⟨running, (Nat.sub_le _ _).trans vPrev⟩
  all_goals simp

end Sys2Proof.Machine
end

section
/-! PROOFS. Members: which rows they come from, their one rank order, and the shares that together carry the duty
(R66, R72 to R74). -/

namespace Sys2Proof.Machine

/-! ### The members of a computation (R66) -/

theorem peerOfRow_eq_some {own : Nat} {loop : Bool} {row : Row} {k : Nat} {m : Member} :
    peerOfRow own loop row k = some m ↔ ∃ b, row.snapCopy = some b ∧ row.snapState ≠ .absent ∧ b.loop = loop
      ∧ k ≠ own ∧ m = b.member k := by
  unfold peerOfRow
  cases row.snapCopy with
  | none => simp
  | some b => simp [and_assoc, eq_comm]

/-- The rows in number order. -/
theorem mem_zipIdx_rows {r : Row × Nat} (rows : Vector Row 24) :
    r ∈ rows.toList.zipIdx ↔ ∃ h : r.2 < 24, r.1 = rows[r.2] := by
  rw [List.mem_zipIdx_iff_getElem?, Vector.getElem?_toList, Vector.getElem?_eq_some_iff]
  simp only [eq_comm]

theorem mem_peersOf {own : Nat} {loop : Bool} {t : Btb} {m : Member} :
    m ∈ peersOf own loop t.rows ↔ ∃ k b, 1 ≤ k ∧ k ≤ 24 ∧ k ≠ own ∧ (t.row k).snapCopy = some b
      ∧ (t.row k).snapState ≠ .absent ∧ b.loop = loop ∧ m = b.member k := by
  simp only [peersOf, List.mem_filterMap, mem_zipIdx_rows, peerOfRow_eq_some]
  constructor
  · rintro ⟨⟨row, i⟩, ⟨hi, number⟩, b, copy, state, same, other, rfl⟩
    dsimp only at hi number
    have here : t.row (i + 1) = row := (Btb.row_eq_getElem (by omega) (by omega) t).trans number.symm
    exact ⟨i + 1, b, by omega, by omega, other, here ▸ copy, here ▸ state, same, rfl⟩
  · rintro ⟨k, b, low, high, other, copy, state, same, rfl⟩
    have here : t.row k = t.rows[k - 1] := Btb.row_eq_getElem low high t
    have next : k - 1 + 1 = k := Nat.sub_add_cancel low
    exact ⟨⟨t.rows[k - 1], k - 1⟩, ⟨by omega, rfl⟩, b, here ▸ copy, here ▸ state, same, by rwa [next], by rw [next]⟩

/-- Different rows make members of different addresses (R66). -/
theorem peersOf_nodup (own : Nat) (loop : Bool) (rows : Vector Row 24) :
    ((peersOf own loop rows).map Member.address).Nodup := by
  have address : ∀ {r : Row × Nat} {m : Member}, peerOfRow own loop r.1 (r.2 + 1) = some m → m.address = r.2 + 1 := by
    intro r m h
    obtain ⟨b, -, -, -, -, rfl⟩ := peerOfRow_eq_some.1 h
    rfl
  have numbers : (rows.toList.zipIdx.map Prod.snd).Nodup := by
    rw [List.zipIdx_map_snd]
    exact List.nodup_range'
  rw [List.Nodup, List.pairwise_map, peersOf, List.pairwise_filterMap]
  refine (List.pairwise_map.1 numbers).imp fun {r r'} different m hm m' hm' => ?_
  rw [address hm, address hm']
  omega

/-! ### The rank order (R72) -/

theorem Member.before_iff (a b : Member) : a.before b = true ↔ a.tier < b.tier ∨ (a.tier = b.tier ∧
    (b.restAge < a.restAge ∨ (a.restAge = b.restAge ∧ a.address < b.address))) := by
  simp [Member.before]

theorem Member.before_trans {a b c : Member} (h : a.before b = true) (h' : b.before c = true) : a.before c = true := by
  rw [Member.before_iff] at *
  omega

/-- Members of different addresses are ranked one before the other, and not both ways (R72). -/
theorem Member.before_iff_not {a b : Member} (h : a.address ≠ b.address) :
    a.before b = true ↔ b.before a = false := by
  rw [Bool.eq_false_iff, Ne, Member.before_iff, Member.before_iff]
  omega

theorem Member.before_irrefl (a : Member) : a.before a = false := by
  rw [Bool.eq_false_iff, Ne, Member.before_iff]
  omega

theorem Member.tier_iff (m : Member) :
    (m.tier = 0 ↔ (m.role = .carrying ∧ m.rotateDue = false) ∨ m.role = .warming)
      ∧ (m.tier = 1 ↔ m.role = .shedding) ∧ (m.role = .resting → m.tier = 2)
      ∧ (m.tier = 3 ↔ m.role = .carrying ∧ m.rotateDue = true) := by
  unfold Member.tier
  cases m.role <;> cases m.rotateDue <;> simp [tierOf]

/-- Settles O38: the members by their rows, and the rank order by its key. -/
theorem membersAreRankedInOneOrder : Obligations.MembersAreRankedInOneOrder :=
  ⟨fun _ => ⟨peersOf_nodup _ _ _, fun _ => mem_peersOf⟩, Member.tier_iff, Member.before_iff,
    fun _ _ => Member.before_iff_not, fun _ _ _ => Member.before_trans⟩

/-! ### The shares together (R73, R74) -/

/-- An eligible station that is not rotate-due has lent to it the ceiling of every eligible member ahead (R73). -/
theorem cBeforeOf_of_steady {own : Member} (steady : own.tier ≠ 3) {ms : List Member}
    (eligible : ∀ m ∈ ms, m.eligible = true) :
    cBeforeOf own ms = ((ms.filter (Member.before · own)).map Member.h).sum := by
  have lends : Member.lends own.tier = Member.h := by
    funext m
    simp [Member.lends, steady]
  have same : ahead own ms = ms.filter (Member.before · own) :=
    List.filter_congr fun m hm => by simp [eligible m hm]
  rw [cBeforeOf, lends, same]

/-- In a list ranked from the last member to the first, each share fills what those behind it in the list leave. -/
theorem shares_of_ranked (d : Nat) {ms : List Member} (ranked : ms.Pairwise fun a b => b.before a = true) :
    (ms.map fun m => shareOf d ((ms.filter (Member.before · m)).map Member.h).sum m.h).sum
      = min d (ms.map Member.h).sum := by
  induction ms with
  | nil => simp
  | cons last ms ih =>
    obtain ⟨ahead, rest⟩ := List.pairwise_cons.1 ranked
    have behind : ∀ m ∈ ms, last.before m = false := fun m hm => by
      by_contra both
      have loop := Member.before_trans (ahead m hm) (by simpa using both)
      simp [Member.before_irrefl] at loop
    have lastAhead : (last :: ms).filter (Member.before · last) = ms := by
      rw [List.filter_cons_of_neg (by simp [Member.before_irrefl]), List.filter_eq_self.2 ahead]
    have others : (ms.map fun m => shareOf d (((last :: ms).filter (Member.before · m)).map Member.h).sum m.h)
        = ms.map fun m => shareOf d ((ms.filter (Member.before · m)).map Member.h).sum m.h :=
      List.map_congr_left fun m hm => by rw [List.filter_cons_of_neg (by simp [behind m hm])]
    rw [List.map_cons, List.sum_cons, lastAhead, others, ih rest, List.map_cons, List.sum_cons]
    show min last.h (d - (ms.map Member.h).sum) + _ = _
    omega

/-- Members of different addresses can be listed from the last rank to the first (R72). -/
theorem exists_ranked {ms : List Member} (different : (ms.map Member.address).Nodup) :
    ∃ ranked : List Member, ranked.Perm ms ∧ ranked.Pairwise fun a b => b.before a = true := by
  refine ⟨ms.mergeSort fun a b => !a.before b, List.mergeSort_perm _ _, ?_⟩
  have sorted := List.pairwise_mergeSort (le := fun a b : Member => !a.before b)
    (fun a b c h h' => by
      simp only [Bool.not_eq_true', Bool.eq_false_iff, Ne, Member.before_iff] at *
      omega)
    (fun a b => by
      cases hab : a.before b
      · simp
      · cases hba : b.before a
        · simp
        · have := Member.before_trans hab hba
          simp [Member.before_irrefl] at this) ms
  have apart : (ms.mergeSort fun a b => !a.before b).Pairwise fun a b => a.address ≠ b.address :=
    List.pairwise_map.1 (((List.mergeSort_perm ms _).map Member.address).nodup_iff.2 different)
  exact (sorted.and apart).imp fun {a b} h => (Member.before_iff_not h.2.symm).2 (by simpa using h.1)

/-- Settles O39: taken in rank order, each member's share fills the duty that those ranked before it leave. -/
theorem sharesCarryTheDuty : Obligations.SharesCarryTheDuty := by
  intro d ms different steady
  obtain ⟨ranked, perm, order⟩ := exists_ranked different
  have plain : (ms.map fun m => shareOf d (cBeforeOf m ms) m.h)
      = ms.map fun m => shareOf d ((ranked.filter (Member.before · m)).map Member.h).sum m.h :=
    List.map_congr_left fun m hm => by
      rw [cBeforeOf_of_steady (steady m hm).2 fun m hm => (steady m hm).1, ((perm.filter _).map _).sum_eq]
  rw [plain, ← (perm.map _).sum_eq, ← (perm.map _).sum_eq, shares_of_ranked d order]

end Sys2Proof.Machine
end

section
/-! PROOFS. Changes of role: the role machine's timers, what the valve, the fans and the monitor take of the report
(R85, R86, R93, R116, R117, R133, R136, R142, R143). -/

namespace Sys2Proof.Machine

/-! ### Timers (R93, R116, R136, R154, R156) -/

theorem State.timer_startIf (a b : TimerId) (on : Bool) (s : State) : (s.startIf on b).timer a
    = if on = true ∧ a = b then (s.timer b).start b.retriggerable (s.timerParams b) else s.timer a := by
  cases on <;> simp [State.startIf, State.timer_startTimer]

theorem State.timer_stopIf (a b : TimerId) (on : Bool) (s : State) : (s.stopIf on b).timer a
    = if on = true ∧ a = b then (s.timer b).stop else s.timer a := by
  cases on <;> simp [State.stopIf, State.timer_stopTimer]

/-- An expiry that is due is its timer's part, then its owner's (R156). -/
theorem State.takeExpiry_of_due {id : TimerId} {s : State} (due : (s.timer id).due = true) (owner : State → State) :
    s.takeExpiry id owner = owner (s.expire id) := if_pos due

/-- A single-pass timer at its expiry (R156). -/
theorem State.timer_expire_single {id : TimerId} (single : id.repeating = false) (s : State) :
    (s.expire id).timer id = (s.timer id).expired := by
  simp [State.timer_expire, Timer.expire, single, Timer.expired]

theorem State.timer_expire_ne {a b : TimerId} (h : a ≠ b) (s : State) : (s.expire b).timer a = s.timer a :=
  (State.timer_expire a b s).trans (if_neg h)

/-- The FCC's part of a report of role starts T_EXER in RESTING, and no other timer (R136). -/
theorem State.timer_fccReport (a : TimerId) (s : State) : s.fccReport.timer a
    = if s.fde.role = .resting ∧ a = .exer then (s.timer .exer).start false (s.timerParams .exer)
      else s.timer a := by
  have bank : ∀ f a, (s.setFcc f).timer a = s.timer a := fun f a => State.timer_congr (State.setFcc_itb f s) a
  simp [State.fccReport, State.timer_startIf, bank, State.timerParams, TimerId.retriggerable]

/-- The monitor's timers (R104). -/
abbrev frostTimers : List TimerId := [.guard, .prot, .recov, .stag]

/-- A suspension stops the monitor's timers (R116). -/
theorem State.timer_suspend (a : TimerId) (s : State) :
    s.suspend.timer a = if a ∈ frostTimers then (s.timer a).stop else s.timer a := by
  have bank : s.suspend.timer a = s.stopFrostTimers.timer a := rfl
  rw [bank, State.stopFrostTimers]
  cases a <;> simp [State.timer_stopTimer]

/-! ### The monitor at a report of role (R116, R117) -/

/-- A drained withdrawal. -/
abbrev Fde.Drained (f : Fde) : Prop := f.role = .withdrawn ∧ f.drained = true

@[simp] theorem Fde.enter_role (cause : RoleCause) (new : Role) (drained : Bool) (f : Fde) :
    (f.enter cause new drained).role = new := rfl

theorem Fde.enter_drained_iff (cause : RoleCause) (new : Role) (drained : Bool) (f : Fde) :
    (f.enter cause new drained).Drained ↔ new = .withdrawn ∧ drained = true := by
  cases new <;> simp [Fde.Drained, Fde.enter]

theorem State.cfmReport_of_drained {s : State} (drained : s.fde.Drained) (active : s.cfm.suspended = false) :
    s.cfmReport = s.suspend := by
  unfold State.cfmReport
  exact (if_pos drained).trans (if_neg (by simp [active]))

theorem State.cfmReport_of_suspended {s : State} (drained : s.fde.Drained) (suspended : s.cfm.suspended = true) :
    s.cfmReport = s := by
  unfold State.cfmReport
  exact (if_pos drained).trans (if_pos suspended)

theorem State.cfmReport_of_apart {s : State} (apart : ¬ s.fde.Drained) : s.cfmReport = s.resume := by
  unfold State.cfmReport
  exact if_neg apart

theorem State.timer_cfmReport (a : TimerId) (s : State) : s.cfmReport.timer a
    = if (s.fde.Drained ∧ s.cfm.suspended = false) ∧ a ∈ frostTimers then (s.timer a).stop else s.timer a := by
  by_cases drained : s.fde.Drained
  · cases active : s.cfm.suspended
    · rw [State.cfmReport_of_drained drained active, State.timer_suspend]
      by_cases monitor : a ∈ frostTimers
      · rw [if_pos monitor, if_pos ⟨⟨drained, rfl⟩, monitor⟩]
      · rw [if_neg monitor, if_neg fun h => monitor h.2]
    · rw [State.cfmReport_of_suspended drained active, if_neg (by simp)]
  · rw [State.cfmReport_of_apart drained, if_neg fun h => drained h.1.1]
    rfl

/-! ### The command at a report (R114, R142, R143) -/

/-- Where a report puts a command that it finds at `before`, in the role and frost state of `v`. -/
def Vdr.SettlesAt (p : Params) (before : Nat) (v : Vdr) (command : Nat) : Prop :=
  (v.frost.forces = true → command = 1000)
    ∧ (v.frost.forces = false →
      (v.role = .init ∨ v.role = .carrying ∨ v.role = .protect → command = 1000)
        ∧ (v.role = .warming ∨ v.role = .shedding → command = max before (minOpening p v.frost))
        ∧ (v.role = .resting → command = minOpening p v.frost)
        ∧ (v.role = .withdrawn → command = if v.drained then 0 else minOpening p v.frost))

/-- `Vdr.SettlesAt` is the command that the statements ask for, where the VDR knows role and frost state. -/
theorem commandAtReport_iff {s t : State} (role : t.vdr.role = t.fde.role) (drained : t.vdr.drained = t.fde.drained)
    (frost : t.vdr.frost = t.cfm.frost) :
    CommandAtReport s t ↔ t.vdr.SettlesAt t.params s.vdr.command t.vdr.command := by
  unfold CommandAtReport Vdr.SettlesAt
  rw [role, drained, frost]
  rfl

theorem Vdr.SettlesAt.congr {p : Params} {before command : Nat} {v w : Vdr} (h : v.SettlesAt p before command)
    (role : w.role = v.role) (drained : w.drained = v.drained) (frost : w.frost = v.frost) :
    w.SettlesAt p before command := by
  unfold Vdr.SettlesAt at *
  rwa [role, drained, frost]

/-- A report settles the command, unless it brings a cell with fans turning into SHEDDING. -/
theorem Vdr.settled_settlesAt (p : Params) {before : Role} {v : Vdr} (known : v.role = .shedding → before = .shedding) :
    v.SettlesAt p v.command (v.settled p before) := by
  unfold Vdr.SettlesAt Vdr.settled
  cases frost : v.frost <;> cases role : v.role <;>
    simp_all [FrostState.forces, Vdr.target, Nat.max_def]

/-- A report of role and drained attribute settles the command once an allotment has been received (R86, R143). -/
theorem Vdr.roleReport_settlesAt {p : Params} {r : Role} {v : Vdr} (received : v.allotmentReceived = true)
    (known : r = .shedding → v.role = .shedding) (d : Bool) :
    (v.roleReport p r d).SettlesAt p v.command (v.roleReport p r d).command := by
  obtain ⟨command, role, drained, frost, -⟩ := Vdr.act_eq p v.role { v with role := r, drained := d }
  have settles := Vdr.settled_settlesAt p (before := v.role) (v := { v with role := r, drained := d }) known
  unfold Vdr.SettlesAt Vdr.roleReport at *
  rw [command, role, drained, frost, if_pos received]
  exact settles

/-- A report of the frost state settles the command once an allotment has been received (R113, R114, R143). -/
theorem Vdr.frostReport_settlesAt {p : Params} {v : Vdr} (received : v.allotmentReceived = true) (f : FrostState) :
    (v.frostReport p f).SettlesAt p v.command (v.frostReport p f).command := by
  obtain ⟨command, role, drained, frost, -⟩ := Vdr.act_eq p v.role { v with frost := f }
  have settles := Vdr.settled_settlesAt p (before := v.role) (v := { v with frost := f }) id
  unfold Vdr.SettlesAt Vdr.frostReport at *
  rw [command, role, drained, frost, if_pos received]
  exact settles

/-- Before the first allotment a report leaves the command (R141). -/
theorem Vdr.command_of_unreceived {v : Vdr} (early : v.allotmentReceived = false) (p : Params) :
    (∀ r d, (v.roleReport p r d).command = v.command) ∧ ∀ f, (v.frostReport p f).command = v.command := by
  have act : ∀ (before : Role) (w : Vdr), w.allotmentReceived = false → (w.act p before).command = w.command :=
    fun before w hw => by simp [Vdr.act_eq, hw]
  exact ⟨fun r d => act _ _ early, fun f => act _ _ early⟩

theorem CommandAtReport.congr {s t u v : State} (h : CommandAtReport u v) (before : u.vdr.command = s.vdr.command)
    (params : t.params = v.params) (cfm : t.cfm = v.cfm) (fde : t.fde = v.fde)
    (command : t.vdr.command = v.vdr.command) : CommandAtReport s t := by
  have least : t.leastOpening = v.leastOpening := by
    rw [State.leastOpening_eq, State.leastOpening_eq, params, cfm]
  unfold CommandAtReport
  rw [least, cfm, command, fde, ← before]
  exact h

/-- The command at a report settles alike from any command found, but for a warming or shedding cell. -/
theorem CommandAtReport.of_settled {s u t : State} (h : CommandAtReport u t) (warming : t.fde.role ≠ .warming)
    (shedding : t.fde.role ≠ .shedding) : CommandAtReport s t := by
  obtain ⟨forced, steered⟩ := h
  refine ⟨forced, fun free => ?_⟩
  obtain ⟨opened, -, resting, withdrawn⟩ := steered free
  exact ⟨opened, fun moving => by simp_all, resting, withdrawn⟩

/-- A suspension opens or closes the valve for a cell in CLEAR (R114, R116, R143). -/
theorem State.suspend_command {s : State} (received : s.vdr.allotmentReceived = true)
    (role : s.vdr.role = s.fde.role) (drained : s.vdr.drained = s.fde.drained) : CommandAtReport s s.suspend := by
  obtain ⟨role', drained', frost', -⟩ := Vdr.frostReport_eq s.params .clear s.vdr
  refine (commandAtReport_iff ?_ ?_ ?_).2 ?_
  · simpa [role'] using role
  · simpa [drained'] using drained
  · rw [State.suspend_vdr, State.suspend_cfm, frost']; rfl
  · simpa using Vdr.frostReport_settlesAt received .clear

/-- The monitor's suspension at a report leaves the command where the role and the new frost state put it (R143). -/
theorem State.cfmReport_command {s t : State} (told : CommandAtReport s t) (received : t.vdr.allotmentReceived = true)
    (role : t.vdr.role = t.fde.role) (drained : t.vdr.drained = t.fde.drained) : CommandAtReport s t.cfmReport := by
  by_cases withdrawal : t.fde.Drained
  · cases active : t.cfm.suspended
    · rw [State.cfmReport_of_drained withdrawal active]
      exact (State.suspend_command received role drained).of_settled (by simp [withdrawal.1])
        (by simp [withdrawal.1])
    · rwa [State.cfmReport_of_suspended withdrawal active]
  · rw [State.cfmReport_of_apart withdrawal]
    exact told

/-- Before the first allotment a suspension leaves the command (R141). -/
theorem State.cfmReport_command_unreceived {s : State} (early : s.vdr.allotmentReceived = false) :
    s.cfmReport.vdr.command = s.vdr.command := by
  by_cases withdrawal : s.fde.Drained
  · cases active : s.cfm.suspended
    · rw [State.cfmReport_of_drained withdrawal active, State.suspend_vdr, (Vdr.command_of_unreceived early _).2]
    · rw [State.cfmReport_of_suspended withdrawal active]
  · rw [State.cfmReport_of_apart withdrawal]
    rfl

/-! ### Changes of role (R85, R86, R93) -/

/-- A change of role that the valve and the fans have taken, and the monitor not yet. -/
def State.enterAndTell (cause : RoleCause) (new : Role) (drained : Bool) (s : State) : State :=
  (s.enterRole cause new drained).vdrReport.fccReport

theorem State.enterAndTell_blocks (cause : RoleCause) (new : Role) (drained : Bool) (s : State) :
    (s.enterAndTell cause new drained).fde = s.fde.enter cause new drained
      ∧ (s.enterAndTell cause new drained).cfm = s.cfm ∧ (s.enterAndTell cause new drained).aou = s.aou
      ∧ (s.enterAndTell cause new drained).params = s.params
      ∧ (s.enterAndTell cause new drained).fcc = s.fcc.roleReport new
      ∧ (s.enterAndTell cause new drained).vdr
        = { s.vdr.roleReport s.params new (drained && new == .withdrawn) with
            fansAtRest := !(s.fcc.roleReport new).anyTurning } := by
  unfold State.enterAndTell
  simp only [State.fccReport_vdr]
  simp [Fde.enter]

theorem State.timer_enterAndTell (a : TimerId) (cause : RoleCause) (new : Role) (drained : Bool) (s : State) :
    (s.enterAndTell cause new drained).timer a
      = if new = .resting ∧ a = .exer then (s.timer .exer).start false (s.timerParams .exer)
        else (s.enterRole cause new drained).timer a := by
  have bank : ∀ c, (s.enterRole cause new drained).vdrReport.timer c = (s.enterRole cause new drained).timer c :=
    fun _ => rfl
  have role : (s.enterRole cause new drained).vdrReport.fde.role = new := rfl
  have params : (s.enterRole cause new drained).vdrReport.timerParams .exer = s.timerParams .exer :=
    State.timerParams_congr (by simp) _
  rw [State.enterAndTell, State.timer_fccReport, bank, bank, role, params, State.timer_enterRole (by decide)]

/-- A change of role outside an allotment reaches the valve and the fans first, then the monitor (R86). -/
theorem State.changeRole_eq_cfmReport (cause : RoleCause) (new : Role) (drained : Bool) (s : State) :
    s.changeRole cause new drained = (s.enterAndTell cause new drained).cfmReport := rfl

/-- A change of role that is no drained withdrawal leaves the monitor active (R117). -/
theorem State.changeRole_of_apart {new : Role} {drained : Bool} (apart : ¬ (new = .withdrawn ∧ drained = true))
    (cause : RoleCause) (s : State) :
    s.changeRole cause new drained = (s.enterAndTell cause new drained).resume := by
  obtain ⟨fde, -⟩ := State.enterAndTell_blocks cause new drained s
  exact State.cfmReport_of_apart (fde ▸ mt (Fde.enter_drained_iff ..).1 apart)

@[simp] theorem State.changeRole_fcc (cause : RoleCause) (new : Role) (drained : Bool) (s : State) :
    (s.changeRole cause new drained).fcc = s.fcc.roleReport new := by
  simp [State.changeRole, State.reportRole]

/-- What a change of role that is no drained withdrawal leaves alone (R85, R86, R117, R133). -/
theorem State.changeRole_eq {new : Role} {drained : Bool} (apart : ¬ (new = .withdrawn ∧ drained = true))
    (cause : RoleCause) (s : State) : s.changeRole cause new drained = { s with
      fde := s.fde.enter cause new drained
      cfm := { s.cfm with suspended := false }
      fcc := s.fcc.roleReport new
      vdr := (s.changeRole cause new drained).vdr
      itb := (s.changeRole cause new drained).itb } := by
  have frame := State.changeRole_frame cause new drained s
  have fde := State.changeRole_fde cause new drained s
  have fcc := State.changeRole_fcc cause new drained s
  have rest : (s.changeRole cause new drained).cfm = { s.cfm with suspended := false }
      ∧ (s.changeRole cause new drained).aou = s.aou := by
    obtain ⟨-, cfm, aou, -⟩ := State.enterAndTell_blocks cause new drained s
    rw [State.changeRole_of_apart apart, ← cfm, ← aou]
    exact ⟨rfl, rfl⟩
  generalize s.changeRole cause new drained = t at *
  cases t
  simp_all

/-- The timers at a change to a role other than WARMING and CARRYING (R93). -/
theorem State.timer_enterRole_left {new : Role} (warming : new ≠ .warming) (carrying : new ≠ .carrying) (a : TimerId)
    (cause : RoleCause) (drained : Bool) (s : State) : (s.enterRole cause new drained).timer a
      = if (a = .warm ∧ s.fde.role = .warming) ∨ (a = .rot ∧ s.fde.role = .carrying)
          ∨ (a = .shed ∧ (s.fde.role = .warming ∨ s.fde.role = .carrying)) then (s.timer a).stop
        else s.timer a := by
  have bank : (s.enterRole cause new drained).timer a = (s.roleTimers s.fde.role new).timer a := rfl
  rw [bank, State.roleTimers]
  simp only [State.timer_startIf, State.timer_stopIf, beq_iff_eq, warming, carrying, false_and, if_false,
    Bool.or_eq_true, Bool.and_eq_true, bne_iff_ne, ne_eq, not_false_eq_true, and_true]
  cases a <;> simp [or_comm]

/-- The timers after the reports of a change of role (R93, R116, R136). -/
theorem State.timer_changeRole (a : TimerId) (cause : RoleCause) (new : Role) (drained : Bool) (s : State) :
    (s.changeRole cause new drained).timer a
      = if (new = .withdrawn ∧ drained = true ∧ s.cfm.suspended = false) ∧ a ∈ frostTimers then (s.timer a).stop
        else if new = .resting ∧ a = .exer then (s.timer .exer).start false (s.timerParams .exer)
        else (s.enterRole cause new drained).timer a := by
  obtain ⟨fde, cfm, -⟩ := State.enterAndTell_blocks cause new drained s
  have same : ((s.fde.enter cause new drained).Drained ∧ s.cfm.suspended = false) ∧ a ∈ frostTimers
      ↔ (new = .withdrawn ∧ drained = true ∧ s.cfm.suspended = false) ∧ a ∈ frostTimers := by
    rw [Fde.enter_drained_iff, and_assoc (a := new = .withdrawn)]
  rw [State.changeRole_eq_cfmReport, State.timer_cfmReport, State.timer_enterAndTell, fde, cfm]
  by_cases suspends : (new = .withdrawn ∧ drained = true ∧ s.cfm.suspended = false) ∧ a ∈ frostTimers
  · have own : a ≠ .warm ∧ a ≠ .rot ∧ a ≠ .shed := by cases a <;> simp_all
    rw [if_pos (same.2 suspends), if_pos suspends, if_neg (by simp [suspends.1.1]), State.timer_enterRole own]
  · rw [if_neg (mt same.1 suspends), if_neg suspends]

/-- T_WARM, T_ROT and T_SHED at a change to a role other than WARMING and CARRYING (R93). -/
theorem State.roleTimersLeft_changeRole {new : Role} (warming : new ≠ .warming) (carrying : new ≠ .carrying)
    (cause : RoleCause) (drained : Bool) (s : State) : RoleTimersLeft s (s.changeRole cause new drained) := by
  have role : (s.changeRole cause new drained).fde.role = new := by simp
  unfold RoleTimersLeft
  rw [role]
  simp [State.timer_changeRole, State.timer_enterRole_left warming carrying, warming, carrying, Timer.stop]

/-- The command after a change of role that does not bring the cell into SHEDDING, as the valve takes it (R143). -/
theorem State.enterAndTell_command {new : Role} {s : State} (received : s.vdr.allotmentReceived = true)
    (frost : s.vdr.frost = s.cfm.frost) (shedding : new ≠ .shedding) (cause : RoleCause) (drained : Bool) :
    CommandAtReport s (s.enterAndTell cause new drained) := by
  obtain ⟨fde, cfm, -, params, -, vdr⟩ := State.enterAndTell_blocks cause new drained s
  obtain ⟨role', drained', frost', -⟩ := Vdr.roleReport_eq s.params new (drained && new == .withdrawn) s.vdr
  refine (commandAtReport_iff ?_ ?_ ?_).2 ?_
  · rw [vdr, fde]; exact role'
  · rw [vdr, fde]; exact drained'
  · rw [vdr, cfm]; exact frost'.trans frost
  · have settles := Vdr.roleReport_settlesAt (p := s.params) received (fun h => absurd h shedding)
      (drained && new == .withdrawn)
    rw [vdr, params]
    exact settles.congr rfl rfl rfl

/-- The command after a change of role that does not bring the cell into SHEDDING (R142, R143). -/
theorem State.changeRole_command {new : Role} {s : State} (received : s.vdr.allotmentReceived = true)
    (frost : s.vdr.frost = s.cfm.frost) (shedding : new ≠ .shedding) (cause : RoleCause)
    (drained : Bool) : CommandAtReport s (s.changeRole cause new drained) := by
  obtain ⟨fde, -, -, -, -, vdr⟩ := State.enterAndTell_blocks cause new drained s
  obtain ⟨role', drained', -, -, received', -⟩ := Vdr.roleReport_eq s.params new (drained && new == .withdrawn) s.vdr
  rw [State.changeRole_eq_cfmReport]
  refine State.cfmReport_command (State.enterAndTell_command received frost shedding cause drained) ?_ ?_ ?_
  · rw [vdr]; exact received'.trans received
  · rw [vdr, fde]; exact role'
  · rw [vdr, fde]; exact drained'

/-- Before the first allotment a change of role leaves the command (R141). -/
theorem State.changeRole_command_unreceived {s : State} (early : s.vdr.allotmentReceived = false) (cause : RoleCause)
    (new : Role) (drained : Bool) : (s.changeRole cause new drained).vdr.command = s.vdr.command := by
  obtain ⟨-, -, -, -, -, vdr⟩ := State.enterAndTell_blocks cause new drained s
  obtain ⟨-, -, -, -, received', -⟩ := Vdr.roleReport_eq s.params new (drained && new == .withdrawn) s.vdr
  obtain ⟨roles, -⟩ := Vdr.command_of_unreceived early s.params
  have early' : (s.enterAndTell cause new drained).vdr.allotmentReceived = false := by
    rw [vdr]; exact received'.trans early
  rw [State.changeRole_eq_cfmReport, State.cfmReport_command_unreceived early', vdr]
  exact roles new (drained && new == .withdrawn)

end Sys2Proof.Machine
end

section
/-! PROOFS. The expiries of T_ROT, T_WARM and T_SHED in the role machine, the fans and the valve (R86, R93 to R96,
R133, R136, R143, R156). -/

namespace Sys2Proof.Machine

/-- T_WARM and T_ROT at WARMING's end in CARRYING; no other timer moves (R93). -/
theorem State.timer_enterRole_warmed {s : State} (warming : s.fde.role = .warming) (a : TimerId) (cause : RoleCause)
    (drained : Bool) : (s.enterRole cause .carrying drained).timer a
      = if a = .warm then (s.timer .warm).stop
        else if a = .rot then (s.timer .rot).start false (s.timerParams .rot) else s.timer a := by
  have bank : (s.enterRole cause .carrying drained).timer a = (s.roleTimers s.fde.role .carrying).timer a := rfl
  have params : ∀ on b, (s.stopIf on b).timerParams .rot = s.timerParams .rot := fun on b =>
    State.timerParams_congr (by simp) _
  rw [bank, State.roleTimers, warming]
  cases a <;> simp [State.startIf, State.stopIf, State.timer_startTimer, State.timer_stopTimer, TimerId.retriggerable]
  rfl

theorem Timer.start_running (retriggerable : Bool) (tp : TimerParams) (t : Timer) :
    (t.start retriggerable tp).running = true := by
  unfold Timer.start
  split <;> simp_all [Timer.load]

theorem Timer.expired_stop (t : Timer) : t.expired.stop = t.expired := rfl

/-- T_WARM expiry in WARMING is a change of role with cold-join set (R94). -/
theorem State.warmExpired_of_warming {s : State} (warming : s.fde.role = .warming) :
    s.warmExpired = (s.changeRole .warmExpiry .carrying false).setColdJoin :=
  (if_pos warming).trans (State.reportRole_setColdJoin _)

/-- At a report that leaves the cell in SHEDDING coming from CARRYING the valve opens, or stays open, for as long as
fans turn (R142, R143). -/
theorem Vdr.roleReport_shedding {v : Vdr} (received : v.allotmentReceived = true) (before : v.role = .carrying)
    (free : v.frost.forces = false) (p : Params) (d : Bool) : (v.roleReport p .shedding d).command
      = if v.fansAtRest then max v.command (minOpening p v.frost) else 1000 := by
  obtain ⟨command, -⟩ := Vdr.act_eq p v.role { v with role := .shedding, drained := d }
  rw [Vdr.roleReport, command, if_pos received, before]
  cases frost : v.frost <;> cases rest : v.fansAtRest <;>
    simp_all [Vdr.settled, FrostState.forces, Nat.max_def]

/-- A report that brings the cell into CARRYING opens the valve, whatever the frost state (R142, R143). -/
theorem Vdr.roleReport_carrying {v : Vdr} (received : v.allotmentReceived = true) (p : Params) (d : Bool) :
    (v.roleReport p .carrying d).command = 1000 := by
  obtain ⟨command, -⟩ := Vdr.act_eq p v.role { v with role := .carrying, drained := d }
  rw [Vdr.roleReport, command, if_pos received]
  cases frost : v.frost <;> simp [Vdr.settled, Vdr.target]

/-- The command after a change of role that is no drained withdrawal is the one that the role's report left. -/
theorem State.changeRole_command_of_apart {new : Role} (apart : new ≠ .withdrawn) (cause : RoleCause) (s : State) :
    (s.changeRole cause new false).vdr.command = (s.vdr.roleReport s.params new false).command := by
  obtain ⟨-, -, -, -, -, vdr⟩ := State.enterAndTell_blocks cause new false s
  have resumed : ∀ u : State, u.resume.vdr = u.vdr := fun _ => rfl
  rw [State.changeRole_of_apart (by simp [apart]), resumed, vdr]
  rfl

/-- In CARRYING and SHEDDING the fans stand as they are (R133). -/
theorem Fcc.roleReport_of_stands {r : Role} (stands : r = .carrying ∨ r = .shedding) (f : Fcc) :
    f.roleReport r = f := by
  have spared : ∀ c, roleForces r c = false := fun c => by rcases stands with rfl | rfl <;> rfl
  have one : ∀ (g : Fcc) i, Fcc.forceOne (roleForces r) g i = g := fun g i => by simp [Fcc.forceOne, spared]
  have pass : ∀ l : List (Fin 6), l.foldl (Fcc.forceOne (roleForces r)) f = f := fun l => by
    induction l with
    | nil => rfl
    | cons i l ih => rw [List.foldl_cons, one, ih]
  exact pass _

/-- In RESTING no duty channel stays in hand (R133). -/
theorem Fcc.roleReport_resting_duty (f : Fcc) (i : Fin 6) :
    ((f.roleReport .resting).channel i).dutyInHand = false := by
  rw [Fcc.roleReport, Fcc.channel_forceOff]
  split
  · simp [FanChannel.dutyInHand, FanChannel.inHand, FanChannel.toOff]
  · simp_all [FanChannel.dutyInHand, roleForces]

/-- What a change to a role other than WITHDRAWN leaves alone, and its record (R85, R86, R93, R117, R133). -/
theorem State.changeRole_of_role {old new : Role} {s : State} (role : s.fde.role = old) (apart : new ≠ .withdrawn)
    (cause : RoleCause) : s.changeRole cause new false = { s with
      itb := (s.changeRole cause new false).itb
      vdr := (s.changeRole cause new false).vdr
      fcc := s.fcc.roleReport new
      cfm := { s.cfm with suspended := false }
      fde := { s.fde with
        role := new, restAge := 0, rotateDue := false, coldJoin := false, drained := false
        lastChange := some ⟨old, new, cause⟩ } } := by
  subst role
  exact State.changeRole_eq (fun h => apart h.1) cause s

/-- The timers at a change to RESTING, SHEDDING, PROTECT or INIT (R93, R136). -/
theorem State.timer_changeRole_left {new : Role} (withdrawn : new ≠ .withdrawn) (warming : new ≠ .warming)
    (carrying : new ≠ .carrying) (a : TimerId) (cause : RoleCause) (s : State) :
    (s.changeRole cause new false).timer a
      = if new = .resting ∧ a = .exer then (s.timer .exer).start false (s.timerParams .exer)
        else if (a = .warm ∧ s.fde.role = .warming) ∨ (a = .rot ∧ s.fde.role = .carrying)
          ∨ (a = .shed ∧ (s.fde.role = .warming ∨ s.fde.role = .carrying)) then (s.timer a).stop
        else s.timer a := by
  rw [State.timer_changeRole, State.timer_enterRole_left warming carrying, if_neg fun h => withdrawn h.1.1]

/-- T_ROT expiry in the role machine: rotate-due in CARRYING (R96). -/
theorem State.rotExpired_eq (s : State) :
    s.rotExpired = { s with itb := s.rotExpired.itb, fde := s.rotExpired.fde } ∧ s.rotExpired.itb = s.itb
      ∧ (s.fde.role = .carrying → s.rotExpired.fde = { s.fde with rotateDue := true })
      ∧ (s.fde.role ≠ .carrying → s.rotExpired.fde = s.fde) := by
  by_cases carrying : s.fde.role = .carrying
  · have marked : s.rotExpired = s.setRotateDue := if_pos carrying
    rw [marked]
    exact ⟨rfl, rfl, fun _ => rfl, fun h => absurd carrying h⟩
  · have still : s.rotExpired = s := if_neg carrying
    rw [still]
    exact ⟨rfl, rfl, fun h => absurd h carrying, fun _ => rfl⟩

/-- T_WARM expiry outside WARMING changes nothing (R94). -/
theorem State.warmExpired_of_other {s : State} (other : s.fde.role ≠ .warming) : s.warmExpired = s := if_neg other

theorem State.shedExpired_of_warming {s : State} (warming : s.fde.role = .warming) :
    s.shedExpired = s.changeRole .shedExpiry .resting false := if_pos warming

theorem State.shedExpired_of_carrying {s : State} (carrying : s.fde.role = .carrying) :
    s.shedExpired = s.changeRole .shedExpiry .shedding false :=
  (if_neg (by simp [carrying])).trans (if_pos carrying)

/-- T_SHED expiry outside WARMING and CARRYING changes nothing (R95). -/
theorem State.shedExpired_of_other {s : State} (warming : s.fde.role ≠ .warming) (carrying : s.fde.role ≠ .carrying) :
    s.shedExpired = s := (if_neg warming).trans (if_neg carrying)

/-- T_WARM's expiry in WARMING (R94, R143). -/
theorem State.warmExpired_joins {s : State} (warming : s.fde.role = .warming) :
    (s.warmExpired = { s with
        itb := s.warmExpired.itb, vdr := s.warmExpired.vdr, cfm := { s.cfm with suspended := false }
        fde := { s.fde with
          role := .carrying, restAge := 0, rotateDue := false, coldJoin := true, drained := false
          lastChange := some ⟨.warming, .carrying, .warmExpiry⟩ } })
      ∧ (∀ a, s.warmExpired.timer a = if a = .warm then (s.timer .warm).stop
          else if a = .rot then (s.timer .rot).start false (s.timerParams .rot) else s.timer a)
      ∧ (s.vdr.allotmentReceived = true → s.warmExpired.vdr.command = 1000) := by
  have whole := State.changeRole_of_role warming (new := .carrying) (by decide) .warmExpiry
  have command := State.changeRole_command_of_apart (new := .carrying) (by decide) .warmExpiry s
  rw [State.warmExpired_of_warming warming]
  refine ⟨?_, fun a => ?_, fun received => command.trans (Vdr.roleReport_carrying received _ _)⟩
  · conv_lhs => rw [whole, Fcc.roleReport_of_stands (.inl rfl)]
    rfl
  · exact (State.timer_changeRole a .warmExpiry .carrying false s).trans
      ((if_neg (by simp)).trans ((if_neg (by simp)).trans (State.timer_enterRole_warmed warming a _ _)))

/-- At a change to RESTING of a cell whose valve knows the frost state, CLEAR or GUARD, the command goes to its
least opening (R142, R143). -/
theorem State.changeRole_resting_command {s : State} (received : s.vdr.allotmentReceived = true)
    (frost : s.vdr.frost = s.cfm.frost) (free : s.cfm.frost.forces = false) (cause : RoleCause) :
    (s.changeRole cause .resting false).vdr.command = minOpening s.params s.cfm.frost := by
  obtain ⟨-, -, frost', -⟩ := Vdr.roleReport_eq s.params .resting false s.vdr
  obtain ⟨-, steered⟩ := Vdr.roleReport_settlesAt (p := s.params) received (r := .resting) (by simp) false
  obtain ⟨role', -⟩ := Vdr.roleReport_eq s.params .resting false s.vdr
  rw [frost', frost] at steered
  exact (State.changeRole_command_of_apart (by decide) cause s).trans ((steered free).2.2.1 role')

theorem State.changeRole_shedding_command {s : State} (received : s.vdr.allotmentReceived = true)
    (role : s.vdr.role = .carrying) (frost : s.vdr.frost = s.cfm.frost) (free : s.cfm.frost.forces = false)
    (cause : RoleCause) : (s.changeRole cause .shedding false).vdr.command
      = if s.vdr.fansAtRest then max s.vdr.command (minOpening s.params s.cfm.frost) else 1000 := by
  rw [State.changeRole_command_of_apart (by decide), Vdr.roleReport_shedding received role (frost ▸ free), frost]

/-- Settles O44: T_ROT sets its flag; T_WARM and T_SHED change the role with the reports of `State.changeRole`. -/
theorem roleTimerExpiriesMoveTheRole : Obligations.RoleTimerExpiriesMoveTheRole := by
  intro s least steered
  refine ⟨fun due => ?_, fun due => ?_, fun due => ?_⟩
  · obtain ⟨whole, timers, carrying, other⟩ := State.rotExpired_eq (s.expire .rot)
    have bank : ∀ a, (s.expire .rot).rotExpired.timer a = (s.expire .rot).timer a := fun a =>
      State.timer_congr timers a
    refine ⟨_, congrArg Host.Outcome.next (State.takeExpiry_of_due due _), whole, ?_, fun id h => ?_, carrying, other⟩
    · rw [bank, State.timer_expire_single rfl]
    · rw [bank, State.timer_expire_ne h]
  · refine ⟨_, congrArg Host.Outcome.next (State.takeExpiry_of_due due _), ?_⟩
    have single : (s.expire .warm).timer .warm = (s.timer .warm).expired := State.timer_expire_single rfl s
    have others : ∀ id, id ≠ .warm → (s.expire .warm).timer id = s.timer id := fun id h => State.timer_expire_ne h s
    by_cases warming : s.fde.role = .warming
    · obtain ⟨whole, timers, command⟩ := State.warmExpired_joins (s := s.expire .warm) warming
      refine ⟨?_, fun id warm rot => ?_, fun _ => ⟨whole, ?_, command⟩, fun h => absurd warming h⟩
      · rw [timers, if_pos rfl, single, Timer.expired_stop]
      · rw [timers, if_neg warm, if_neg rot, others id warm]
      · rw [timers]; exact Timer.start_running _ _ _
    · rw [State.warmExpired_of_other (s := s.expire .warm) warming]
      exact ⟨single, fun id warm _ => others id warm, fun h => absurd h warming, fun _ => ⟨rfl, others _ (by decide)⟩⟩
  · refine ⟨_, congrArg Host.Outcome.next (State.takeExpiry_of_due due _), ?_⟩
    have single : (s.expire .shed).timer .shed = (s.timer .shed).expired := State.timer_expire_single rfl s
    have forces : s.cfm.frost = .clear ∨ s.cfm.frost = .guard → s.cfm.frost.forces = false := by
      rintro (h | h) <;> rw [h] <;> rfl
    by_cases warming : s.fde.role = .warming
    · have role : (s.expire .shed).fde.role = .warming := warming
      have timers := fun a => State.timer_changeRole_left (new := .resting) (by decide) (by decide) (by decide) a
        .shedExpiry (s.expire .shed)
      have whole := State.changeRole_of_role role (new := .resting) (by decide) .shedExpiry
      rw [State.shedExpired_of_warming role]
      refine ⟨?_, fun _ => ⟨?_, ?_, ?_, fun i => ?_, ?_⟩, fun h => ?_, fun h => absurd warming h⟩
      · rw [timers, if_neg (by simp), if_pos (.inr (.inr ⟨rfl, .inl role⟩)), single, Timer.expired_stop]
      · conv_lhs => rw [whole]
        rw [State.changeRole_fcc]
        rfl
      · rw [timers, if_neg (by simp), if_pos (.inl ⟨rfl, role⟩)]; rfl
      · rw [timers, if_pos ⟨rfl, rfl⟩]; exact Timer.start_running _ _ _
      · rw [State.changeRole_fcc]
        exact Fcc.roleReport_resting_duty _ i
      · rintro ⟨received, -, frost, free⟩
        exact State.changeRole_resting_command (s := s.expire .shed) received frost (forces free) _
      · simp [warming] at h
    by_cases carrying : s.fde.role = .carrying
    · have role : (s.expire .shed).fde.role = .carrying := carrying
      have timers := fun a => State.timer_changeRole_left (new := .shedding) (by decide) (by decide) (by decide) a
        .shedExpiry (s.expire .shed)
      have whole := State.changeRole_of_role role (new := .shedding) (by decide) .shedExpiry
      rw [State.shedExpired_of_carrying role]
      refine ⟨?_, fun h => absurd h warming, fun _ => ⟨?_, ?_, ?_⟩, fun _ h => absurd carrying h⟩
      · rw [timers, if_neg (by simp), if_pos (.inr (.inr ⟨rfl, .inr role⟩)), single, Timer.expired_stop]
      · conv_lhs => rw [whole, Fcc.roleReport_of_stands (.inr rfl)]
        rfl
      · rw [timers, if_neg (by simp), if_pos (.inr (.inl ⟨rfl, role⟩))]; rfl
      · rintro ⟨received, known, frost, free⟩
        exact State.changeRole_shedding_command (s := s.expire .shed) received (known.trans carrying) frost
          (forces free) _
    · rw [State.shedExpired_of_other (s := s.expire .shed) warming carrying]
      exact ⟨single, fun h => absurd h warming, fun h => absurd h carrying, fun _ _ => rfl⟩

end Sys2Proof.Machine
end

section
/-! PROOFS. Stage 10, the role machine's decisions on the final share (R79, R87 to R93). -/

namespace Sys2Proof.Machine

/-! ### The warm target (R89) -/

/-- The warm target is the warm margin under the supply, and the supply is TI where TI is good and under T_set. -/
theorem warmTargetOf_eq (p : Params) (scan : Option ScanSet) (tSet : Int) : warmTargetOf p scan tSet
    = (match scan with
        | some set => if set.ti.ok then min set.ti.value tSet else tSet
        | none => tSet) - p.warmMargin := by
  cases scan with
  | none => rfl
  | some set =>
    cases ok : set.ti.ok
    · simp [warmTargetOf, ok]
    · by_cases below : set.ti.value < tSet
      · simp [warmTargetOf, ok, below, min_eq_left below.le]
      · simp [warmTargetOf, ok, below, min_eq_right (not_lt.1 below)]

theorem outletReaches_iff (p : Params) (scan : Option ScanSet) (tSet : Int) :
    reachesWarm p scan tSet = true ↔ ∃ x, ownOutlet scan = some x ∧ warmTargetOf p scan tSet ≤ x := by
  unfold reachesWarm
  cases ownOutlet scan <;> simp

/-! ### The decisions, role by role (R87 to R92) -/

theorem State.decide_init {s : State} (role : s.fde.role = .init) (l : Latched) (share : Nat) :
    s.decide l share = if l.bus = .active ∧ l.scan.isSome then s.enterRole .allotment .resting false else s := by
  simp [State.decide, role, State.decideInit]

theorem State.decide_resting {s : State} (role : s.fde.role = .resting) (l : Latched) (share : Nat) :
    s.decide l share = if 0 < share then s.enterRole .allotment .warming false else s.rest := by
  simp [State.decide, role, State.decideResting]

theorem State.decide_warming {s : State} (role : s.fde.role = .warming) (l : Latched) (share : Nat) :
    s.decide l share = if 0 < share then
        if s.warmed l then (s.stopTimer .shed).enterRole .allotment .carrying false else s.stopTimer .shed
      else s.startTimer .shed := by
  simp [State.decide, role, State.decideWarming]

theorem State.decide_carrying {s : State} (role : s.fde.role = .carrying) (l : Latched) (share : Nat) :
    s.decide l share = (if 0 < share then s.stopTimer .shed else s.startTimer .shed).testColdJoin l := by
  simp [State.decide, role, State.decideCarrying]

theorem State.decide_shedding {s : State} (role : s.fde.role = .shedding) (l : Latched) (share : Nat) :
    s.decide l share = if 0 < share then s.enterRole .allotment .carrying false
      else if ¬ l.anyTurning ∧ l.valveAtMin then s.enterRole .allotment .resting false else s := by
  simp [State.decide, role, State.decideShedding]

/-- Stage 10 leaves the record of the last change, or records one that it makes (R85). -/
theorem State.decide_lastChange (l : Latched) (share : Nat) (s : State) :
    ((s.decide l share).fde.role = s.fde.role → (s.decide l share).fde.lastChange = s.fde.lastChange)
      ∧ ((s.decide l share).fde.role ≠ s.fde.role →
        (s.decide l share).fde.lastChange = some ⟨s.fde.role, (s.decide l share).fde.role, .allotment⟩) := by
  have entered : ∀ {old new : Role} {u : State}, u.fde = s.fde → s.fde.role = old → new ≠ old →
      ((u.enterRole .allotment new false).fde.role = s.fde.role →
        (u.enterRole .allotment new false).fde.lastChange = s.fde.lastChange)
      ∧ ((u.enterRole .allotment new false).fde.role ≠ s.fde.role →
        (u.enterRole .allotment new false).fde.lastChange
          = some ⟨s.fde.role, (u.enterRole .allotment new false).fde.role, .allotment⟩) := by
    intro old new u same role moves
    simp [Fde.enter, same, role, moves]
  have kept : ∀ {u : State}, u.fde.role = s.fde.role → u.fde.lastChange = s.fde.lastChange →
      (u.fde.role = s.fde.role → u.fde.lastChange = s.fde.lastChange)
        ∧ (u.fde.role ≠ s.fde.role → u.fde.lastChange = some ⟨s.fde.role, u.fde.role, .allotment⟩) :=
    fun role change => ⟨fun _ => change, fun h => absurd role h⟩
  cases role : s.fde.role
  case init =>
    rw [State.decide_init role, ← role]
    split
    · exact entered rfl role (by decide)
    · exact kept rfl rfl
  case resting =>
    rw [State.decide_resting role, ← role]
    split
    · exact entered rfl role (by decide)
    · exact kept rfl rfl
  case warming =>
    rw [State.decide_warming role, ← role]
    repeat' split
    · exact entered rfl role (by decide)
    · exact kept rfl rfl
    · exact kept rfl rfl
  case carrying =>
    rw [State.decide_carrying role, ← role]
    split <;> exact kept rfl rfl
  case shedding =>
    rw [State.decide_shedding role, ← role]
    repeat' split
    · exact entered rfl role (by decide)
    · exact entered rfl role (by decide)
    · exact kept rfl rfl
  case protect =>
    rw [State.decide_of_apart (.inl role), ← role]
    exact kept rfl rfl
  case withdrawn =>
    rw [State.decide_of_apart (.inr role), ← role]
    exact kept rfl rfl

/-! ### The end of a computation -/

/-- The reports and the staging of an allotment move no timer but T_EXER (R136). -/
theorem State.timer_issue_decided {a : TimerId} (exer : a ≠ .exer) (valveFirst : Bool) (l : Latched) (s : State) :
    (s.issue valveFirst l).timer a = (s.decided l).timer a := by
  have staged : ∀ (u : State) changed m v, (u.stageFans changed m v).timer a = u.timer a := fun u changed m v =>
    (State.timer_startIf_ne exer _ _).trans (State.timer_congr (State.setFcc_itb _ u) a)
  have stepped : ∀ u : State, u.stepValve.timer a = u.timer a := fun _ => rfl
  have recorded : ((s.decideAndRecord l).reportField (s.fieldResult l)).timer a = (s.decided l).timer a := rfl
  have spent : ∀ u : State, u.spend.timer a = u.timer a := fun _ => rfl
  unfold State.issue State.raiseAllotment
  split <;> simp only [spent, staged, stepped, recorded]

/-- T_EXER runs after an allotment that brought the cell into RESTING (R136). -/
theorem State.exer_issue {l : Latched} {s : State} (rests : (s.decided l).fde.role = .resting)
    (moved : s.fde.role ≠ .resting) (valveFirst : Bool) :
    ((s.issue valveFirst l).timer .exer).running = true := by
  have staged : ∀ (u : State) m v, u.fde.role = .resting → ((u.stageFans true m v).timer .exer).running = true :=
    fun u m v role => by
      unfold State.stageFans
      rw [State.running_startIf]
      exact .inl ⟨by simp [role], rfl⟩
  have stepped : ∀ u : State, u.stepValve.timer .exer = u.timer .exer := fun _ => rfl
  have spent : ∀ u : State, u.spend.timer .exer = u.timer .exer := fun _ => rfl
  have role : (s.decideAndRecord l).fde.role = .resting := rests
  have changed : ((s.decideAndRecord l).fde.role != s.fde.role) = true := by simpa [role] using moved.symm
  unfold State.issue State.raiseAllotment
  rw [changed]
  split
  · rw [spent]; exact staged _ _ _ role
  · rw [spent, stepped]; exact staged _ _ _ role

theorem State.timer_testColdJoin (a : TimerId) (l : Latched) (s : State) : (s.testColdJoin l).timer a = s.timer a := rfl

/-- T_ROT runs after a change to CARRYING (R93). -/
theorem State.runs_enterRole_carrying (cause : RoleCause) (drained : Bool) (s : State) :
    ((s.enterRole cause .carrying drained).timer .rot).running = true := by
  have bank : (s.enterRole cause .carrying drained).timer .rot = (s.roleTimers s.fde.role .carrying).timer .rot := rfl
  rw [bank, State.roleTimers, State.running_startIf]
  exact .inl ⟨rfl, rfl⟩

/-- T_WARM runs after a change to WARMING (R93). -/
theorem State.runs_enterRole_warming (cause : RoleCause) (drained : Bool) (s : State) :
    ((s.enterRole cause .warming drained).timer .warm).running = true := by
  have bank : (s.enterRole cause .warming drained).timer .warm = (s.roleTimers s.fde.role .warming).timer .warm := rfl
  rw [bank, State.roleTimers, State.running_startIf, State.running_startIf]
  exact .inr (.inl ⟨rfl, rfl⟩)

/-- What the record of an allotment keeps of the role machine's state (R80). -/
theorem State.issue_decided (valveFirst : Bool) (l : Latched) (s : State) :
    (s.issue valveFirst l).fde.role = (s.decided l).fde.role
      ∧ (s.issue valveFirst l).fde.restAge = (s.decided l).fde.restAge
      ∧ (s.issue valveFirst l).fde.rotateDue = (s.decided l).fde.rotateDue
      ∧ (s.issue valveFirst l).fde.coldJoin = (s.decided l).fde.coldJoin
      ∧ (s.issue valveFirst l).fde.drained = (s.decided l).fde.drained
      ∧ (s.issue valveFirst l).fde.lastChange = (s.decided l).fde.lastChange
      ∧ (s.issue valveFirst l).fde.warmTarget = s.issueTarget l := by
  rw [State.issue_fde]
  simp [Fde.conclude]

/-- Settles O36: `State.decide` role by role, then the record that `State.issue` keeps of it. -/
theorem allotmentDecidesTheRole : Obligations.AllotmentDecidesTheRole := by
  intro valveFirst l s latched
  refine issued_record latched valveFirst ?_
  intro running supply target warm
  obtain ⟨role', rest', rotate', cold', drained', change', target'⟩ := State.issue_decided valveFirst l s
  have timer : ∀ {a : TimerId}, a ≠ .exer → (s.issue valveFirst l).timer a = (s.decided l).timer a := fun h =>
    State.timer_issue_decided h valveFirst l s
  have aim : warmTargetOf s.params l.scan l.tSet = target := warmTargetOf_eq _ _ _
  have warmed : s.warmed l = true ↔ warm := (outletReaches_iff _ _ _).trans (by rw [aim])
  have decided : s.decided l = s.decide l (s.record l).share := rfl
  refine ⟨fun role => ⟨fun ready => ?_, fun early => ?_⟩, fun role => ⟨fun share => ?_, fun share => ?_⟩,
    fun role => ⟨fun share reached => ?_, fun share cold => ?_, fun share => ?_⟩, fun role => ?_,
    fun role => ⟨fun share => ?_, fun share still shut => ?_, fun share moving => ?_⟩, fun role => ?_, fun aims => ?_,
    fun warming carrying => ?_, ?_, ?_⟩
  · have rests : s.decided l = s.enterRole .allotment .resting false := by
      rw [decided, State.decide_init role, if_pos ⟨ready.1, Option.isSome_iff_ne_none.2 ready.2⟩]
    exact ⟨by simp [role', rests], by simp [rest', rests, Fde.enter],
      State.exer_issue (by simp [rests]) (by simp [role]) valveFirst⟩
  · have stays : s.decided l = s := by
      rw [decided, State.decide_init role, if_neg fun h => early.elim (· h.1) fun none => by simp [none] at h]
    rw [role', stays, role]
  · have joins : s.decided l = s.enterRole .allotment .warming false := by
      rw [decided, State.decide_resting role, if_pos share]
    refine ⟨by simp [role', joins], by simp [rest', joins, Fde.enter], ?_⟩
    simp only [running, timer (a := .warm) (by decide), joins]
    exact State.runs_enterRole_warming _ _ _
  · have rests : s.decided l = s.rest := by
      rw [decided, State.decide_resting role, if_neg (by omega)]
    exact ⟨by rw [role', rests]; exact role, by rw [rest', rests]; rfl⟩
  · have joins : s.decided l = (s.stopTimer .shed).enterRole .allotment .carrying false := by
      rw [decided, State.decide_warming role, if_pos share, if_pos (warmed.2 reached)]
    have timers := State.timer_enterRole_warmed (s := s.stopTimer .shed) role
    simp only [running, timer (a := .shed) (by decide), timer (a := .warm) (by decide),
      timer (a := .rot) (by decide), joins, timers, State.timer_stopTimer]
    exact ⟨by simp [role', joins], by simp [cold', joins, Fde.enter], by simp [Timer.stop], by simp [Timer.stop],
      by simp [Timer.start_running]⟩
  · have waits : s.decided l = s.stopTimer .shed := by
      rw [decided, State.decide_warming role, if_pos share, if_neg (mt warmed.1 cold)]
    simp only [running, timer (a := .shed) (by decide), timer (a := .warm) (by decide), waits, State.timer_stopTimer]
    exact ⟨by rw [role', waits]; exact role, by simp [Timer.stop], by simp⟩
  · have waits : s.decided l = s.startTimer .shed := by
      rw [decided, State.decide_warming role, if_neg (by omega)]
    simp only [running, timer (a := .shed) (by decide), timer (a := .warm) (by decide), waits, State.timer_startTimer]
    exact ⟨by rw [role', waits]; exact role, by simp [Timer.start_running], by simp⟩
  · have stays := decided.trans (State.decide_carrying role l _)
    have fde : (s.decided l).fde = { s.fde with coldJoin := s.fde.coldJoin && !s.warmed l } := by
      rw [stays]
      split <;> rfl
    have shed : (s.decided l).timer .shed = if 0 < (s.record l).share then (s.timer .shed).stop
        else (s.timer .shed).start false (s.timerParams .shed) := by
      rw [stays, State.timer_testColdJoin]
      split <;> simp [State.timer_startTimer, State.timer_stopTimer, TimerId.retriggerable]
    have rot : (s.decided l).timer .rot = s.timer .rot := by
      rw [stays, State.timer_testColdJoin]
      split <;> simp [State.timer_startTimer, State.timer_stopTimer]
    simp only [running, timer (a := .shed) (by decide), timer (a := .rot) (by decide), role', rotate', cold', fde, shed,
      rot, ← warmed]
    exact ⟨role, trivial, trivial, fun share => by simp [share, Timer.stop],
      fun share => by simp [share, Timer.start_running], fun warm => by simp [warm], fun cold => by simp [cold]⟩
  · have joins : s.decided l = s.enterRole .allotment .carrying false := by
      rw [decided, State.decide_shedding role, if_pos share]
    simp only [running, timer (a := .rot) (by decide), joins]
    exact ⟨by simp [role', joins], by simp [rotate', joins, Fde.enter], by simp [cold', joins, Fde.enter],
      State.runs_enterRole_carrying _ _ _⟩
  · have rests : s.decided l = s.enterRole .allotment .resting false := by
      rw [decided, State.decide_shedding role, if_neg (by omega), if_pos (by simp [still, shut])]
    exact ⟨by simp [role', rests], by simp [rest', rests, Fde.enter]⟩
  · have stays : s.decided l = s := by
      rw [decided, State.decide_shedding role, if_neg (by omega), if_neg (by rcases moving with h | h <;> simp [h])]
    rw [role', stays, role]
  · have stays : s.decided l = s := decided.trans (State.decide_of_apart role l _)
    rw [role', rest', drained', stays]
    exact ⟨rfl, rfl, rfl⟩
  · rw [target', ← aim]
    exact if_pos aims
  · rw [target']
    exact if_neg fun h => h.elim warming fun ⟨r, c⟩ => carrying.elim (· r) (by simp [c])
  · rw [role', change']; exact (State.decide_lastChange l _ s).1
  · rw [role', change']; exact (State.decide_lastChange l _ s).2

end Sys2Proof.Machine
end

section
/-! PROOFS. A change of the frost state: the monitor's record, the alerts, the valve, the fans and the role machine
(R85, R93, R98, R99, R109, R113 to R115, R142, R143). -/

namespace Sys2Proof.Machine

/-! ### The three forms of a change (R98, R99) -/

/-- The role machine enters PROTECT with the monitor (R98). -/
abbrev State.EntersWith (new : FrostState) (s : State) : Prop :=
  new = .protect ∧ s.fde.role ≠ .protect ∧ s.fde.role ≠ .withdrawn

/-- The role machine leaves PROTECT with the monitor's RECOVER (R99). -/
abbrev State.LeavesWith (new : FrostState) (s : State) : Prop :=
  s.cfm.frost = .recover ∧ new = .clear ∧ s.fde.role = .protect

theorem State.setFrost_of_enters {new : FrostState} {s : State} (h : s.EntersWith new) :
    s.setFrost new = (s.announceFrost new).changeRole .frostProtect .protect false := by
  unfold State.setFrost State.frostRole
  exact if_pos (by simpa using h)

theorem State.setFrost_of_leaves {new : FrostState} {s : State} (h : s.LeavesWith new) :
    s.setFrost new = (s.announceFrost new).changeRole .frostClear .resting false := by
  obtain ⟨old, rfl, role⟩ := h
  unfold State.setFrost State.frostRole
  exact (if_neg (by simp)).trans (if_pos (by simp [old, role]))

theorem State.setFrost_of_neither {new : FrostState} {s : State} (enters : ¬ s.EntersWith new)
    (leaves : ¬ s.LeavesWith new) : s.setFrost new = s.announceFrost new := by
  unfold State.setFrost State.frostRole
  exact (if_neg (by simpa using enters)).trans (if_neg (by simpa using leaves))

/-- A change to GUARD or RECOVER, or from another state than RECOVER to CLEAR, does not reach the role machine. -/
theorem State.setFrost_of_apart {new : FrostState} {s : State} (protect : new ≠ .protect)
    (clear : s.cfm.frost ≠ .recover ∨ new ≠ .clear) : s.setFrost new = s.announceFrost new :=
  State.setFrost_of_neither (fun h => protect h.1) fun h => clear.elim (· h.1) (· h.2.1)

/-- What a change of the frost state has of its announcement, whatever the role machine does of it. -/
theorem State.setFrost_induct {P : State → Prop} {new : FrostState} {s : State}
    (enters : s.EntersWith new → P ((s.announceFrost new).changeRole .frostProtect .protect false))
    (leaves : s.LeavesWith new → P ((s.announceFrost new).changeRole .frostClear .resting false))
    (neither : ¬ s.EntersWith new → ¬ s.LeavesWith new → P (s.announceFrost new)) : P (s.setFrost new) := by
  by_cases e : s.EntersWith new
  · rw [State.setFrost_of_enters e]; exact enters e
  · by_cases l : s.LeavesWith new
    · rw [State.setFrost_of_leaves l]; exact leaves l
    · rw [State.setFrost_of_neither e l]; exact neither e l

/-! ### The announcement (R113 to R115) -/

theorem State.timer_announceFrost (a : TimerId) (new : FrostState) (s : State) :
    (s.announceFrost new).timer a = s.timer a := State.timer_congr (by simp) a

theorem State.announceFrost_aou (new : FrostState) (s : State) : (s.announceFrost new).aou
    = s.aou.take s.enables s.params.selects (putAlert (putAlert s.aou.live .frostGuard (new == .guard)) .frostTrip
        (new == .protect || new == .recover)) := by
  have alerts : (s.announceFrost new).aou = (s.putFrost new).frostAlerts.aou := by simp [State.announceFrost]
  exact alerts.trans rfl

theorem State.announceFrost_received (new : FrostState) (s : State) :
    (s.announceFrost new).vdr.allotmentReceived = s.vdr.allotmentReceived
      ∧ (s.announceFrost new).vdr.frost = new := by
  obtain ⟨-, -, frost, -, received, -⟩ := Vdr.frostReport_eq s.params new s.vdr
  rw [State.announceFrost_vdr]
  exact ⟨received, frost⟩

theorem State.announceFrost_command {new : FrostState} {s : State} (role : s.vdr.role = s.fde.role)
    (drained : s.vdr.drained = s.fde.drained) (received : s.vdr.allotmentReceived = true) :
    CommandAtReport s (s.announceFrost new) := by
  obtain ⟨role', drained', frost', -⟩ := Vdr.frostReport_eq s.params new s.vdr
  refine (commandAtReport_iff ?_ ?_ ?_).2 ?_
  · simpa [State.announceFrost_vdr, role'] using role
  · simpa [State.announceFrost_vdr, drained'] using drained
  · simpa [State.announceFrost_vdr] using frost'
  · have settles := Vdr.frostReport_settlesAt (p := s.params) received new
    rw [State.announceFrost_vdr, (State.announceFrost_frame new s).2.2.2.1]
    exact settles.congr rfl rfl rfl

/-! ### The whole change -/

theorem State.setFrost_cfm {s : State} (active : s.cfm.suspended = false) (new : FrostState) :
    (s.setFrost new).cfm = { s.cfm with frost := new } := by
  have resumed : ∀ cause role, role ≠ .withdrawn →
      ((s.announceFrost new).changeRole cause role false).cfm = { s.cfm with frost := new } :=
    fun cause role apart => by
    rw [State.changeRole_eq (fun h => apart h.1), State.announceFrost_cfm]
    simp [active]
  exact State.setFrost_induct (P := fun t => t.cfm = _) (fun _ => resumed _ _ (by decide))
    (fun _ => resumed _ _ (by decide)) fun _ _ => State.announceFrost_cfm new s

theorem State.setFrost_aou (new : FrostState) (s : State) : (s.setFrost new).aou = (s.announceFrost new).aou := by
  have kept : ∀ cause role, role ≠ .withdrawn →
      ((s.announceFrost new).changeRole cause role false).aou = (s.announceFrost new).aou := fun cause role apart => by
    rw [State.changeRole_eq (fun h => apart h.1)]
  exact State.setFrost_induct (P := fun t => t.aou = _) (fun _ => kept _ _ (by decide))
    (fun _ => kept _ _ (by decide)) fun _ _ => rfl

theorem State.setFrost_live (new : FrostState) (s : State) : (s.setFrost new).aou.live
    = putAlert (putAlert s.aou.live .frostGuard (new == .guard)) .frostTrip (new == .protect || new == .recover) := by
  rw [State.setFrost_aou, State.announceFrost_aou]
  unfold Aou.take
  split
  · next same => exact same.symm
  · exact (Aou.setLive_masks _ _ _ _).1

/-- FROST_GUARD and FROST_TRIP after a change of the frost state (R113). -/
theorem State.setFrost_alerts (new : FrostState) (s : State) :
    hasAlert (s.setFrost new).aou.live .frostGuard = (new == .guard)
      ∧ hasAlert (s.setFrost new).aou.live .frostTrip = (new == .protect || new == .recover) := by
  simp [State.setFrost_live]

/-- The valve's command after a change of the frost state (R114, R142, R143). -/
theorem State.setFrost_command {new : FrostState} {s : State} (role : s.vdr.role = s.fde.role)
    (drained : s.vdr.drained = s.fde.drained) (received : s.vdr.allotmentReceived = true) :
    CommandAtReport s (s.setFrost new) := by
  obtain ⟨received', frost'⟩ := State.announceFrost_received new s
  have told : ∀ cause role, role ≠ .warming → role ≠ .shedding →
      CommandAtReport s ((s.announceFrost new).changeRole cause role false) := fun cause role warming shedding =>
    (State.changeRole_command (received'.trans received) (by simp [frost']) shedding cause false).of_settled
      (by simpa using warming) (by simpa using shedding)
  exact State.setFrost_induct (fun _ => told _ _ (by decide) (by decide)) (fun _ => told _ _ (by decide) (by decide))
    fun _ _ => State.announceFrost_command role drained received

/-- Before the first allotment the command stands (R141). -/
theorem State.setFrost_command_unreceived {s : State} (early : s.vdr.allotmentReceived = false) (new : FrostState) :
    (s.setFrost new).vdr.command = s.vdr.command := by
  obtain ⟨received', -⟩ := State.announceFrost_received new s
  have announced : (s.announceFrost new).vdr.command = s.vdr.command := by
    rw [State.announceFrost_vdr]
    exact (Vdr.command_of_unreceived early s.params).2 new
  have told : ∀ cause role, ((s.announceFrost new).changeRole cause role false).vdr.command = s.vdr.command :=
    fun cause role => (State.changeRole_command_unreceived (received'.trans early) cause role false).trans announced
  exact State.setFrost_induct (P := fun t => t.vdr.command = _) (fun _ => told _ _) (fun _ => told _ _)
    fun _ _ => announced

/-- A change to PROTECT or RECOVER opens the valve (R114, R142, R143). -/
theorem State.setFrost_command_forced {new : FrostState} {s : State} (forces : new.forces = true)
    (received : s.vdr.allotmentReceived = true) : (s.setFrost new).vdr.command = 1000 := by
  obtain ⟨received', frost'⟩ := State.announceFrost_received new s
  have announced : (s.announceFrost new).vdr.command = 1000 := by
    obtain ⟨-, -, frost, -⟩ := Vdr.frostReport_eq s.params new s.vdr
    rw [State.announceFrost_vdr]
    exact (Vdr.frostReport_settlesAt received new).1 (by rw [frost]; exact forces)
  have told : ∀ cause role, role ≠ .withdrawn → role ≠ .shedding →
      ((s.announceFrost new).changeRole cause role false).vdr.command = 1000 := fun cause role apart shedding => by
    obtain ⟨-, -, frost, -⟩ := Vdr.roleReport_eq (s.announceFrost new).params role false (s.announceFrost new).vdr
    rw [State.changeRole_command_of_apart apart]
    exact (Vdr.roleReport_settlesAt (received'.trans received) (fun h => absurd h shedding) false).1
      (by rw [frost, frost']; exact forces)
  exact State.setFrost_induct (P := fun t => t.vdr.command = 1000) (fun _ => told _ _ (by decide) (by decide))
    (fun _ => told _ _ (by decide) (by decide)) fun _ _ => announced

/-- On entry to PROTECT no channel stays in hand (R115). -/
theorem State.setFrost_protect_inHand (s : State) (i : Fin 6) :
    ((s.setFrost .protect).fcc.channel i).inHand = false := by
  have announced : ((s.announceFrost .protect).fcc.channel i).inHand = false := by
    rw [State.announceFrost_fcc]
    exact Fcc.frostReport_protect_inHand _ _ i
  have told : ∀ cause role, (((s.announceFrost .protect).changeRole cause role false).fcc.channel i).inHand = false :=
    fun cause role => by
      rw [State.changeRole_fcc]
      exact Bool.eq_false_iff.2 fun h => Bool.eq_false_iff.1 announced ((Fcc.calm_roleReport _ _ i).1 h)
  exact State.setFrost_induct (P := fun t => (t.fcc.channel i).inHand = false) (fun _ => told _ _) (fun _ => told _ _)
    fun _ _ => announced

/-! ### Timers of the role machine at a change of the frost state (R93) -/

theorem RoleTimersLeft.congr {s t u v : State} (h : RoleTimersLeft u v) (source : s.fde.role = u.fde.role)
    (target : t.fde.role = v.fde.role) (before : ∀ a ∈ [TimerId.warm, .rot, .shed], s.timer a = u.timer a)
    (after : ∀ a ∈ [TimerId.warm, .rot, .shed], t.timer a = v.timer a) : RoleTimersLeft s t := by
  simpa only [RoleTimersLeft, source, target, before .warm (by decide), before .rot (by decide),
    before .shed (by decide), after .warm (by decide), after .rot (by decide), after .shed (by decide)] using h

theorem RoleTimersLeft.refl (s : State) : RoleTimersLeft s s := by
  unfold RoleTimersLeft
  simp

theorem State.roleTimersLeft_setFrost (new : FrostState) (s : State) : RoleTimersLeft s (s.setFrost new) := by
  have announced : ∀ a ∈ [TimerId.warm, .rot, .shed], s.timer a = (s.announceFrost new).timer a :=
    fun a _ => (State.timer_announceFrost a new s).symm
  have role : s.fde.role = (s.announceFrost new).fde.role := by simp
  have told : ∀ cause r, r ≠ .warming → r ≠ .carrying →
      RoleTimersLeft s ((s.announceFrost new).changeRole cause r false) := fun cause r warming carrying =>
    (State.roleTimersLeft_changeRole warming carrying cause false (s.announceFrost new)).congr role rfl announced
      fun _ _ => rfl
  exact State.setFrost_induct (fun _ => told _ _ (by decide) (by decide)) (fun _ => told _ _ (by decide) (by decide))
    fun _ _ => (RoleTimersLeft.refl s).congr rfl role.symm (fun _ _ => rfl) fun a ha => (announced a ha).symm

/-- A change of the frost state moves no timer but the role machine's, and T_EXER where it ends PROTECT (R93, R136). -/
theorem State.timer_setFrost {a : TimerId} (ha : a ∉ [TimerId.warm, .rot, .shed]) {new : FrostState} {s : State}
    (exer : a = .exer → new ≠ .clear ∨ s.cfm.frost ≠ .recover) : (s.setFrost new).timer a = s.timer a := by
  have free : a ≠ .warm ∧ a ≠ .rot ∧ a ≠ .shed := by simpa using ha
  have told : ∀ cause r, (r = .resting → a ≠ .exer) → r ≠ .withdrawn →
      ((s.announceFrost new).changeRole cause r false).timer a = s.timer a := fun cause r rests apart => by
    rw [State.timer_changeRole, if_neg fun h => apart h.1.1, if_neg fun h => rests h.1 h.2, State.timer_enterRole free,
      State.timer_announceFrost]
  exact State.setFrost_induct (P := fun t => t.timer a = _)
    (fun _ => told _ _ (fun h => absurd h (by decide)) (by decide))
    (fun ⟨old, clear, _⟩ => told _ _ (fun _ h => (exer h).elim (· clear) (· old)) (by decide))
    fun _ _ => State.timer_announceFrost a new s

/-! ### The entry to PROTECT (R109) -/

theorem State.timer_protectTimers (a : TimerId) (s : State) : s.protectTimers.timer a
    = if a = .prot then (s.timer .prot).start false (s.timerParams .prot)
      else if a = .recov ∨ a = .guard then (s.timer a).stop else s.timer a := by
  have params : ((s.stopTimer .guard).stopTimer .recov).timerParams .prot = s.timerParams .prot :=
    State.timerParams_congr (by simp) _
  unfold State.protectTimers
  cases a <;> simp [State.timer_startTimer, State.timer_stopTimer, TimerId.retriggerable, params]

/-- The state that the entry to PROTECT reports: timers and record (R109). -/
def State.prepareTrip (causes : List TripCause) (s : State) : State :=
  { s.protectTimers with cfm := s.cfm.trip causes }

theorem State.enterProtect_eq (causes : List TripCause) (s : State) :
    s.enterProtect causes = (s.prepareTrip causes).setFrost .protect := rfl

theorem State.timer_enterProtect {a : TimerId} (ha : a ∉ [TimerId.warm, .rot, .shed]) (causes : List TripCause)
    (s : State) : (s.enterProtect causes).timer a = s.protectTimers.timer a := by
  rw [State.enterProtect_eq, State.timer_setFrost ha fun _ => .inl (by decide)]
  rfl

/-- An entry to PROTECT of a monitor that is not suspended (R85, R93, R98, R109). -/
theorem State.enterProtect_entersProtect {s : State} (active : s.cfm.suspended = false) (causes : List TripCause) :
    EntersProtect causes s (s.enterProtect causes) := by
  have prot := State.timer_enterProtect (a := .prot) (by decide) causes s
  have fde : (s.prepareTrip causes).fde = s.fde := by simp [State.prepareTrip]
  have before : ∀ a ∈ [TimerId.warm, .rot, .shed], s.timer a = (s.prepareTrip causes).timer a := fun a ha => by
    refine ((State.timer_protectTimers a s).trans ?_).symm
    cases a <;> simp_all
  refine ⟨?_, ?_, ?_, ?_, fun still => ?_, fun role => ?_, fun protect withdrawn => ?_, ?_⟩
  · rw [State.enterProtect_eq, State.setFrost_cfm (s := s.prepareTrip causes) active]
    rfl
  · rw [State.timer_enterProtect (by decide), State.timer_protectTimers]; rfl
  · rw [State.timer_enterProtect (by decide), State.timer_protectTimers]; rfl
  · rw [prot, State.timer_protectTimers, if_pos rfl]; exact Timer.start_running _ _ _
  · rw [prot, State.timer_protectTimers, if_pos rfl]
    simp [Timer.start, still, Timer.load]
  · rw [State.enterProtect_eq, State.setFrost_of_neither]
    · simp [fde]
    · rintro ⟨-, protect, withdrawn⟩
      rw [fde] at protect withdrawn
      exact role.elim protect withdrawn
    · simp [State.LeavesWith]
  · rw [State.enterProtect_eq, State.setFrost_of_enters ⟨rfl, by rwa [fde], by rwa [fde]⟩]
    simp [Fde.enter, fde]
  · exact (State.roleTimersLeft_setFrost .protect (s.prepareTrip causes)).congr (by rw [fde]) rfl before fun _ _ => rfl

end Sys2Proof.Machine
end

section
/-! PROOFS. The expiries of the frost monitor's timers (R98, R99, R107 to R115, R142, R143, R156, R171). -/

namespace Sys2Proof.Machine

/-! ### What the monitor asks of the latest set (R105) -/

theorem Published.back_iff (c : Published) : c.back = true ↔ c.ok = true ∧ c.comparator ≠ .below := by
  simp [Published.back]

theorem ScanSet.allBack_iff (set : ScanSet) : set.allBack = true ↔ (set.to.ok = true ∧ set.to.comparator ≠ .below)
    ∧ (set.tsl.ok = true ∧ set.tsl.comparator ≠ .below)
    ∧ (set.tsu.ok = true ∧ set.tsu.comparator ≠ .below) := by
  simp only [ScanSet.allBack, Bool.and_eq_true, Published.back_iff, and_assoc]

theorem State.latestSet_iff (test : ScanSet → Bool) (s : State) :
    s.latestSet test = true ↔ ∃ set, s.ssc.scanSet = some set ∧ test set = true := by
  unfold State.latestSet
  cases s.ssc.scanSet <;> simp

/-! ### Release and RECOVER (R107, R108, R110, R111) -/

theorem State.releaseGuard_eq {s : State} (frost : s.cfm.frost = .guard) :
    s.releaseGuard = ((s.stopTimer .guard).putGuardPending false).announceFrost .clear := by
  refine State.setFrost_of_apart (by decide) (.inl ?_)
  simp [frost]

theorem State.enterRecover_eq (s : State) :
    s.enterRecover = ((s.startTimer .recov).putProtectPending false).announceFrost .recover :=
  State.setFrost_of_apart (by decide) (.inr (by decide))

theorem State.timer_releaseGuard {s : State} (frost : s.cfm.frost = .guard) (a : TimerId) :
    s.releaseGuard.timer a = if a = .guard then (s.timer .guard).stop else s.timer a := by
  rw [State.releaseGuard_eq frost, State.timer_announceFrost]
  exact State.timer_stopTimer a .guard s

theorem State.timer_enterRecover (s : State) (a : TimerId) : s.enterRecover.timer a
    = if a = .recov then (s.timer .recov).start false (s.timerParams .recov) else s.timer a := by
  rw [State.enterRecover_eq, State.timer_announceFrost]
  exact State.timer_startTimer a .recov s

theorem State.releaseGuard_cfm {s : State} (frost : s.cfm.frost = .guard) :
    s.releaseGuard.cfm = { s.cfm with frost := .clear, guardPending := false } := by
  rw [State.releaseGuard_eq frost, State.announceFrost_cfm]; simp

theorem State.enterRecover_cfm (s : State) :
    s.enterRecover.cfm = { s.cfm with frost := .recover, protectPending := false } := by
  rw [State.enterRecover_eq, State.announceFrost_cfm]; simp

theorem State.releaseGuard_fde {s : State} (frost : s.cfm.frost = .guard) : s.releaseGuard.fde = s.fde := by
  rw [State.releaseGuard_eq frost]; simp

theorem State.enterRecover_fde (s : State) : s.enterRecover.fde = s.fde := by
  rw [State.enterRecover_eq]; simp

section
variable {s : State} (role : s.vdr.role = s.fde.role) (drained : s.vdr.drained = s.fde.drained)
  (received : s.vdr.allotmentReceived = true)

include role drained received

theorem State.releaseGuard_command : CommandAtReport s s.releaseGuard :=
  State.setFrost_command (s := (s.stopTimer .guard).putGuardPending false) role drained received

theorem State.enterRecover_command : CommandAtReport s s.enterRecover :=
  State.setFrost_command (s := (s.startTimer .recov).putProtectPending false) role drained received

end

theorem State.releaseGuard_command_unreceived {s : State} (early : s.vdr.allotmentReceived = false) :
    s.releaseGuard.vdr.command = s.vdr.command :=
  State.setFrost_command_unreceived (s := (s.stopTimer .guard).putGuardPending false) early .clear

theorem State.enterRecover_command_unreceived {s : State} (early : s.vdr.allotmentReceived = false) :
    s.enterRecover.vdr.command = s.vdr.command :=
  State.setFrost_command_unreceived (s := (s.startTimer .recov).putProtectPending false) early .recover

/-- The end of RECOVER (R99, R111, R136). -/
theorem State.setFrost_ends_recover {s : State} (frost : s.cfm.frost = .recover) :
    (s.fde.role = .protect → (s.setFrost .clear).fde = s.fde.enter .frostClear .resting false
        ∧ ((s.setFrost .clear).timer .exer).running = true)
      ∧ (s.fde.role ≠ .protect → (s.setFrost .clear).fde = s.fde) := by
  refine ⟨fun role => ?_, fun role => ?_⟩
  · rw [State.setFrost_of_leaves ⟨frost, rfl, role⟩, State.timer_changeRole, if_neg (by simp), if_pos ⟨rfl, rfl⟩,
      State.changeRole_fde]
    exact ⟨by simp, Timer.start_running _ _ _⟩
  · rw [State.setFrost_of_neither (by simp [State.EntersWith]) (fun h => role h.2.2)]
    simp

/-! ### T_STAG and the cadence (R112, R171) -/

theorem State.withCycleEnd_eq (act : State → State) (s : State) : s.withCycleEnd act = { act s with
    aou := (act s).aou.countIf (!s.cadenceFirst && s.aou.cadence == .idle && (act s).aou.cadence != .idle)
      (act s).params.reportInterval (act s).params.spaceInterval } := by
  have counted : ∀ (b : Bool) (u : State), u.countCadenceIf b
      = { u with aou := u.aou.countIf b u.params.reportInterval u.params.spaceInterval } := fun b u => by
    cases b <;> rfl
  exact counted _ _

theorem Aou.take_self (enables selects : AlertMask) (a : Aou) : a.take enables selects a.live = a := if_pos rfl

/-- Qualifying begins in REPORT with count 0 (R170, R171). -/
theorem Aou.take_begins {enables selects live : AlertMask} {a : Aou} (idle : a.cadence = .idle)
    (begun : (a.take enables selects live).cadence ≠ .idle) : (a.take enables selects live).cadence = .report
      ∧ (a.take enables selects live).count = 0 ∧ (a.take enables selects live).line = true := by
  unfold Aou.take at *
  split at begun
  · exact absurd idle begun
  · next change =>
    rw [if_neg change]
    cases q : (a.withMasks live (a.latched ||| live)).qualifies enables selects
    · rw [Aou.setLive_stays_idle live idle q] at begun
      exact absurd idle begun
    · rw [Aou.setLive_begins live idle q]
      exact ⟨rfl, rfl, rfl⟩

/-- The first cycle end that REPORT counts (R171). -/
theorem Aou.cycleEnd_first {a : Aou} (cadence : a.cadence = .report) (count : a.count = 0) (line : a.line = true)
    (report space : Nat) : ((a.cycleEnd report space).cadence, (a.cycleEnd report space).count,
        (a.cycleEnd report space).line)
      = if 0 < space ∧ report ≤ 1 then (.space, 0, false) else (.report, min 1 report, true) := by
  unfold Aou.cycleEnd
  rw [cadence, count]
  dsimp only
  by_cases turns : 0 < space ∧ report ≤ 1
  · rw [if_pos (by simpa using turns), if_pos turns]
  · have one : satInc report 0 = min 1 report := by unfold satInc; split <;> omega
    rw [if_neg (by simpa using turns), if_neg turns, one, line]

/-- An event that comes with a cycle end, whose owner reports the live conditions at most once (R171). -/
theorem State.withCycleEnd_begins {act : State → State} {s : State} {enables selects live : AlertMask}
    (taken : (act s).aou = s.aou.take enables selects live) (params : (act s).params = s.params) :
    BeginsWithCycleEnd s (s.withCycleEnd act) := by
  intro idle begun counted
  have acts : (act s).aou.cadence ≠ .idle := by
    rw [State.withCycleEnd_eq] at begun
    exact fun still => begun (by simp [Aou.countIf, still])
  obtain ⟨cadence, count, line⟩ := Aou.take_begins idle (taken ▸ acts)
  rw [← taken] at cadence count line
  rw [State.withCycleEnd_eq, params]
  cases order : s.cadenceFirst
  · have counts : (!false && s.aou.cadence == .idle && (act s).aou.cadence != .idle) = true := by
      simp [idle, cadence]
    rw [counts]
    exact Aou.cycleEnd_first cadence count line _ _
  · simp [Aou.countIf, cadence, count, line]

/-- An owner that does nothing leaves the cycle end's count to the cadence (R171). -/
theorem State.withCycleEnd_of_still {act : State → State} {s : State} (still : act s = s) :
    s.withCycleEnd act = s := by
  have idle : (!s.cadenceFirst && s.aou.cadence == .idle && s.aou.cadence != .idle) = false := by
    cases s.aou.cadence <;> simp
  unfold State.withCycleEnd
  rw [still, idle]
  rfl

/-- The monitor at T_STAG expiry where it acts on it (R112). -/
theorem State.stagExpired_of_active {s : State} (active : s.cfm.suspended = false) (frost : s.cfm.frost ≠ .protect) :
    s.stagExpired = s.enterProtect [.stagnation] := if_neg (by simp [active, frost])

/-- The monitor reports its alerts at most once at T_STAG expiry (R113). -/
theorem State.stagExpired_aou (s : State) :
    ∃ live, s.stagExpired.aou = s.aou.take s.enables s.params.selects live := by
  unfold State.stagExpired
  split
  · exact ⟨_, (Aou.take_self _ _ _).symm⟩
  · rw [State.enterProtect_eq, State.setFrost_aou, State.announceFrost_aou]
    simp only [State.prepareTrip, State.protectTimers_frame]
    exact ⟨_, rfl⟩

theorem EntersProtect.of_source {causes : List TripCause} {s t u : State} (h : EntersProtect causes u t)
    (cfm : u.cfm = s.cfm) (fde : u.fde = s.fde) (params : u.params = s.params)
    (timers : ∀ a, a ≠ .stag → u.timer a = s.timer a) : EntersProtect causes s t := by
  obtain ⟨record, guard, recov, runs, starts, kept, enters, left⟩ := h
  have prot : u.timerParams .prot = s.timerParams .prot := State.timerParams_congr params _
  rw [cfm] at record
  rw [timers _ (by decide)] at guard recov starts
  rw [fde] at kept enters
  exact ⟨record, guard, recov, runs, by rwa [prot] at starts, kept, enters, left.congr (by rw [fde]) rfl
    (fun a ha => (timers a (by rintro rfl; simp at ha)).symm) fun _ _ => rfl⟩

/-- The stagnation trip with all it forces (R98, R109, R112 to R115, R171). -/
theorem State.stagnation_trips {s : State} (active : s.cfm.suspended = false) (frost : s.cfm.frost ≠ .protect) :
    EntersProtect [.stagnation] s (s.withCycleEnd State.stagExpired)
      ∧ (∀ a, a = .exer ∨ a = .ice ∨ a = .ord ∨ a = .stag →
        (s.withCycleEnd State.stagExpired).timer a = s.timer a)
      ∧ hasAlert (s.withCycleEnd State.stagExpired).aou.live .frostTrip = true
      ∧ hasAlert (s.withCycleEnd State.stagExpired).aou.live .frostGuard = false
      ∧ (∀ i, ((s.withCycleEnd State.stagExpired).fcc.channel i).inHand = false)
      ∧ (s.vdr.allotmentReceived = true → (s.withCycleEnd State.stagExpired).vdr.command = 1000) := by
  obtain ⟨guard, trip⟩ := State.setFrost_alerts .protect (s.prepareTrip [.stagnation])
  have timers : ∀ a, a = .exer ∨ a = .ice ∨ a = .ord ∨ a = .stag →
      (s.enterProtect [.stagnation]).timer a = s.timer a := fun a ha => by
    rw [State.timer_enterProtect (by rcases ha with rfl | rfl | rfl | rfl <;> decide), State.timer_protectTimers]
    rcases ha with rfl | rfl | rfl | rfl <;> rfl
  rw [State.withCycleEnd_eq, State.stagExpired_of_active active frost]
  refine ⟨State.enterProtect_entersProtect active [.stagnation], timers, ?_, ?_, State.setFrost_protect_inHand _,
    fun received => State.setFrost_command_forced (s := s.prepareTrip [.stagnation]) rfl received⟩
  · rw [(Aou.countIf_masks _ _ _ _).1]
    exact trip
  · rw [(Aou.countIf_masks _ _ _ _).1]
    exact guard

/-- Settles O45: each expiry is `State.setFrost` after the timer's own part, or leaves the monitor alone. -/
theorem frostTimerExpiriesMoveTheMonitor : Obligations.FrostTimerExpiriesMoveTheMonitor := by
  intro s steered back backTo backAll
  have single : ∀ a, a.repeating = false → (s.expire a).timer a = (s.timer a).expired := fun a h =>
    State.timer_expire_single h s
  have toBack : ∀ a, (s.expire a).latestSet (fun set => set.to.back) = true ↔ backTo := fun a =>
    (State.latestSet_iff _ _).trans (exists_congr fun set => and_congr_right fun _ => Published.back_iff _)
  have allBack : ∀ a, (s.expire a).latestSet ScanSet.allBack = true ↔ backAll := fun a =>
    (State.latestSet_iff _ _).trans (exists_congr fun set => and_congr_right fun _ => ScanSet.allBack_iff _)
  refine ⟨fun due => ?_, fun due => ?_, fun due => ?_, fun due => ?_⟩
  · refine ⟨_, congrArg Host.Outcome.next (State.takeExpiry_of_due due _), ?_⟩
    by_cases guard : s.cfm.frost = .guard
    · by_cases home : backTo
      · have frost : (s.expire .guard).cfm.frost = .guard := guard
        have moved : (s.expire .guard).guardExpired = (s.expire .guard).releaseGuard :=
          (if_pos guard).trans (if_pos ((toBack _).2 home))
        rw [moved]
        refine ⟨?_, fun _ _ => ⟨State.releaseGuard_cfm frost, State.releaseGuard_fde frost, ?_, ?_,
          fun ⟨⟨role, drained, _⟩, received⟩ => ?_, fun early => ?_⟩, fun _ away => absurd home away,
          fun h => absurd guard h⟩
        · rw [State.timer_releaseGuard frost, if_pos rfl, single _ rfl, Timer.expired_stop]
        · exact (State.setFrost_alerts .clear _).1
        · rw [State.releaseGuard_eq frost]
          exact (State.announceFrost_received _ _).2
        · exact State.releaseGuard_command (s := s.expire .guard) role drained received
        · exact State.releaseGuard_command_unreceived (s := s.expire .guard) early
      · have marked : (s.expire .guard).guardExpired = (s.expire .guard).putGuardPending true :=
          (if_pos guard).trans (if_neg (mt (toBack _).1 home))
        rw [marked]
        exact ⟨single _ rfl, fun _ h => absurd h home, fun _ _ => rfl, fun h => absurd guard h⟩
    · have still : (s.expire .guard).guardExpired = s.expire .guard := if_neg guard
      rw [still]
      exact ⟨single _ rfl, fun h => absurd h guard, fun h => absurd h guard, fun _ => rfl⟩
  · refine ⟨_, congrArg Host.Outcome.next (State.takeExpiry_of_due due _), ?_⟩
    by_cases protect : s.cfm.frost = .protect
    · by_cases home : backAll
      · have moved : (s.expire .prot).protExpired = (s.expire .prot).enterRecover :=
          (if_pos protect).trans (if_pos ((allBack _).2 home))
        rw [moved]
        refine ⟨?_, fun _ _ => ⟨State.enterRecover_cfm _, State.enterRecover_fde _, ?_, ?_,
          fun ⟨⟨role, drained, _⟩, received⟩ => ?_, fun early => ?_⟩, fun _ away => absurd home away,
          fun h => absurd protect h⟩
        · rw [State.timer_enterRecover, if_neg (by decide), single _ rfl]
        · rw [State.timer_enterRecover, if_pos rfl]; exact Timer.start_running _ _ _
        · exact (State.setFrost_alerts .recover _).2
        · exact State.enterRecover_command (s := s.expire .prot) role drained received
        · exact State.enterRecover_command_unreceived (s := s.expire .prot) early
      · have marked : (s.expire .prot).protExpired = (s.expire .prot).putProtectPending true :=
          (if_pos protect).trans (if_neg (mt (allBack _).1 home))
        rw [marked]
        exact ⟨single _ rfl, fun _ h => absurd h home, fun _ _ => rfl, fun h => absurd protect h⟩
    · have still : (s.expire .prot).protExpired = s.expire .prot := if_neg protect
      rw [still]
      exact ⟨single _ rfl, fun h => absurd h protect, fun h => absurd h protect, fun _ => rfl⟩
  · refine ⟨_, congrArg Host.Outcome.next (State.takeExpiry_of_due due _), ?_⟩
    by_cases recover : s.cfm.frost = .recover
    · have moved : (s.expire .recov).recovExpired = (s.expire .recov).setFrost .clear := if_pos recover
      obtain ⟨ends, keeps⟩ := State.setFrost_ends_recover (s := s.expire .recov) recover
      rw [moved]
      refine ⟨?_, fun _ => ⟨State.setFrost_frost _ _, (State.setFrost_alerts .clear _).2,
        fun ⟨⟨role, drained, _⟩, received⟩ => State.setFrost_command (s := s.expire .recov) role drained received,
        fun early => State.setFrost_command_unreceived (s := s.expire .recov) early _, fun role => ?_, keeps⟩,
        fun h => absurd recover h⟩
      · rw [State.timer_setFrost (by decide) (fun h => absurd h (by decide)), single _ rfl]
      · obtain ⟨fde, exer⟩ := ends role
        rw [fde]
        exact ⟨rfl, rfl, congrArg (fun r => some (RoleChange.mk r .resting .frostClear)) role, exer⟩
    · have still : (s.expire .recov).recovExpired = s.expire .recov := if_neg recover
      rw [still]
      exact ⟨single _ rfl, fun h => absurd h recover, fun _ => rfl⟩
  · refine ⟨_, congrArg Host.Outcome.next (State.takeExpiry_of_due due _), ?_⟩
    obtain ⟨live, taken⟩ := State.stagExpired_aou (s.expire .stag)
    have begins : BeginsWithCycleEnd s ((s.expire .stag).withCycleEnd State.stagExpired) :=
      State.withCycleEnd_begins (s := s.expire .stag) taken (by simp)
    refine ⟨begins, ?_⟩
    by_cases idle : s.cfm.suspended = true ∨ s.cfm.frost = .protect
    · have still : (s.expire .stag).stagExpired = s.expire .stag := if_pos idle.symm
      rw [State.withCycleEnd_of_still still]
      refine ⟨single _ rfl, fun active frost => ?_, fun _ => rfl⟩
      simp [active, frost] at idle
    · have active : s.cfm.suspended = false := Bool.eq_false_iff.2 fun h => idle (.inl h)
      have frost : s.cfm.frost ≠ .protect := fun h => idle (.inr h)
      have others : ∀ a, a ≠ .stag → (s.expire .stag).timer a = s.timer a := fun a h => State.timer_expire_ne h s
      obtain ⟨enters, timers, trip, guard, fans, command⟩ := State.stagnation_trips (s := s.expire .stag) active frost
      refine ⟨(timers .stag (by simp)).trans (single _ rfl), fun _ _ => ⟨enters.of_source rfl rfl rfl others,
        fun id h => ?_, trip, guard, fans, command⟩, fun h => absurd h idle⟩
      rw [timers id (by tauto), others id (by rintro rfl; simp at h)]

end Sys2Proof.Machine
end

section
/-! PROOFS. The frost monitor at a scan completion (R85, R93, R98, R105 to R107, R109 to R114, R116, R142, R143). -/

namespace Sys2Proof.Machine

/-! ### What the monitor sees, and what a scan completion keeps of it in either order (R60) -/

/-- `t` is as `s` in all that the frost monitor reads or moves. -/
structure State.FrostAlike (s t : State) : Prop where
  fde : t.fde = s.fde
  cfm : t.cfm = s.cfm
  fcc : t.fcc = s.fcc
  itb : t.itb = s.itb
  params : t.params = s.params
  command : t.vdr.command = s.vdr.command
  role : t.vdr.role = s.vdr.role
  drained : t.vdr.drained = s.vdr.drained
  frost : t.vdr.frost = s.vdr.frost
  fansAtRest : t.vdr.fansAtRest = s.vdr.fansAtRest
  received : t.vdr.allotmentReceived = s.vdr.allotmentReceived
  guardAlert : hasAlert t.aou.live .frostGuard = hasAlert s.aou.live .frostGuard
  tripAlert : hasAlert t.aou.live .frostTrip = hasAlert s.aou.live .frostTrip

theorem State.FrostAlike.refl (s : State) : s.FrostAlike s := by constructor <;> rfl

theorem State.FrostAlike.trans {s t u : State} (h : s.FrostAlike t) (h' : t.FrostAlike u) : s.FrostAlike u where
  fde := h'.fde.trans h.fde
  cfm := h'.cfm.trans h.cfm
  fcc := h'.fcc.trans h.fcc
  itb := h'.itb.trans h.itb
  params := h'.params.trans h.params
  command := h'.command.trans h.command
  role := h'.role.trans h.role
  drained := h'.drained.trans h.drained
  frost := h'.frost.trans h.frost
  fansAtRest := h'.fansAtRest.trans h.fansAtRest
  received := h'.received.trans h.received
  guardAlert := h'.guardAlert.trans h.guardAlert
  tripAlert := h'.tripAlert.trans h.tripAlert

theorem State.FrostAlike.timer {s t : State} (h : s.FrostAlike t) (a : TimerId) : t.timer a = s.timer a :=
  State.timer_congr h.itb a

theorem State.FrostAlike.current {s t : State} (h : s.FrostAlike t) (current : ReportsCurrent s) :
    ReportsCurrent t := by
  obtain ⟨role, drained, frost, rest⟩ := current
  refine ⟨?_, ?_, ?_, ?_⟩
  · rw [h.role, h.fde, role]
  · rw [h.drained, h.fde, drained]
  · rw [h.frost, h.cfm, frost]
  · rw [h.fansAtRest, h.fcc, rest]

theorem State.frostAlike_judgeScan (s : State) : s.FrostAlike s.judgeScan.reportSensors := by
  have live : s.judgeScan.reportSensors.aou.live
      = putAlert (putAlert s.aou.live .sensorFail s.judgeScan.ssc.anyFailed) .converterFault s.judgeScan.ssc.fault :=
    State.reportLive_live _ _
  exact ⟨rfl, rfl, rfl, rfl, rfl, rfl, rfl, rfl, rfl, rfl, rfl, by simp [live], by simp [live]⟩

theorem State.frostAlike_valveScan (set : ScanSet) (s : State) : s.FrostAlike (s.valveScan set) := by
  obtain ⟨command, role, drained, frost, rest, received⟩ := Vdr.scan_eq s.params set.vf s.vdr
  exact ⟨rfl, rfl, rfl, rfl, rfl, command, role, drained, frost, rest, received,
    AlertsBut.valveScan set s _ (by decide), AlertsBut.valveScan set s _ (by decide)⟩

/-- Whether the valve or the monitor takes the set first, the monitor evaluates it on what stood before (R60). -/
theorem State.completeScan_frostScan {s : State} {set : ScanSet}
    (published : (s.ssc.complete s.params.channels).scanSet = some set) (valveFirst : Bool) :
    ∃ u, s.FrostAlike u ∧ (u.frostScan set).FrostAlike (s.completeScan valveFirst) := by
  have judged := State.frostAlike_judgeScan s
  rw [State.completeScan_of_set published]
  cases valveFirst
  · exact ⟨_, judged, State.frostAlike_valveScan set _⟩
  · exact ⟨_, judged.trans (State.frostAlike_valveScan set _), .refl _⟩

/-! ### The statements' relations between states seen alike -/

theorem RoleTimersLeft.alike {s t u v : State} (h : RoleTimersLeft u v) (before : s.FrostAlike u)
    (after : v.FrostAlike t) : RoleTimersLeft s t :=
  h.congr (by rw [before.fde]) (by rw [after.fde]) (fun a _ => (before.timer a).symm) fun a _ => after.timer a

theorem EntersProtect.alike {causes : List TripCause} {s t u v : State} (h : EntersProtect causes u v)
    (before : s.FrostAlike u) (after : v.FrostAlike t) : EntersProtect causes s t := by
  obtain ⟨record, guard, recov, runs, starts, kept, enters, left⟩ :=
    h.of_source before.cfm before.fde before.params fun a _ => before.timer a
  refine ⟨?_, ?_, ?_, ?_, ?_, ?_, ?_, left.alike (.refl s) after⟩
  · rwa [after.cfm]
  · rwa [after.timer]
  · rwa [after.timer]
  · rwa [after.timer]
  · rwa [after.timer]
  · rwa [after.fde]
  · rwa [after.fde]

theorem CommandAtReport.alike {s t u v : State} (h : CommandAtReport u v) (before : s.FrostAlike u)
    (after : v.FrostAlike t) : CommandAtReport s t :=
  h.congr before.command after.params after.cfm after.fde after.command

/-! ### The evaluation (R106, R107, R110, R111) -/

/-- `t` is as `s` but for the monitor's marks and its timers T_GUARD, T_PROT and T_RECOV. -/
structure State.MarkedAlike (s t : State) : Prop where
  fde : t.fde = s.fde
  vdr : t.vdr = s.vdr
  params : t.params = s.params
  aou : t.aou = s.aou
  frost : t.cfm.frost = s.cfm.frost
  timer : ∀ a, a ∉ [TimerId.guard, .prot, .recov] → t.timer a = s.timer a

theorem State.MarkedAlike.refl (s : State) : s.MarkedAlike s := ⟨rfl, rfl, rfl, rfl, rfl, fun _ _ => rfl⟩

theorem State.markedAlike_prepareTrip (causes : List TripCause) (s : State) :
    s.MarkedAlike (s.prepareTrip causes) := by
  refine ⟨?_, ?_, ?_, ?_, rfl, fun a ha => (State.timer_protectTimers a s).trans ?_⟩
  · simp [State.prepareTrip]
  · simp [State.prepareTrip]
  · simp [State.prepareTrip]
  · simp [State.prepareTrip]
  · rw [if_neg (by rintro rfl; simp at ha), if_neg (by rintro (rfl | rfl) <;> simp at ha)]

/-- A mark set with one of the monitor's timers moved. -/
theorem State.MarkedAlike.of_timer {s t : State} {b : TimerId} (own : b ∈ [TimerId.guard, .prot, .recov])
    (fde : t.fde = s.fde) (vdr : t.vdr = s.vdr) (params : t.params = s.params) (aou : t.aou = s.aou)
    (frost : t.cfm.frost = s.cfm.frost) (timer : ∀ a, a ≠ b → t.timer a = s.timer a) : s.MarkedAlike t :=
  ⟨fde, vdr, params, aou, frost, fun a ha => timer a fun h => ha (h ▸ own)⟩

theorem State.markedAlike_startTimer {b : TimerId} (own : b ∈ [TimerId.guard, .prot, .recov]) (s : State) :
    s.MarkedAlike (s.startTimer b) :=
  .of_timer own (by simp) (by simp) (by simp) (by simp) (by simp) fun a h =>
    (State.timer_startTimer a b s).trans (if_neg h)

theorem State.markedAlike_stopTimer {b : TimerId} (own : b ∈ [TimerId.guard, .prot, .recov]) (s : State) :
    s.MarkedAlike (s.stopTimer b) :=
  .of_timer own (by simp) (by simp) (by simp) (by simp) (by simp) fun a h =>
    (State.timer_stopTimer a b s).trans (if_neg h)

theorem State.MarkedAlike.marks {s t : State} (h : s.MarkedAlike t) (guard protect : Bool) :
    s.MarkedAlike { t with cfm := { t.cfm with guardPending := guard, protectPending := protect } } :=
  ⟨h.fde, h.vdr, h.params, h.aou, h.frost, h.timer⟩

/-- An evaluation leaves the state with marks and timers moved, or changes it after moving them. -/
theorem State.evaluate_cases (set : ScanSet) (s : State) : s.MarkedAlike (s.evaluate set)
    ∨ ∃ w new, s.MarkedAlike w ∧ new ≠ s.cfm.frost ∧ (new ≠ .clear ∨ s.cfm.frost ≠ .recover)
        ∧ s.evaluate set = w.setFrost new := by
  unfold State.evaluate
  split
  · next trips =>
    refine .inr ⟨_, .protect, State.markedAlike_prepareTrip _ s, fun protect => trips ?_, .inl (by decide), rfl⟩
    rw [← protect]; rfl
  · split
    · next clear =>
      split
      · refine .inr ⟨_, .guard, (State.markedAlike_startTimer (by decide) s).marks false _, by simp [clear],
          .inl (by decide), rfl⟩
      · exact .inl (.refl s)
    · next guard =>
      unfold State.watchGuard
      split
      · refine .inl (.of_timer (b := .guard) (by decide) (by simp) (by simp) (by simp) (by simp) (by simp) fun a h =>
          (State.timer_startTimer a _ _).trans (if_neg h))
      · split
        · refine .inr ⟨_, .clear, (State.markedAlike_stopTimer (by decide) s).marks false _, by simp [guard],
            .inr (by simp [guard]), rfl⟩
        · exact .inl (.refl s)
    · next protect =>
      split
      · refine .inr ⟨_, .recover, (State.markedAlike_startTimer (by decide) s).marks _ false, by simp [protect],
          .inl (by decide), rfl⟩
      · exact .inl (.refl s)
    · exact .inl (.refl s)

theorem State.MarkedAlike.roleTimer {s t : State} (h : s.MarkedAlike t) {a : TimerId}
    (ha : a ∈ [TimerId.warm, .rot, .shed]) : t.timer a = s.timer a :=
  h.timer a (by cases a <;> simp_all)

theorem State.roleTimersLeft_evaluate (set : ScanSet) (s : State) : RoleTimersLeft s (s.evaluate set) := by
  rcases State.evaluate_cases set s with marked | ⟨w, new, marked, -, -, changed⟩
  · exact (RoleTimersLeft.refl s).congr rfl (by rw [marked.fde]) (fun _ _ => rfl) fun _ ha => marked.roleTimer ha
  · rw [changed]
    exact (State.roleTimersLeft_setFrost new w).congr (by rw [marked.fde]) rfl (fun _ ha => (marked.roleTimer ha).symm)
      fun _ _ => rfl

/-- An evaluation moves no timer but the monitor's and the role machine's. -/
theorem State.timer_evaluate {a : TimerId} (ha : a = .exer ∨ a = .ice ∨ a = .ord ∨ a = .stag) (set : ScanSet)
    (s : State) : (s.evaluate set).timer a = s.timer a := by
  have free : a ∉ [TimerId.guard, .prot, .recov] := by rcases ha with rfl | rfl | rfl | rfl <;> decide
  have role : a ∉ [TimerId.warm, .rot, .shed] := by rcases ha with rfl | rfl | rfl | rfl <;> decide
  rcases State.evaluate_cases set s with marked | ⟨w, new, marked, -, ends, changed⟩
  · exact marked.timer a free
  · rw [changed, State.timer_setFrost role fun _ => by rwa [marked.frost], marked.timer a free]

/-- An evaluation that leaves the frost state leaves the alerts and the valve (R113, R114). -/
theorem State.evaluate_still {set : ScanSet} {s : State} (still : (s.evaluate set).cfm.frost = s.cfm.frost) :
    (s.evaluate set).aou = s.aou ∧ (s.evaluate set).vdr = s.vdr := by
  rcases State.evaluate_cases set s with marked | ⟨w, new, -, moves, -, changed⟩
  · exact ⟨marked.aou, marked.vdr⟩
  · rw [changed, State.setFrost_frost] at still
    exact absurd still moves

/-- An evaluation that changes the frost state reports it to the AOU (R113). -/
theorem State.evaluate_alerts {set : ScanSet} {s : State} (moves : (s.evaluate set).cfm.frost ≠ s.cfm.frost) :
    (hasAlert (s.evaluate set).aou.live .frostGuard = true ↔ (s.evaluate set).cfm.frost = .guard)
      ∧ (hasAlert (s.evaluate set).aou.live .frostTrip = true
        ↔ (s.evaluate set).cfm.frost = .protect ∨ (s.evaluate set).cfm.frost = .recover) := by
  rcases State.evaluate_cases set s with marked | ⟨w, new, -, -, -, changed⟩
  · exact absurd marked.frost moves
  · obtain ⟨guard, trip⟩ := State.setFrost_alerts new w
    rw [changed, State.setFrost_frost, guard, trip]
    simp

theorem State.evaluate_unreceived {s : State} (early : s.vdr.allotmentReceived = false) (set : ScanSet) :
    (s.evaluate set).vdr.command = s.vdr.command := by
  rcases State.evaluate_cases set s with marked | ⟨w, new, marked, -, -, changed⟩
  · rw [marked.vdr]
  · rw [changed, State.setFrost_command_unreceived (by rwa [marked.vdr]), marked.vdr]

/-- The valve takes at once the frost state that an evaluation changes (R114, R142, R143). -/
theorem State.evaluate_command {set : ScanSet} {s : State} (moves : (s.evaluate set).cfm.frost ≠ s.cfm.frost)
    (current : ReportsCurrent s) (received : s.vdr.allotmentReceived = true) :
    CommandAtReport s (s.evaluate set) := by
  rcases State.evaluate_cases set s with marked | ⟨w, new, marked, -, -, changed⟩
  · exact absurd marked.frost moves
  · obtain ⟨role, drained, -⟩ := current
    have command := State.setFrost_command (s := w) (new := new) (by rw [marked.vdr, marked.fde]; exact role)
      (by rw [marked.vdr, marked.fde]; exact drained) (by rwa [marked.vdr])
    rw [changed]
    exact command.congr (by rw [marked.vdr]) rfl rfl rfl rfl

/-! ### The evaluation, state by state (R106, R107, R110, R111) -/

theorem ScanSet.surfaceCauses_eq (set : ScanSet) : set.surfaceCauses
    = (if set.tsl.comparator = .below then [.lowerSurface] else [])
      ++ (if set.tsu.comparator = .below then [.upperSurface] else []) := by
  simp [ScanSet.surfaceCauses, Published.trips]

theorem ScanSet.causes_eq (set : ScanSet) : set.causes
    = set.surfaceCauses ++ (if set.dp.comparator = .above then [.pressure] else []) := by
  simp [ScanSet.causes, ScanSet.rises]

theorem ScanSet.cold_iff (set : ScanSet) : set.cold = true ↔ set.to.ok = false ∨ set.to.comparator = .below := by
  simp [ScanSet.cold]

theorem State.evaluate_trips {s : State} {set : ScanSet} (trips : tripCauses s.cfm.frost set ≠ []) :
    s.evaluate set = s.enterProtect (tripCauses s.cfm.frost set) := if_pos trips

theorem State.evaluate_clear {s : State} {set : ScanSet} (clear : s.cfm.frost = .clear)
    (quiet : set.surfaceCauses = []) : s.evaluate set = if set.cold then s.enterGuard else s := by
  unfold State.evaluate
  rw [if_neg (by simp [clear, tripCauses, quiet]), clear]

theorem State.evaluate_guard {s : State} {set : ScanSet} (guard : s.cfm.frost = .guard) (quiet : set.causes = []) :
    s.evaluate set = s.watchGuard set := by
  unfold State.evaluate
  rw [if_neg (by simp [guard, tripCauses, quiet]), guard]

theorem State.evaluate_protect {s : State} (protect : s.cfm.frost = .protect) (set : ScanSet) :
    s.evaluate set = if s.cfm.protectPending ∧ set.allBack then s.enterRecover else s := by
  unfold State.evaluate
  rw [if_neg (by simp [protect, tripCauses]), protect]

theorem State.evaluate_recover {s : State} {set : ScanSet} (recover : s.cfm.frost = .recover)
    (quiet : set.causes = []) : s.evaluate set = s := by
  unfold State.evaluate
  rw [if_neg (by simp [recover, tripCauses, quiet]), recover]

/-- The entry to GUARD (R106). -/
theorem State.enterGuard_eq (s : State) :
    s.enterGuard = ((s.startTimer .guard).putGuardPending false).announceFrost .guard :=
  State.setFrost_of_apart (by decide) (.inr (by decide))

/-! ### The flow watch (R112) -/

/-- The flow watch moves T_STAG and nothing else. -/
theorem State.watchFlow_eq (set : ScanSet) (s : State) : s.watchFlow set = { s with itb := (s.watchFlow set).itb } := by
  unfold State.watchFlow State.startIf
  repeat' split
  all_goals rfl

theorem State.timer_watchFlow {a : TimerId} (ha : a ≠ .stag) (set : ScanSet) (s : State) :
    (s.watchFlow set).timer a = s.timer a := by
  unfold State.watchFlow
  split
  · exact (State.timer_startTimer a .stag s).trans (if_neg ha)
  · exact State.timer_startIf_ne ha _ s

/-- T_STAG after the flow watch (R112). -/
theorem State.stag_watchFlow (set : ScanSet) (s : State) : (s.watchFlow set).timer .stag
    = if (s.params.stagnationOpening : Int) ≤ set.flowFigure s.vdr.command ∨ (s.timer .stag).running = false
      then (s.timer .stag).load (s.timerParams .stag) else s.timer .stag := by
  have loads : (s.timer .stag).start true (s.timerParams .stag) = (s.timer .stag).load (s.timerParams .stag) :=
    Timer.start_eq_load (.inr rfl) _
  unfold State.watchFlow
  by_cases flows : (s.params.stagnationOpening : Int) ≤ set.flowFigure s.vdr.command
  · rw [if_pos flows, if_pos (.inl flows), State.timer_startTimer, if_pos rfl]
    exact loads
  · rw [if_neg flows, State.timer_startIf]
    cases running : (s.timer .stag).running
    · rw [if_pos (by simp), if_pos (.inr rfl)]
      exact loads
    · rw [if_neg (by simp), if_neg (by simp [flows])]

theorem RoleTimersLeft.watchFlow {s t : State} (h : RoleTimersLeft s t) (set : ScanSet) :
    RoleTimersLeft s (t.watchFlow set) :=
  h.congr rfl (by simp) (fun _ _ => rfl) fun a ha => State.timer_watchFlow (by rintro rfl; simp at ha) set t

theorem EntersProtect.watchFlow {causes : List TripCause} {s t : State} (h : EntersProtect causes s t)
    (set : ScanSet) : EntersProtect causes s (t.watchFlow set) := by
  obtain ⟨record, guard, recov, runs, starts, kept, enters, left⟩ := h
  have timer : ∀ a, a ≠ .stag → (t.watchFlow set).timer a = t.timer a := fun a ha => State.timer_watchFlow ha set t
  refine ⟨by simpa using record, ?_, ?_, ?_, ?_, by simpa using kept, by simpa using enters, left.watchFlow set⟩
  · rwa [timer .guard (by decide)]
  · rwa [timer .recov (by decide)]
  · rwa [timer .prot (by decide)]
  · rwa [timer .prot (by decide)]

theorem CommandAtReport.watchFlow {s t : State} (h : CommandAtReport s t) (set : ScanSet) :
    CommandAtReport s (t.watchFlow set) := by
  rw [State.watchFlow_eq]
  exact h

/-- The scan of a monitor that is not suspended is its evaluation, T_STAG apart (R105, R112). -/
theorem State.frostScan_of_active {s : State} (active : s.cfm.suspended = false) (set : ScanSet) :
    s.frostScan set = (s.evaluate set).watchFlow set := if_neg (by simp [active])

theorem State.frostScan_of_suspended {s : State} (suspended : s.cfm.suspended = true) (set : ScanSet) :
    s.frostScan set = s := if_pos suspended

theorem State.enterGuard_enters (s : State) : s.enterGuard.cfm = { s.cfm with frost := .guard, guardPending := false }
    ∧ s.enterGuard.fde = s.fde ∧ (s.enterGuard.timer .guard).running = true := by
  have timer : s.enterGuard.timer .guard = (s.timer .guard).start true (s.timerParams .guard) := by
    rw [State.enterGuard_eq, State.timer_announceFrost]
    exact State.timer_startTimer .guard .guard s
  refine ⟨?_, ?_, by rw [timer]; exact Timer.start_running _ _ _⟩
  · rw [State.enterGuard_eq, State.announceFrost_cfm]; simp
  · rw [State.enterGuard_eq]; simp

/-- T_GUARD is started again by a set that is cold and trips nothing (R107). -/
theorem State.watchGuard_of_below {s : State} {set : ScanSet} (below : set.to.comparator = .below) :
    (s.watchGuard set).cfm = { s.cfm with guardPending := false }
      ∧ (s.watchGuard set).timer .guard = (s.timer .guard).load (s.timerParams .guard) := by
  have retriggers : s.watchGuard set = (s.putGuardPending false).startTimer .guard := if_pos below
  rw [retriggers, State.timer_startTimer, if_pos rfl]
  exact ⟨by simp, Timer.start_eq_load (.inr rfl) _⟩

theorem State.watchGuard_of_release {s : State} {set : ScanSet} (frost : s.cfm.frost = .guard)
    (pending : s.cfm.guardPending = true) (back : set.to.ok = true ∧ set.to.comparator ≠ .below) :
    (s.watchGuard set).cfm = { s.cfm with frost := .clear, guardPending := false }
      ∧ ((s.watchGuard set).timer .guard).running = false := by
  have releases : s.watchGuard set = s.releaseGuard :=
    (if_neg back.2).trans (if_pos ⟨pending, (Published.back_iff _).2 back⟩)
  rw [releases, State.timer_releaseGuard frost, if_pos rfl]
  exact ⟨State.releaseGuard_cfm frost, rfl⟩

theorem State.watchGuard_of_wait {s : State} {set : ScanSet} (above : set.to.comparator ≠ .below)
    (waits : s.cfm.guardPending = false ∨ set.to.ok = false) : s.watchGuard set = s := by
  refine (if_neg above).trans (if_neg fun ⟨pending, back⟩ => ?_)
  simp [pending, ((Published.back_iff _).1 back).1] at waits

/-- Settles O29: the set is evaluated once on the state before it, and what `State.setFrost` does of it the other
blocks have at the end of the scan. -/
theorem scanCompletionMovesTheFrostState : Obligations.ScanCompletionMovesTheFrostState := by
  intro valveFirst s loaded whole
  obtain ⟨set, published, -⟩ := Ssc.complete_scanSet s.params.channels s.ssc
  refine ⟨_, set, exec_scanCompletion loaded whole valveFirst, by rw [State.completeScan_ssc, published], ?_⟩
  obtain ⟨u, before, after⟩ := State.completeScan_frostScan published valveFirst
  generalize s.completeScan valveFirst = t at after
  intro surface causes tripped back flow load
  have surfaceCauses : set.surfaceCauses = surface := set.surfaceCauses_eq
  have allCauses : set.causes = causes := set.causes_eq.trans (by rw [surfaceCauses])
  cases active : s.cfm.suspended
  case true =>
    rw [State.frostScan_of_suspended (by rw [before.cfm, active])] at after
    have alike := before.trans after
    have still : t.cfm.frost = s.cfm.frost := by rw [alike.cfm]
    exact ⟨(RoleTimersLeft.refl s).alike (.refl s) alike, fun id _ => alike.timer id,
      fun _ => ⟨alike.cfm, alike.fde, alike.itb⟩, fun _ => ⟨alike.guardAlert, alike.tripAlert⟩,
      fun moves => absurd still moves, fun _ => alike.command, fun moves => absurd still moves, by simp⟩
  have awake : u.cfm.suspended = false := by rw [before.cfm, active]
  rw [State.frostScan_of_active awake] at after
  have cfm : t.cfm = (u.evaluate set).cfm := after.cfm.trans (by simp)
  have fde : t.fde = (u.evaluate set).fde := after.fde.trans (by simp)
  have command : t.vdr.command = (u.evaluate set).vdr.command := after.command.trans (by simp)
  have timer : ∀ a, a ≠ .stag → t.timer a = (u.evaluate set).timer a := fun a ha =>
    (after.timer a).trans (State.timer_watchFlow ha set _)
  have still : t.cfm.frost = s.cfm.frost ↔ (u.evaluate set).cfm.frost = u.cfm.frost := by rw [cfm, before.cfm]
  have trips : ∀ cs, tripCauses u.cfm.frost set = cs → cs ≠ [] → tripped cs := fun cs holds some => by
    subst holds
    have enters := State.enterProtect_entersProtect awake (tripCauses u.cfm.frost set)
    rw [← State.evaluate_trips some] at enters
    exact (enters.watchFlow set).alike before after
  have flowFigure : set.flowFigure (u.evaluate set).vdr.command = flow := by rw [← command]; rfl
  have stag : t.timer .stag = if (s.params.stagnationOpening : Int) ≤ flow ∨ (s.timer .stag).running = false
      then load else s.timer .stag := by
    rw [after.timer, State.stag_watchFlow, flowFigure, State.timer_evaluate (by tauto), before.timer,
      State.timerParams_congr ((State.evaluate_frame set u).2.2.2.1.trans before.params),
      (State.evaluate_frame set u).2.2.2.1, before.params]
    rfl
  refine ⟨?_, fun id h => ?_, fun h => by simp at h, fun h => ?_, fun h => ?_, fun h => ?_,
    fun h current received => ?_,
    fun _ => ⟨fun clear => ?_, fun clear quiet cold => ?_, fun clear quiet good above => ?_, fun frost => ?_,
      fun guard quiet below => ?_, fun guard quiet pending home => ?_, fun guard quiet above waits => ?_,
      fun protect pending outlet lower upper => ?_, fun protect waits => ?_, fun recover quiet => ?_, fun flows => ?_,
      fun slack => ?_⟩⟩
  · exact ((State.roleTimersLeft_evaluate set u).watchFlow set).alike before after
  · rw [timer id (by rcases h with rfl | rfl | rfl <;> decide), State.timer_evaluate (by tauto), before.timer]
  · obtain ⟨aou, -⟩ := State.evaluate_still (still.1 h)
    rw [after.guardAlert, after.tripAlert, ← before.guardAlert, ← before.tripAlert]
    simp [aou]
  · obtain ⟨guard, trip⟩ := State.evaluate_alerts (mt still.2 h)
    rw [after.guardAlert, after.tripAlert, cfm]
    simpa using ⟨guard, trip⟩
  · rw [command, ← before.command]
    rcases h with h | early
    · rw [(State.evaluate_still (still.1 h)).2]
    · exact State.evaluate_unreceived (by rwa [before.received]) set
  · have taken := State.evaluate_command (mt still.2 h) (before.current current) (by rwa [before.received])
    exact (taken.watchFlow set).alike before after
  · exact trips surface (by rw [before.cfm, clear, ← surfaceCauses]; rfl)
  · have enters : u.evaluate set = u.enterGuard := by
      rw [State.evaluate_clear (by rwa [before.cfm]) (by rwa [surfaceCauses]), if_pos (set.cold_iff.2 cold)]
    obtain ⟨record, role, runs⟩ := State.enterGuard_enters u
    rw [cfm, fde, timer .guard (by decide), enters, record, role, ← before.fde]
    exact ⟨rfl, rfl, runs, rfl⟩
  · have warm : ¬ set.cold = true := fun h => (set.cold_iff.1 h).elim (by simp [good]) above
    have stays : u.evaluate set = u := by
      rw [State.evaluate_clear (by rwa [before.cfm]) (by rwa [surfaceCauses]), if_neg warm]
    rw [cfm, fde, stays, before.cfm, before.fde]
    exact ⟨rfl, rfl⟩
  · refine trips causes ?_
    rw [before.cfm, ← allCauses]
    rcases frost with frost | frost <;> rw [frost] <;> rfl
  · have stays := State.evaluate_guard (s := u) (by rwa [before.cfm]) (allCauses.trans quiet)
    obtain ⟨record, again⟩ := State.watchGuard_of_below (s := u) below
    rw [cfm, timer .guard (by decide), stays, record, again, before.cfm, before.timer,
      State.timerParams_congr before.params]
    exact ⟨rfl, rfl⟩
  · have stays := State.evaluate_guard (s := u) (by rwa [before.cfm]) (allCauses.trans quiet)
    obtain ⟨record, stops⟩ := State.watchGuard_of_release (s := u) (by rwa [before.cfm]) (by rwa [before.cfm]) home
    rw [cfm, timer .guard (by decide), stays, record]
    exact ⟨rfl, rfl, stops⟩
  · have stays := State.evaluate_guard (s := u) (by rwa [before.cfm]) (allCauses.trans quiet)
    rw [cfm, stays, State.watchGuard_of_wait above (by rwa [before.cfm]), before.cfm]
  · have enters : u.evaluate set = u.enterRecover := by
      rw [State.evaluate_protect (by rwa [before.cfm]),
        if_pos ⟨by rwa [before.cfm], set.allBack_iff.2 ⟨outlet, lower, upper⟩⟩]
    rw [cfm, timer .recov (by decide), enters, State.enterRecover_cfm, State.timer_enterRecover, if_pos rfl]
    exact ⟨rfl, rfl, Timer.start_running _ _ _⟩
  · have held : ¬ (u.cfm.protectPending = true ∧ set.allBack = true) := fun ⟨pending, home⟩ => by
      obtain ⟨outlet, lower, upper⟩ := set.allBack_iff.1 home
      rw [before.cfm] at pending
      rcases waits with h | h | h | h
      · simp [h] at pending
      · exact h outlet
      · exact h lower
      · exact h upper
    have stays : u.evaluate set = u := (State.evaluate_protect (by rwa [before.cfm]) set).trans (if_neg held)
    rw [cfm, stays, before.cfm]
  · rw [cfm, State.evaluate_recover (by rwa [before.cfm]) (allCauses.trans quiet), before.cfm]
  · rw [stag, if_pos (.inl flows)]
  · have dry : ¬ (s.params.stagnationOpening : Int) ≤ flow := not_le.2 slack
    rw [stag]
    exact ⟨fun runs => if_neg (by simp [dry, runs]), fun idle => if_pos (.inr idle)⟩

end Sys2Proof.Machine
end

section
/-! PROOFS. What an order's edges do to the fans and the alerts (R134, R139, R164, R168). -/

namespace Sys2Proof.Machine

/-! ### The passes over the channels, channel by channel -/

/-- The forcing of a new role, as R133 words it. -/
theorem Fcc.channel_roleReport (r : Role) (f : Fcc) (i : Fin 6) : (f.roleReport r).channel i
    = if ¬ (r = .carrying ∨ r = .shedding) ∧ (f.channel i).inHand = true
        ∧ (r = .resting → (f.channel i).cls = some .duty)
      then (f.channel i).toOff else f.channel i := by
  have forces : ∀ c : FanChannel, roleForces r c = true
      ↔ ¬ (r = .carrying ∨ r = .shedding) ∧ (r = .resting → c.cls = some .duty) := fun c => by
    cases r <;> simp [roleForces]
  rw [Fcc.roleReport, Fcc.channel_forceOff]
  refine if_congr ?_ rfl rfl
  rw [Bool.and_eq_true, forces]
  tauto

/-- The fan reset at a channel that is ICED or OFF (R139). -/
def FanChannel.resetFan (c : FanChannel) : FanChannel :=
  if c.state = .iced ∨ c.state = .off then
    { c with state := .off, cls := none, command := 0, retries := 0, deferrals := 0, iceSuspect := false }
  else c

theorem Fcc.channel_fanReset (f : Fcc) (i : Fin 6) : f.fanReset.channel i = (f.channel i).resetFan := by
  refine (Fcc.channel_foldl (g := FanChannel.resetFan) (fun f i j => ?_) (by decide) f i).trans
    (if_pos (mem_fanChannels i))
  unfold Fcc.resetOne FanChannel.resetFan
  split
  · exact Fcc.channel_modify i j _ f
  · split
    · next same => rw [same]
    · rfl

/-- The exercise at a channel that is OFF (R134). -/
def FanChannel.exerciseFan (frost : FrostState) (c : FanChannel) : FanChannel :=
  if c.state = .off then
    if frost = .clear then c.toQueue .exercise
    else { c with deferrals := satInc 4 c.deferrals, iceSuspect := c.iceSuspect || 3 ≤ c.deferrals }
  else c

theorem Fcc.channel_exercise (frost : FrostState) (f : Fcc) (i : Fin 6) :
    (f.exercise frost).channel i = (f.channel i).exerciseFan frost := by
  refine (Fcc.channel_foldl (g := FanChannel.exerciseFan frost) (fun f i j => ?_) (by decide) f i).trans
    (if_pos (mem_fanChannels i))
  unfold Fcc.exerciseOne FanChannel.exerciseFan
  split
  · split
    · exact Fcc.channel_modify i j _ f
    · exact Fcc.channel_modify i j _ f
  · split
    · next same => rw [same]
    · rfl

theorem FanChannel.resetFan_ne_iced (c : FanChannel) : c.resetFan.state ≠ .iced := by
  unfold FanChannel.resetFan
  split
  · simp
  · next other => exact fun iced => other (.inl iced)

/-! ### What these passes leave of the controller -/

/-- The pair bits, the tach count and its mark stand. -/
def Fcc.SameRest (f g : Fcc) : Prop := g.bits = f.bits ∧ g.intervals = f.intervals ∧ g.tachDue = f.tachDue

theorem Fcc.SameRest.refl (f : Fcc) : f.SameRest f := ⟨rfl, rfl, rfl⟩

theorem Fcc.SameRest.trans {f g h : Fcc} (first : f.SameRest g) (second : g.SameRest h) : f.SameRest h :=
  ⟨second.1.trans first.1, second.2.1.trans first.2.1, second.2.2.trans first.2.2⟩

theorem Fcc.sameRest_foldl {op : Fcc → Fin 6 → Fcc} (step : ∀ (f : Fcc) i, f.SameRest (op f i))
    (l : List (Fin 6)) (f : Fcc) : f.SameRest (l.foldl op f) :=
  Fcc.foldl_keeps (P := f.SameRest) (fun g i h => h.trans (step g i)) l (.refl f)

theorem Fcc.sameRest_roleReport (r : Role) (f : Fcc) : f.SameRest (f.roleReport r) :=
  Fcc.sameRest_foldl (fun g i => by unfold Fcc.forceOne; split <;> exact .refl g) _ f

theorem Fcc.sameRest_fanReset (f : Fcc) : f.SameRest f.fanReset :=
  Fcc.sameRest_foldl (fun g i => by unfold Fcc.resetOne; split <;> exact .refl g) _ f

theorem Fcc.sameRest_exercise (frost : FrostState) (f : Fcc) : f.SameRest (f.exercise frost) :=
  Fcc.sameRest_foldl (fun g i => by unfold Fcc.exerciseOne; (repeat' split) <;> exact .refl g) _ f

/-! ### The edges of an order (R164) -/

theorem State.edge_iff (s : State) (mask previous : StationMask) :
    s.edge mask previous = true ↔ s.ownBit mask = true ∧ s.ownBit previous = false := by
  simp [State.edge]

theorem State.takeFanReset_fcc (o : Order) (s : State) : (s.takeFanReset o).fcc
    = if s.edge o.fanReset s.ord.prevFanReset = true then s.fcc.fanReset else s.fcc := by
  unfold State.takeFanReset
  split
  · simp [State.fanReset]
  · rfl

theorem State.exercise_fcc (s : State) :
    s.exercise.fcc = if s.fde.role = .resting then s.fcc.exercise s.cfm.frost else s.fcc := by
  unfold State.exercise
  by_cases rests : s.fde.role = .resting
  · rw [if_pos rests, if_pos rests]
  · rw [if_neg rests, if_neg rests]

theorem State.takeExercise_fcc (o : Order) (s : State) : (s.takeExercise o).fcc
    = if s.edge o.exercise s.ord.prevExercise = true ∧ s.fde.role = .resting then s.fcc.exercise s.cfm.frost
      else s.fcc := by
  unfold State.takeExercise
  by_cases found : s.edge o.exercise s.ord.prevExercise = true
  · rw [if_pos found, State.exercise_fcc]
    simp only [found, true_and]
  · rw [if_neg found, if_neg fun h => found h.1]

/-- The fans after an order's edges (R134, R139, R164). -/
theorem State.takeEdges_fcc (o : Order) (s : State) : (s.takeEdges o).fcc
    = if s.edge o.exercise s.ord.prevExercise = true ∧ s.fde.role = .resting
      then (s.takeFanReset o).fcc.exercise s.cfm.frost else (s.takeFanReset o).fcc := by
  have cleared : (s.takeEdges o).fcc = ((s.takeFanReset o).takeExercise o).fcc := by simp [State.takeEdges]
  have edge : (s.takeFanReset o).edge o.exercise (s.takeFanReset o).ord.prevExercise
      = s.edge o.exercise s.ord.prevExercise := by
    simp [State.edge, State.ownBit]
  rw [cleared, State.takeExercise_fcc, edge]
  simp

/-- After a fan reset no channel is ICED, and FAN_ICE is clear (R138, R139). -/
theorem State.fanReset_thaws (s : State) :
    (∀ i, (s.fcc.fanReset.channel i).state ≠ .iced) ∧ hasAlert s.fanReset.aou.live .fanIce = false := by
  have thawed : ∀ i, (s.fcc.fanReset.channel i).state ≠ .iced := fun i => by
    rw [Fcc.channel_fanReset]
    exact FanChannel.resetFan_ne_iced _
  have clear : s.fcc.fanReset.anyIced = false := by
    rw [← Bool.not_eq_true, Fcc.anyIced_iff]
    exact fun ⟨i, iced⟩ => thawed i iced
  have live : s.fanReset.aou.live = putAlert s.aou.live .fanIce s.fcc.fanReset.anyIced := by
    rw [State.fanReset, State.reportIce, State.report, State.reportLive_live]
  exact ⟨thawed, by rw [live, hasAlert_putAlert, if_pos rfl, clear]⟩

/-- The alerts after an order's edges: FAN_ICE apart they stand live (R164, R168). -/
theorem State.takeEdges_live (o : Order) (s : State) : (s.takeEdges o).aou.live = (s.takeFanReset o).aou.live
    ∧ AlertsBut [.fanIce] s (s.takeEdges o) := by
  have cleared : ∀ u : State, (u.takeClear o).aou.live = u.aou.live := fun u => by
    unfold State.takeClear
    split
    · exact (Aou.reeval_live _ _ _).1
    · rfl
  have live : (s.takeEdges o).aou.live = (s.takeFanReset o).aou.live := by simp [State.takeEdges, cleared]
  refine ⟨live, fun c hc => ?_⟩
  have other : c ≠ .fanIce := by simpa using hc
  rw [live]
  unfold State.takeFanReset
  split
  · rw [State.fanReset, State.reportIce, State.report, State.reportLive_live, hasAlert_putAlert, if_neg other]
  · rfl

/-- A clear of every category leaves the flags of the live conditions alone (R168). -/
theorem State.takeClear_latched {o : Order} {s : State} (found : s.edge o.clearAlerts s.ord.prevClear = true)
    {c : Category} (dead : hasAlert (s.takeClear o).aou.live c = false) :
    hasAlert (s.takeClear o).aou.latched c = false := by
  have clears : s.takeClear o = s.clearAlerts (BitVec.allOnes 12) := if_pos found
  obtain ⟨live, latched⟩ := Aou.reeval_live s.enables s.params.selects
    { s.aou with latched := s.aou.latched &&& (~~~(BitVec.allOnes 12) ||| s.aou.live) }
  rw [clears] at dead ⊢
  have dead' : hasAlert s.aou.live c = false := (congrArg (hasAlert · c) live).symm.trans dead
  refine (congrArg (hasAlert · c) latched).trans ?_
  simp only [hasAlert] at dead' ⊢
  simp [dead']

end Sys2Proof.Machine
end

section
/-! PROOFS. What an order's levels do to the role machine, and with it to the monitor, the fans and the valve (R85, R93,
R100 to R102, R116, R117, R133, R136, R142, R143, R163). -/

namespace Sys2Proof.Machine

/-! ### The levels, case by case (R163) -/

theorem State.takeLevels_of_withdraw {s : State} (role : s.fde.role ≠ .withdrawn) (drained : Bool) :
    s.takeLevels true drained = s.changeRole .withdraw .withdrawn drained :=
  (if_pos rfl).trans (if_pos role)

theorem State.takeLevels_of_drain {s : State} {drained : Bool} (role : s.fde.role = .withdrawn)
    (moves : s.fde.drained ≠ drained) : s.takeLevels true drained = (s.putDrained drained).reportDrained :=
  (if_pos rfl).trans ((if_neg (by simp [role])).trans (if_pos moves))

theorem State.takeLevels_of_level {s : State} {drained : Bool} (role : s.fde.role = .withdrawn)
    (level : s.fde.drained = drained) : s.takeLevels true drained = s :=
  (if_pos rfl).trans ((if_neg (by simp [role])).trans (if_neg (by simp [level])))

theorem State.takeLevels_of_restore {s : State} (role : s.fde.role = .withdrawn) (drained : Bool) :
    s.takeLevels false drained = s.changeRole .restore (restoredRole s.cfm.frost) false :=
  (if_neg (by simp)).trans (if_pos role)

theorem State.takeLevels_of_free {s : State} (role : s.fde.role ≠ .withdrawn) (drained : Bool) :
    s.takeLevels false drained = s :=
  (if_neg (by simp)).trans (if_neg role)

/-- The role machine's record after the levels (the table of R163; R85, R93, R100 to R102). -/
theorem State.takeLevels_fde (withdraw drained : Bool) (s : State) :
    (withdraw = true → s.fde.role ≠ .withdrawn →
        (s.takeLevels withdraw drained).fde = s.fde.enter .withdraw .withdrawn drained)
      ∧ (withdraw = true → s.fde.role = .withdrawn →
        (s.takeLevels withdraw drained).fde = { s.fde with drained := drained })
      ∧ (withdraw = false → s.fde.role = .withdrawn →
        (s.takeLevels withdraw drained).fde = s.fde.enter .restore (restoredRole s.cfm.frost) false)
      ∧ (withdraw = false → s.fde.role ≠ .withdrawn → (s.takeLevels withdraw drained).fde = s.fde) := by
  refine ⟨?_, ?_, ?_, ?_⟩ <;> rintro rfl role
  · rw [State.takeLevels_of_withdraw role, State.changeRole_fde]
  · by_cases level : s.fde.drained = drained
    · rw [State.takeLevels_of_level role level, ← level]
    · rw [State.takeLevels_of_drain role level]
      simp [State.reportDrained, State.putDrained]
  · rw [State.takeLevels_of_restore role, State.changeRole_fde]
  · rw [State.takeLevels_of_free role]

/-! ### A report on its way to the monitor -/

/-- `t` is `s` after a change of role or drained attribute that the valve and the fans have taken, and the monitor
not yet. -/
structure State.Informed (s t : State) : Prop where
  cfm : t.cfm = s.cfm
  aou : t.aou = s.aou
  role : t.vdr.role = t.fde.role
  drained : t.vdr.drained = t.fde.drained
  received : t.vdr.allotmentReceived = s.vdr.allotmentReceived
  fcc : t.fcc = if t.fde.role ≠ s.fde.role then s.fcc.roleReport t.fde.role else s.fcc
  left : RoleTimersLeft s t
  timer : ∀ a, a ∉ [TimerId.warm, .rot, .shed] → t.timer a
    = if a = .exer ∧ s.fde.role ≠ .resting ∧ t.fde.role = .resting
      then (s.timer .exer).start false (s.timerParams .exer) else s.timer a
  command : s.vdr.frost = s.cfm.frost → s.vdr.allotmentReceived = true → CommandAtReport s t
  early : s.vdr.allotmentReceived = false → t.vdr.command = s.vdr.command

theorem State.informed_enterAndTell {s : State} {new : Role} (moves : new ≠ s.fde.role) (warming : new ≠ .warming)
    (carrying : new ≠ .carrying) (shedding : new ≠ .shedding) (cause : RoleCause) (drained : Bool) :
    s.Informed (s.enterAndTell cause new drained) := by
  obtain ⟨fde, cfm, aou, -, fcc, vdr⟩ := State.enterAndTell_blocks cause new drained s
  obtain ⟨role', drained', -, -, received', -⟩ := Vdr.roleReport_eq s.params new (drained && new == .withdrawn) s.vdr
  have role : (s.enterAndTell cause new drained).fde.role = new := by rw [fde]; rfl
  refine ⟨cfm, aou, ?_, ?_, ?_, ?_, ?_, fun a ha => ?_, fun frost received => ?_, fun early => ?_⟩
  · rw [vdr, role]; exact role'
  · rw [vdr, fde]; exact drained'
  · rw [vdr]; exact received'
  · rw [fcc, role, if_pos moves]
  · unfold RoleTimersLeft
    rw [role]
    simp [State.timer_enterAndTell, State.timer_enterRole_left warming carrying, warming, carrying, Timer.stop]
  · have free : a ≠ .warm ∧ a ≠ .rot ∧ a ≠ .shed := by simpa using ha
    rw [State.timer_enterAndTell, State.timer_enterRole free, role]
    refine if_congr ⟨fun ⟨rests, exer⟩ => ⟨exer, fun old => moves (rests.trans old.symm), rests⟩,
      fun ⟨exer, _, rests⟩ => ⟨rests, exer⟩⟩ rfl rfl
  · exact State.enterAndTell_command received frost shedding cause drained
  · rw [vdr]
    exact (Vdr.command_of_unreceived early s.params).1 new (drained && new == .withdrawn)

theorem State.informed_putDrained {s : State} (role : s.fde.role = .withdrawn) (drained : Bool) :
    s.Informed (s.putDrained drained).vdrReport := by
  obtain ⟨role', drained', frost', -, received', -⟩ := Vdr.roleReport_eq s.params s.fde.role drained s.vdr
  have kept : (s.putDrained drained).vdrReport.fde.role = s.fde.role := rfl
  refine ⟨rfl, rfl, role', drained', received', ?_, ?_, fun a _ => ?_, fun frost received => ?_, fun early => ?_⟩
  · rw [if_neg (not_not.2 kept)]; rfl
  · exact (RoleTimersLeft.refl s).congr rfl kept (fun _ _ => rfl) fun _ _ => rfl
  · have awake : ¬ (a = .exer ∧ s.fde.role ≠ .resting ∧ (s.putDrained drained).vdrReport.fde.role = .resting) :=
      fun ⟨_, _, rests⟩ => absurd ((kept.trans role).symm.trans rests) (by decide)
    rw [if_neg awake]; rfl
  · exact (commandAtReport_iff role' drained' (frost'.trans frost)).2
      (Vdr.roleReport_settlesAt (r := s.fde.role) received (fun h => absurd (role.symm.trans h) (by decide)) drained)
  · exact (Vdr.command_of_unreceived early s.params).1 s.fde.role drained

/-- The role machine's report of role and drained attribute is of a change. -/
abbrev State.Reported (s t : State) : Prop := t.fde.role ≠ s.fde.role ∨ t.fde.drained ≠ s.fde.drained

/-- The levels of an order change nothing, or change role or drained attribute with a report to the valve, the fans and
last to the monitor (R86, R100 to R102). -/
theorem State.takeLevels_cases (withdraw drained : Bool) (s : State) : s.takeLevels withdraw drained = s
    ∨ ∃ t, s.Informed t ∧ s.Reported t ∧ s.takeLevels withdraw drained = t.cfmReport := by
  have entered : ∀ {new cause d}, new ≠ s.fde.role → s.Reported (s.enterAndTell cause new d) := fun moves => by
    refine .inl ?_
    rw [(State.enterAndTell_blocks _ _ _ s).1]
    exact moves
  by_cases role : s.fde.role = .withdrawn <;> cases withdraw
  · have apart : restoredRole s.cfm.frost ≠ s.fde.role ∧ restoredRole s.cfm.frost ≠ .warming
        ∧ restoredRole s.cfm.frost ≠ .carrying ∧ restoredRole s.cfm.frost ≠ .shedding := by
      rw [role]; unfold restoredRole; split <;> decide
    obtain ⟨moves, warming, carrying, shedding⟩ := apart
    exact .inr ⟨_, State.informed_enterAndTell moves warming carrying shedding .restore false, entered moves,
      State.takeLevels_of_restore role drained⟩
  · by_cases level : s.fde.drained = drained
    · exact .inl (State.takeLevels_of_level role level)
    · exact .inr ⟨_, State.informed_putDrained role drained, .inr (Ne.symm level), State.takeLevels_of_drain role level⟩
  · exact .inl (State.takeLevels_of_free role drained)
  · exact .inr ⟨_, State.informed_enterAndTell (Ne.symm role) (by decide) (by decide) (by decide) .withdraw drained,
      entered (Ne.symm role), State.takeLevels_of_withdraw role drained⟩

/-! ### The levels in the monitor (R116, R117) -/

/-- A suspension clears FROST_GUARD and FROST_TRIP (R116). -/
theorem State.suspend_alerts (s : State) {c : Category} (own : c = .frostGuard ∨ c = .frostTrip) :
    hasAlert s.suspend.aou.live c = false := by
  have live : s.suspend.aou.live = s.suspendCfm.stopFrostTimers.frostAlerts.aou.live := rfl
  rw [live, State.frostAlerts, State.reportLive_live]
  rcases own with rfl | rfl <;> simp [State.suspendCfm, Cfm.suspend, State.stopFrostTimers]

/-- The levels bring a cell with an active monitor into a drained withdrawal (R116). -/
abbrev State.Suspends (s t : State) : Prop := s.Reported t ∧ t.fde.Drained ∧ s.cfm.suspended = false

theorem State.not_reported_self (s : State) : ¬ s.Reported s := fun h => h.elim (· rfl) (· rfl)

/-- The report that leads into a drained withdrawal suspends an active monitor (R116). -/
theorem State.takeLevels_suspends {withdraw drained : Bool} {s : State}
    (suspends : s.Suspends (s.takeLevels withdraw drained)) :
    (s.takeLevels withdraw drained).cfm = s.cfm.suspend
      ∧ (∀ c, c = .frostGuard ∨ c = .frostTrip → hasAlert (s.takeLevels withdraw drained).aou.live c = false)
      ∧ ∀ a ∈ frostTimers, (s.takeLevels withdraw drained).timer a = (s.timer a).stop := by
  obtain ⟨reported, withdrawal, active⟩ := suspends
  rcases State.takeLevels_cases withdraw drained s with still | ⟨t, informed, -, taken⟩
  · rw [still] at reported
    exact absurd reported s.not_reported_self
  · have fde : t.cfmReport.fde = t.fde := by simp
    rw [taken, fde] at withdrawal
    have active' : t.cfm.suspended = false := by rwa [informed.cfm]
    rw [taken]
    refine ⟨?_, fun c own => ?_, fun a own => ?_⟩
    · rw [State.cfmReport_of_drained withdrawal active', State.suspend_cfm, informed.cfm]
    · rw [State.cfmReport_of_drained withdrawal active', State.suspend_alerts t own]
    · have free : a ∉ [TimerId.warm, .rot, .shed] := by cases a <;> simp_all
      have exer : a ≠ .exer := by rintro rfl; simp at own
      rw [State.timer_cfmReport, if_pos ⟨⟨withdrawal, active'⟩, own⟩, informed.timer a free, if_neg fun h => exer h.1]

/-- The other reports at most end a suspension (R117). -/
theorem State.takeLevels_awake {withdraw drained : Bool} {s : State}
    (awake : ¬ s.Suspends (s.takeLevels withdraw drained)) :
    (s.Reported (s.takeLevels withdraw drained) → ¬ (s.takeLevels withdraw drained).fde.Drained →
        (s.takeLevels withdraw drained).cfm = { s.cfm with suspended := false })
      ∧ (¬ s.Reported (s.takeLevels withdraw drained)
          ∨ ((s.takeLevels withdraw drained).fde.Drained ∧ s.cfm.suspended = true) →
        (s.takeLevels withdraw drained).cfm = s.cfm)
      ∧ (s.takeLevels withdraw drained).aou = s.aou
      ∧ ∀ a ∈ frostTimers, (s.takeLevels withdraw drained).timer a = s.timer a := by
  rcases State.takeLevels_cases withdraw drained s with still | ⟨t, informed, reported, taken⟩
  · rw [still]
    exact ⟨fun h => absurd h s.not_reported_self, fun _ => rfl, rfl, fun _ _ => rfl⟩
  · have fde : t.cfmReport.fde = t.fde := by simp
    rw [taken] at awake ⊢
    have reported' : s.Reported t.cfmReport := by rwa [State.Reported, fde]
    have timers : ∀ a ∈ frostTimers, t.cfmReport.timer a = s.timer a := fun a own => by
      have free : a ∉ [TimerId.warm, .rot, .shed] := by cases a <;> simp_all
      have exer : a ≠ .exer := by rintro rfl; simp at own
      rw [State.timer_cfmReport, if_neg fun h => ?_, informed.timer a free, if_neg fun h => exer h.1]
      exact awake ⟨reported', by rw [fde]; exact h.1.1, by rw [← informed.cfm]; exact h.1.2⟩
    by_cases withdrawal : t.fde.Drained
    · have suspended : t.cfm.suspended = true := by
        rw [informed.cfm]
        by_contra active
        exact awake ⟨reported', by rwa [fde], by simpa using active⟩
      have same := State.cfmReport_of_suspended withdrawal suspended
      refine ⟨fun _ apart => absurd withdrawal (by rwa [fde] at apart), fun _ => ?_, ?_, timers⟩
      · rw [same, informed.cfm]
      · rw [same, informed.aou]
    · refine ⟨fun _ _ => ?_, fun h => ?_, ?_, timers⟩
      · rw [State.cfmReport_of_apart withdrawal, State.resume_cfm, informed.cfm]
      · rw [fde] at h
        exact absurd h (by simp [reported', withdrawal])
      · rw [State.cfmReport_of_apart withdrawal, ← informed.aou]
        rfl

/-! ### The levels in the timers, the fans and the valve (R93, R133, R136, R142, R143) -/

theorem State.takeLevels_timers (withdraw drained : Bool) (s : State) :
    RoleTimersLeft s (s.takeLevels withdraw drained)
      ∧ (s.takeLevels withdraw drained).timer .ice = s.timer .ice
      ∧ (s.takeLevels withdraw drained).timer .exer
        = if s.fde.role ≠ .resting ∧ (s.takeLevels withdraw drained).fde.role = .resting
          then (s.timer .exer).start false (s.timerParams .exer) else s.timer .exer := by
  rcases State.takeLevels_cases withdraw drained s with still | ⟨t, informed, -, taken⟩
  · rw [still]
    exact ⟨.refl s, rfl, (if_neg fun h => h.1 h.2).symm⟩
  · have fde : t.cfmReport.fde = t.fde := by simp
    have kept : ∀ a, a ∉ frostTimers → t.cfmReport.timer a = t.timer a := fun a other => by
      rw [State.timer_cfmReport, if_neg fun h => other h.2]
    rw [taken, fde, kept .ice (by decide), kept .exer (by decide), informed.timer .ice (by decide),
      informed.timer .exer (by decide)]
    refine ⟨informed.left.congr rfl (by rw [fde]) (fun _ _ => rfl)
      fun a own => kept a (by cases a <;> simp_all), ?_, ?_⟩
    · exact if_neg (by simp)
    · simp

theorem State.takeLevels_fcc (withdraw drained : Bool) (s : State) : (s.takeLevels withdraw drained).fcc
    = if (s.takeLevels withdraw drained).fde.role ≠ s.fde.role
      then s.fcc.roleReport (s.takeLevels withdraw drained).fde.role else s.fcc := by
  rcases State.takeLevels_cases withdraw drained s with still | ⟨t, informed, -, taken⟩
  · rw [still, if_neg (by simp)]
  · have fde : t.cfmReport.fde = t.fde := by simp
    have fcc : t.cfmReport.fcc = t.fcc := by simp
    rw [taken, fde, fcc, informed.fcc]

/-- The valve takes a reported change of the levels at once (R101, R102, R142, R143). -/
theorem State.takeLevels_command {withdraw drained : Bool} {s : State}
    (reported : s.Reported (s.takeLevels withdraw drained)) (frost : s.vdr.frost = s.cfm.frost)
    (received : s.vdr.allotmentReceived = true) : CommandAtReport s (s.takeLevels withdraw drained) := by
  rcases State.takeLevels_cases withdraw drained s with still | ⟨t, informed, -, taken⟩
  · rw [still] at reported
    exact absurd reported s.not_reported_self
  · rw [taken]
    exact State.cfmReport_command (informed.command frost received) (informed.received.trans received) informed.role
      informed.drained

theorem State.takeLevels_command_kept {withdraw drained : Bool} {s : State}
    (kept : ¬ s.Reported (s.takeLevels withdraw drained) ∨ s.vdr.allotmentReceived = false) :
    (s.takeLevels withdraw drained).vdr.command = s.vdr.command := by
  rcases State.takeLevels_cases withdraw drained s with still | ⟨t, informed, reported, taken⟩
  · rw [still]
  · have fde : t.cfmReport.fde = t.fde := by simp
    have reported' : s.Reported t.cfmReport := by rwa [State.Reported, fde]
    rw [taken] at kept ⊢
    have early : s.vdr.allotmentReceived = false := kept.resolve_left fun h => h reported'
    rw [State.cfmReport_command_unreceived (informed.received.trans early), informed.early early]

end Sys2Proof.Machine
end

section
/-! PROOFS. An order taken: its levels, then its edges (R100 to R102, R116, R117, R133, R134, R139,
R160 to R164, R168). -/

namespace Sys2Proof.Machine

/-! ### The parts of an order taken (R161) -/

/-- The steps of R161 ahead of the role machine's part: T_ORD, the settings, and the levels held. -/
def State.beforeLevels (o : Order) (s : State) : State := (s.noteOrder.takeSettings o).holdLevels o

/-- The state once the role machine has taken the own levels (R161, R163). -/
def State.afterLevels (o : Order) (s : State) : State :=
  (s.beforeLevels o).takeLevels (s.ownBit o.withdraw) (s.ownBit o.drained)

theorem State.takeOrder_eq_edges (o : Order) (s : State) :
    s.takeOrder o = ((s.afterLevels o).takeEdges o).takeMasks o := rfl

theorem State.timer_beforeLevels {a : TimerId} (ha : a ≠ .ord) (o : Order) (s : State) :
    (s.beforeLevels o).timer a = s.timer a := (State.timer_startTimer a .ord s).trans (if_neg ha)

theorem State.beforeLevels_alert {c : Category} (hc : c ≠ .panelSilent) (o : Order) (s : State) :
    hasAlert (s.beforeLevels o).aou.live c = hasAlert s.aou.live c := by
  have live : (s.beforeLevels o).aou.live = putAlert s.aou.live .panelSilent false := State.reportLive_live _ _
  rw [live, hasAlert_putAlert, if_neg hc]

/-- The edges and the masks of an order leave what the levels made of these blocks. -/
theorem State.takeOrder_kept (o : Order) (s : State) : (s.takeOrder o).fde = (s.afterLevels o).fde
    ∧ (s.takeOrder o).cfm = (s.afterLevels o).cfm ∧ (s.takeOrder o).vdr = (s.afterLevels o).vdr
    ∧ (s.takeOrder o).params = (s.afterLevels o).params ∧ ∀ a, (s.takeOrder o).timer a = (s.afterLevels o).timer a := by
  rw [State.takeOrder_eq_edges]
  exact ⟨by simp, by simp, by simp, by simp, fun a => State.timer_congr (by simp) a⟩

/-- An own edge is found as the levels leave it (R164). -/
theorem State.edge_afterLevels (o : Order) (s : State) (mask : StationMask) (previous : OrderDecoder → StationMask) :
    (s.afterLevels o).edge mask (previous (s.afterLevels o).ord) = s.edge mask (previous (s.beforeLevels o).ord) := by
  have ord : (s.afterLevels o).ord = (s.beforeLevels o).ord := by simp [State.afterLevels]
  have straps : (s.afterLevels o).straps = s.straps := by simp [State.afterLevels, State.beforeLevels]
  rw [ord]
  unfold State.edge State.ownBit
  rw [straps]

theorem State.resetEdge_afterLevels (o : Order) (s : State) :
    (s.afterLevels o).edge o.fanReset (s.afterLevels o).ord.prevFanReset = s.edge o.fanReset s.ord.prevFanReset :=
  State.edge_afterLevels o s o.fanReset OrderDecoder.prevFanReset

theorem State.exerciseEdge_afterLevels (o : Order) (s : State) :
    (s.afterLevels o).edge o.exercise (s.afterLevels o).ord.prevExercise = s.edge o.exercise s.ord.prevExercise :=
  State.edge_afterLevels o s o.exercise OrderDecoder.prevExercise

/-! ### The fans, channel by channel (R133, R134, R139, R164) -/

theorem State.takeOrder_fcc (o : Order) (s : State) : (s.takeOrder o).fcc
    = if s.edge o.exercise s.ord.prevExercise = true ∧ (s.takeOrder o).fde.role = .resting
      then ((s.afterLevels o).takeFanReset o).fcc.exercise (s.takeOrder o).cfm.frost
      else ((s.afterLevels o).takeFanReset o).fcc := by
  obtain ⟨fde, cfm, -⟩ := State.takeOrder_kept o s
  have masks : (s.takeOrder o).fcc = ((s.afterLevels o).takeEdges o).fcc := by
    rw [State.takeOrder_eq_edges, State.takeMasks_fcc]
  rw [masks, State.takeEdges_fcc, State.exerciseEdge_afterLevels, fde, cfm]

theorem State.resetFans_afterLevels (o : Order) (s : State) : ((s.afterLevels o).takeFanReset o).fcc
    = if s.edge o.fanReset s.ord.prevFanReset = true then (s.afterLevels o).fcc.fanReset
      else (s.afterLevels o).fcc := by
  rw [State.takeFanReset_fcc, State.resetEdge_afterLevels]

theorem State.afterLevels_fcc (o : Order) (s : State) : (s.afterLevels o).fcc
    = if (s.takeOrder o).fde.role ≠ s.fde.role then s.fcc.roleReport (s.takeOrder o).fde.role else s.fcc := by
  have fcc : (s.beforeLevels o).fcc = s.fcc := by simp [State.beforeLevels]
  have fde : (s.beforeLevels o).fde = s.fde := by simp [State.beforeLevels]
  rw [(State.takeOrder_kept o s).1, ← fcc, ← fde]
  exact State.takeLevels_fcc (s.ownBit o.withdraw) (s.ownBit o.drained) (s.beforeLevels o)

/-- No pass of an order moves a pair bit or the tach count (R119, R140). -/
theorem State.takeOrder_sameRest (o : Order) (s : State) : s.fcc.SameRest (s.takeOrder o).fcc := by
  have levels : s.fcc.SameRest (s.afterLevels o).fcc := by
    rw [State.afterLevels_fcc]
    split
    · exact Fcc.sameRest_roleReport _ _
    · exact .refl _
  have reset : s.fcc.SameRest ((s.afterLevels o).takeFanReset o).fcc := by
    rw [State.resetFans_afterLevels]
    split
    · exact levels.trans (Fcc.sameRest_fanReset _)
    · exact levels
  rw [State.takeOrder_fcc]
  split
  · exact reset.trans (Fcc.sameRest_exercise _ _)
  · exact reset

/-- A withdrawal leaves no channel in hand (R133). -/
theorem State.takeOrder_withdrawn_inHand {o : Order} {s : State} (withdrawn : (s.takeOrder o).fde.role = .withdrawn)
    (moves : s.fde.role ≠ .withdrawn) (i : Fin 6) : ((s.takeOrder o).fcc.channel i).inHand = false := by
  have levels : ((s.afterLevels o).fcc.channel i).inHand = false := by
    rw [State.afterLevels_fcc, if_pos (by rw [withdrawn]; exact moves.symm), withdrawn, Fcc.channel_roleReport]
    split
    · rfl
    · next free => simpa using free
  have awake : ¬ (s.edge o.exercise s.ord.prevExercise = true ∧ (s.takeOrder o).fde.role = .resting) := by
    simp [withdrawn]
  rw [State.takeOrder_fcc, if_neg awake, State.resetFans_afterLevels]
  split
  · exact Bool.eq_false_iff.2 fun h => Bool.eq_false_iff.1 levels (Fcc.idles_fanReset _ i h)
  · exact levels

/-- A fan-reset edge thaws every channel and clears FAN_ICE (R138, R139). -/
theorem State.takeOrder_thaws {o : Order} {s : State} (found : s.edge o.fanReset s.ord.prevFanReset = true) :
    (∀ i, ((s.takeOrder o).fcc.channel i).state ≠ .iced) ∧ hasAlert (s.takeOrder o).aou.live .fanIce = false := by
  obtain ⟨thawed, clear⟩ := State.fanReset_thaws (s.afterLevels o)
  have reset : (s.afterLevels o).takeFanReset o = (s.afterLevels o).fanReset :=
    if_pos ((State.resetEdge_afterLevels o s).trans found)
  have live : (s.takeOrder o).aou.live = ((s.afterLevels o).takeFanReset o).aou.live :=
    (State.takeEdges_live o (s.afterLevels o)).1
  refine ⟨fun i => ?_, by rw [live, reset, clear]⟩
  rw [State.takeOrder_fcc, State.resetFans_afterLevels, if_pos found]
  split
  · exact fun iced => thawed i ((Fcc.sameIced_exercise _ _ i).1 iced)
  · exact thawed i

/-- A clear-alerts edge leaves no flag without its condition (R164, R168). -/
theorem State.takeOrder_clears {o : Order} {s : State} (found : s.edge o.clearAlerts s.ord.prevClear = true)
    {c : Category} (dead : hasAlert (s.takeOrder o).aou.live c = false) :
    hasAlert (s.takeOrder o).aou.latched c = false := by
  have edge : (((s.afterLevels o).takeFanReset o).takeExercise o).edge o.clearAlerts
      (((s.afterLevels o).takeFanReset o).takeExercise o).ord.prevClear = true := by
    refine Eq.trans ?_ ((State.edge_afterLevels o s o.clearAlerts OrderDecoder.prevClear).trans found)
    simp [State.edge, State.ownBit]
  exact State.takeClear_latched edge dead

/-! ### The monitor's alerts and the frame (R4, R35, R161) -/

theorem State.takeOrder_frostAlert {c : Category} (own : c = .frostGuard ∨ c = .frostTrip) (o : Order) (s : State) :
    hasAlert (s.takeOrder o).aou.live c = hasAlert (s.afterLevels o).aou.live c :=
  (State.takeEdges_live o (s.afterLevels o)).2 c (by rcases own with rfl | rfl <;> decide)

/-! ### The levels as the whole order leaves them (R163) -/

theorem State.beforeLevels_kept (o : Order) (s : State) : (s.beforeLevels o).fde = s.fde
    ∧ (s.beforeLevels o).cfm = s.cfm ∧ (s.beforeLevels o).vdr = s.vdr ∧ (s.beforeLevels o).params = s.params := by
  simp [State.beforeLevels]

theorem State.takeOrder_fde (o : Order) (s : State) :
    (s.ownBit o.withdraw = true → s.fde.role ≠ .withdrawn →
        (s.takeOrder o).fde = s.fde.enter .withdraw .withdrawn (s.ownBit o.drained))
      ∧ (s.ownBit o.withdraw = true → s.fde.role = .withdrawn →
        (s.takeOrder o).fde = { s.fde with drained := s.ownBit o.drained })
      ∧ (s.ownBit o.withdraw = false → s.fde.role = .withdrawn →
        (s.takeOrder o).fde = s.fde.enter .restore (restoredRole s.cfm.frost) false)
      ∧ (s.ownBit o.withdraw = false → s.fde.role ≠ .withdrawn → (s.takeOrder o).fde = s.fde) := by
  obtain ⟨fde, cfm, -⟩ := State.beforeLevels_kept o s
  rw [(State.takeOrder_kept o s).1, ← fde, ← cfm]
  exact State.takeLevels_fde (s.ownBit o.withdraw) (s.ownBit o.drained) (s.beforeLevels o)

theorem State.reported_afterLevels (o : Order) (s : State) :
    (s.beforeLevels o).Reported (s.afterLevels o) ↔ s.Reported (s.takeOrder o) := by
  rw [State.Reported, State.Reported, (State.takeOrder_kept o s).1, (State.beforeLevels_kept o s).1]

theorem State.suspends_afterLevels (o : Order) (s : State) :
    (s.beforeLevels o).Suspends (s.afterLevels o) ↔ s.Suspends (s.takeOrder o) := by
  rw [State.Suspends, State.Suspends, State.reported_afterLevels, (State.takeOrder_kept o s).1,
    (State.beforeLevels_kept o s).2.1]

/-- An order that reports a drained withdrawal to an active monitor suspends it (R116). -/
theorem State.takeOrder_suspends {o : Order} {s : State} (suspends : s.Suspends (s.takeOrder o)) :
    (s.takeOrder o).cfm = s.cfm.suspend
      ∧ (∀ c, c = .frostGuard ∨ c = .frostTrip → hasAlert (s.takeOrder o).aou.live c = false)
      ∧ ∀ a ∈ frostTimers, (s.takeOrder o).timer a = (s.timer a).stop := by
  obtain ⟨-, cfm, -, -, timer⟩ := State.takeOrder_kept o s
  obtain ⟨record, alerts, timers⟩ := State.takeLevels_suspends ((State.suspends_afterLevels o s).2 suspends)
  refine ⟨?_, fun c own => ?_, fun a own => ?_⟩
  · rw [cfm, ← (State.beforeLevels_kept o s).2.1]
    exact record
  · rw [State.takeOrder_frostAlert own]
    exact alerts c own
  · rw [timer, ← State.timer_beforeLevels (by rintro rfl; simp at own) o s]
    exact timers a own

/-- Any other order leaves the monitor, or ends its suspension (R117). -/
theorem State.takeOrder_awake {o : Order} {s : State} (awake : ¬ s.Suspends (s.takeOrder o)) :
    (s.Reported (s.takeOrder o) → ¬ (s.takeOrder o).fde.Drained →
        (s.takeOrder o).cfm = { s.cfm with suspended := false })
      ∧ (¬ s.Reported (s.takeOrder o) ∨ ((s.takeOrder o).fde.Drained ∧ s.cfm.suspended = true) →
        (s.takeOrder o).cfm = s.cfm)
      ∧ (∀ c, c = .frostGuard ∨ c = .frostTrip →
        hasAlert (s.takeOrder o).aou.live c = hasAlert s.aou.live c)
      ∧ ∀ a ∈ frostTimers, (s.takeOrder o).timer a = s.timer a := by
  obtain ⟨fde, cfm, -, -, timer⟩ := State.takeOrder_kept o s
  obtain ⟨resumes, stays, aou, timers⟩ := State.takeLevels_awake (mt (State.suspends_afterLevels o s).1 awake)
  have same := State.reported_afterLevels o s
  refine ⟨fun reported apart => ?_, fun kept => ?_, fun c own => ?_, fun a own => ?_⟩
  · rw [cfm, ← (State.beforeLevels_kept o s).2.1]
    exact resumes (same.2 reported) (by rwa [fde] at apart)
  · rw [cfm, ← (State.beforeLevels_kept o s).2.1]
    rw [fde, ← (State.beforeLevels_kept o s).2.1, ← same] at kept
    exact stays kept
  · rw [State.takeOrder_frostAlert own,
      ← State.beforeLevels_alert (by rcases own with rfl | rfl <;> decide) o s]
    exact congrArg (fun a => hasAlert a.live c) aou
  · rw [timer, ← State.timer_beforeLevels (by rintro rfl; simp at own) o s]
    exact timers a own

/-- A single-pass start loads a timer that does not run (R154). -/
theorem Timer.start_single (tp : TimerParams) (t : Timer) :
    t.start false tp = if t.running = false then t.load tp else t := by
  unfold Timer.start
  cases t.running <;> simp

theorem State.takeOrder_timers (o : Order) (s : State) :
    RoleTimersLeft s (s.takeOrder o) ∧ (s.takeOrder o).timer .ice = s.timer .ice
      ∧ (s.takeOrder o).timer .exer
        = if s.fde.role ≠ .resting ∧ (s.takeOrder o).fde.role = .resting ∧ (s.timer .exer).running = false
          then (s.timer .exer).load (s.timerParams .exer) else s.timer .exer := by
  obtain ⟨fde, -, -, params, timer⟩ := State.takeOrder_kept o s
  obtain ⟨fde', -, -, params'⟩ := State.beforeLevels_kept o s
  have before : ∀ a, a ≠ .ord → (s.beforeLevels o).timer a = s.timer a := fun a ha => State.timer_beforeLevels ha o s
  obtain ⟨left, ice, exer⟩ := State.takeLevels_timers (s.ownBit o.withdraw) (s.ownBit o.drained) (s.beforeLevels o)
  refine ⟨left.congr (by rw [fde']) (by rw [fde]; rfl) (fun a own => (before a (by rintro rfl; simp at own)).symm)
    fun a _ => timer a, ?_, ?_⟩
  · rw [timer, ← before .ice (by decide)]
    exact ice
  · rw [timer, fde]
    refine exer.trans ?_
    rw [fde', before .exer (by decide), State.timerParams_congr params', Timer.start_single, ← ite_and]
    exact if_congr (by rw [and_assoc]; rfl) rfl rfl

/-- The valve takes a reported change at once (R101, R102, R142, R143). -/
theorem State.takeOrder_command {o : Order} {s : State} (reported : s.Reported (s.takeOrder o))
    (frost : s.vdr.frost = s.cfm.frost) (received : s.vdr.allotmentReceived = true) :
    CommandAtReport s (s.takeOrder o) := by
  obtain ⟨fde, cfm, vdr, params, -⟩ := State.takeOrder_kept o s
  obtain ⟨-, cfm', vdr', -⟩ := State.beforeLevels_kept o s
  have taken := State.takeLevels_command ((State.reported_afterLevels o s).2 reported)
    (by rwa [vdr', cfm']) (by rwa [vdr'])
  exact taken.congr (by rw [vdr']) params cfm fde (by rw [vdr]; rfl)

theorem State.takeOrder_command_kept {o : Order} {s : State}
    (kept : ¬ s.Reported (s.takeOrder o) ∨ s.vdr.allotmentReceived = false) :
    (s.takeOrder o).vdr.command = s.vdr.command := by
  obtain ⟨-, -, vdr, -⟩ := State.takeOrder_kept o s
  obtain ⟨-, -, vdr', -⟩ := State.beforeLevels_kept o s
  rw [← State.reported_afterLevels, ← vdr'] at kept
  rw [vdr, ← vdr']
  exact State.takeLevels_command_kept kept

/-! ### The obligation -/

/-- An accepted order frame outside UNADDRESSED is stored and taken (R13, R35, R161). -/
theorem exec_orderFrame {e p : Nat} {chars : List RxChar} {r : RxFrame} {cs : List Byte} {s : State}
    (rx : (s.advance e).lsc.rx = some r) (start : r.start = some p) (low : 1000 ≤ p) (high : p ≤ 5000)
    (judged : judgeFrame chars = some (.order cs)) (bus : (s.advance e).lsc.bus ≠ .unaddressed) :
    exec (.frameCompletion e chars) s = .next (((s.advance e).endFrame.storeOrder cs).takeOrder (orderOf cs)) := by
  have inside : inWindow 0 p = true := (inWindow_iff 0 p).2 ⟨by omega, by omega⟩
  have kept : (s.advance e).endFrame.lsc.bus = (s.advance e).lsc.bus := rfl
  have takes : (s.advance e).endFrame.lsc.bus.takesOrders = true := by
    rw [kept]
    cases hb : (s.advance e).lsc.bus <;> simp_all [BusState.takesOrders, BusState.raisesCycleEnd]
  have taken : (s.advance e).endFrame.acceptOrder cs
      = ((s.advance e).endFrame.storeOrder cs).takeOrder (orderOf cs) := if_pos takes
  rw [exec_frameCompletion rx, ← taken]
  simp only [State.completeFrame, judged, State.validFrame, State.windowed, start, inside, if_true]

/-- Settles O16: the frame is taken as `State.takeOrder`, whose levels are one report at most and whose edges are passes
over the channels and a clear. -/
theorem orderLevelsMoveTheRole : Obligations.OrderLevelsMoveTheRole := by
  refine ⟨orderOf_readFrom, fun e chars r p cs s => ?_⟩
  intro u o own rx start low high judged bus
  refine ⟨_, exec_orderFrame rx start low high judged bus, ?_⟩
  generalize hv : u.endFrame.storeOrder cs = v
  have fde : v.fde = u.fde := by subst hv; rfl
  have cfm : v.cfm = u.cfm := by subst hv; rfl
  have fcc : v.fcc = u.fcc := by subst hv; rfl
  have vdr : v.vdr = u.vdr := by subst hv; rfl
  have aou : v.aou = u.aou := by subst hv; rfl
  have ord : v.ord = u.ord := by subst hv; rfl
  have bits : ∀ m, v.ownBit m = own m := fun m => by subst hv; rfl
  have timer : ∀ a, v.timer a = u.timer a := fun a => by subst hv; rfl
  have timerParams : ∀ a, v.timerParams a = u.timerParams a := fun a => by subst hv; rfl
  clear_value u own
  have edge : ∀ mask previous, v.edge mask previous = true ↔ own mask = true ∧ own previous = false :=
    fun mask previous => by rw [State.edge_iff, bits, bits]
  refine ⟨?_, ?_, fun set clear => ?_, ?_, ?_, ?_, fun set clear c dead => ?_⟩
  · intro entered
    obtain ⟨withdraws, drains, restores, stays⟩ := State.takeOrder_fde o v
    simp only [bits, fde, cfm] at withdraws drains restores stays
    refine ⟨fun set role => ⟨?_, fun i => ?_⟩, drains, fun clear role => ?_, stays⟩
    · rw [withdraws set role]
      simp [entered, Fde.enter, set]
    · exact State.takeOrder_withdrawn_inHand (by rw [withdraws set role]; rfl) (by rwa [fde]) i
    · rw [restores clear role]
      simp [entered, Fde.enter, clear, restoredRole]
  · intro reported drained suspends
    have same : v.Reported (v.takeOrder o) ↔ reported := by rw [State.Reported, fde]
    have both : v.Suspends (v.takeOrder o) ↔ suspends := by rw [State.Suspends, same, cfm]
    obtain ⟨left, ice, exer⟩ := State.takeOrder_timers o v
    have timers : RoleTimersLeft u (v.takeOrder o) :=
      left.congr (by rw [fde]) rfl (fun a _ => (timer a).symm) fun _ _ => rfl
    rw [fde, timer, timerParams] at exer
    rw [timer] at ice
    by_cases h : suspends
    · obtain ⟨record, alerts, stops⟩ := State.takeOrder_suspends (both.2 h)
      have ⟨report, withdrawal, active⟩ := h
      refine ⟨fun _ => record.trans (by rw [cfm]; rfl), fun _ apart => absurd withdrawal apart, fun kept => ?_,
        fun c own => (alerts c own).trans (if_pos h).symm, fun id own => ?_, timers, ice, exer⟩
      · simp [report, active] at kept
      · refine (stops id (by rcases own with rfl | rfl | rfl | rfl <;> decide)).trans ?_
        rw [timer]
        exact (if_pos h).symm
    · obtain ⟨resumes, stays, alerts, kept⟩ := State.takeOrder_awake (mt both.1 h)
      rw [same, cfm] at resumes stays
      refine ⟨fun hs => absurd hs h, resumes, stays, fun c own => ?_, fun id own => ?_, timers, ice, exer⟩
      · refine (alerts c own).trans ?_
        rw [aou]
        exact (if_neg h).symm
      · refine (kept id (by rcases own with rfl | rfl | rfl | rfl <;> decide)).trans ?_
        rw [timer]
        exact (if_neg h).symm
  · exact State.takeOrder_thaws ((edge _ _).2 ⟨set, by rwa [ord]⟩)
  · intro changed stands forced afterRole reset afterReset exercised afterExercise i
    have levels : (v.afterLevels o).fcc.channel i = afterRole (u.fcc.channel i) := by
      rw [State.afterLevels_fcc, fde, fcc]
      by_cases moves : changed
      · rw [if_pos moves, Fcc.channel_roleReport]
        exact if_congr ⟨fun spared => ⟨moves, spared⟩, fun spared => spared.2⟩ rfl rfl
      · rw [if_neg moves]
        exact (if_neg fun h => moves h.1).symm
    have thawed : ((v.afterLevels o).takeFanReset o).fcc.channel i = afterReset (afterRole (u.fcc.channel i)) := by
      rw [State.resetFans_afterLevels, ← levels]
      by_cases h : v.edge o.fanReset v.ord.prevFanReset = true
      · have set := (edge _ _).1 h
        rw [ord] at set
        rw [if_pos h, Fcc.channel_fanReset]
        exact if_congr ⟨fun state => ⟨set.1, set.2, state⟩, fun hr => hr.2.2⟩ rfl rfl
      · rw [if_neg h]
        rw [edge, ord] at h
        exact (if_neg fun hr => h ⟨hr.1, hr.2.1⟩).symm
    rw [State.takeOrder_fcc, ← thawed]
    by_cases h : v.edge o.exercise v.ord.prevExercise = true ∧ (v.takeOrder o).fde.role = .resting
    · have set := h
      rw [edge, ord] at set
      rw [if_pos h, Fcc.channel_exercise]
      exact if_congr ⟨fun off => ⟨set.1.1, set.1.2, set.2, off⟩, fun hr => hr.2.2.2⟩ rfl rfl
    · rw [if_neg h]
      rw [edge, ord] at h
      exact (if_neg fun hr => h ⟨⟨hr.1, hr.2.1⟩, hr.2.2.1⟩).symm
  · obtain ⟨pairs, intervals, due⟩ := State.takeOrder_sameRest o v
    exact ⟨by rw [pairs, fcc], by rw [intervals, fcc], by rw [due, fcc]⟩
  · intro reported
    have same : v.Reported (v.takeOrder o) ↔ reported := by rw [State.Reported, fde]
    refine ⟨fun moves ⟨_, _, frost, _⟩ received => ?_, fun kept => ?_⟩
    · exact (State.takeOrder_command (same.2 moves) (by rw [vdr, cfm, frost]) (by rwa [vdr])).congr
        (by rw [vdr]) rfl rfl rfl rfl
    · rw [State.takeOrder_command_kept (by rwa [same, vdr]), vdr]
  · exact State.takeOrder_clears ((edge _ _).2 ⟨set, by rwa [ord]⟩) dead

end Sys2Proof.Machine
end

section
/-! PROOFS. Staging as bulk changes: which channels an allotment's passes convert, queue and stop, and what that
leaves of the list, the permit and the count of duty channels (R115, R122 to R124, R126, R133). -/

namespace Sys2Proof.Machine

/-! ### Pair order (R126) -/

theorem pairSequence_eq (order : Nat) : pairSequence order
    = ([[0, 1, 2], [0, 2, 1], [1, 0, 2], [1, 2, 0], [2, 0, 1], [2, 1, 0]] : List (List (Fin 3))).getD order
      [2, 1, 0] := by
  rcases order with _ | _ | _ | _ | _ | _ | n <;> simp [pairSequence]

theorem pairSequence_complete (order : Nat) :
    (pairSequence order).Nodup ∧ ∀ p, p ∈ pairSequence order := by
  unfold pairSequence
  repeat' split
  all_goals decide

theorem pairMembers_complete (bits : Vector Bool 3) (p : Fin 3) :
    (pairMembers bits p).Nodup ∧ ∀ i, i ∈ pairMembers bits p ↔ pairOf i = p := by
  unfold pairMembers
  dsimp only
  generalize bits[p] = bit
  revert bit p
  decide

/-- Pair order names each channel once. -/
theorem Fcc.pairOrder_complete (order : Nat) (f : Fcc) :
    (f.pairOrder order).Nodup ∧ ∀ i, i ∈ f.pairOrder order := by
  obtain ⟨nodup, complete⟩ := pairSequence_complete order
  have members := pairMembers_complete f.bits
  refine ⟨List.nodup_flatMap.2 ⟨fun p _ => (members p).1, nodup.imp fun different i first second => ?_⟩, fun i =>
    List.mem_flatMap.2 ⟨pairOf i, complete _, ((members _).2 i).2 rfl⟩⟩
  exact different ((((members _).2 i).1 first).symm.trans (((members _).2 i).1 second))

/-! ### Passes that act on the channels that pass a test -/

section
variable {op act : Fcc → Fin 6 → Fcc} {test : FanChannel → Bool}

/-- A change of one channel leaves the tests of others. -/
theorem Fcc.filter_others (others : ∀ g i j, j ≠ i → (act g i).channel j = g.channel j) {i : Fin 6}
    {l : List (Fin 6)} (fresh : i ∉ l) (f : Fcc) :
    (l.filter fun j => test ((act f i).channel j)) = l.filter fun j => test (f.channel j) :=
  List.filter_congr fun j hj => by rw [others f i j (ne_of_mem_of_not_mem hj fresh)]

/-- A pass that acts on every channel that passes its test. -/
theorem Fcc.foldl_filter (pass : ∀ g i, op g i = if test (g.channel i) = true then act g i else g)
    (others : ∀ g i j, j ≠ i → (act g i).channel j = g.channel j) {l : List (Fin 6)} (nodup : l.Nodup) (f : Fcc) :
    l.foldl op f = (l.filter fun i => test (f.channel i)).foldl act f := by
  induction l generalizing f with
  | nil => rfl
  | cons i l ih =>
    obtain ⟨fresh, rest⟩ := List.nodup_cons.1 nodup
    rw [List.foldl_cons, ih rest, pass]
    by_cases found : test (f.channel i) = true
    · rw [List.filter_cons_of_pos (p := fun j => test (f.channel j)) found, if_pos found,
        Fcc.filter_others others fresh, List.foldl_cons]
    · rw [List.filter_cons_of_neg (p := fun j => test (f.channel j)) found, if_neg found]

/-- A pass that acts on the channels that pass its test for as long as something is left to spend. -/
theorem Fcc.foldl_spend {left : Fcc → Nat}
    (pass : ∀ g i, op g i = if 0 < left g ∧ test (g.channel i) = true then act g i else g)
    (others : ∀ g i j, j ≠ i → (act g i).channel j = g.channel j)
    (spends : ∀ g i, test (g.channel i) = true → left (act g i) = left g - 1)
    {l : List (Fin 6)} (nodup : l.Nodup) (f : Fcc) :
    l.foldl op f = ((l.filter fun i => test (f.channel i)).take (left f)).foldl act f := by
  induction l generalizing f with
  | nil => simp
  | cons i l ih =>
    obtain ⟨fresh, rest⟩ := List.nodup_cons.1 nodup
    rw [List.foldl_cons, ih rest, pass]
    by_cases found : test (f.channel i) = true
    · rw [List.filter_cons_of_pos (p := fun j => test (f.channel j)) found]
      cases budget : left f with
      | zero => simp [budget]
      | succ n =>
        rw [if_pos ⟨Nat.succ_pos n, found⟩, Fcc.filter_others others fresh, spends f i found, budget]
        rfl
    · rw [List.filter_cons_of_neg (p := fun j => test (f.channel j)) found, if_neg fun h => found h.2]

end

/-! ### The count of duty channels -/

theorem Fcc.k_eq_card (f : Fcc) : f.k = (Finset.univ.filter fun i => (f.channel i).dutyInHand = true).card := by
  have nodup : (fanChannels.filter fun i => (f.channel i).dutyInHand).Nodup := List.Nodup.filter _ (by decide)
  rw [Fcc.k, ← List.toFinset_card_of_nodup nodup]
  congr 1
  ext i
  simp [mem_fanChannels]

theorem Fcc.k_of_same {f g : Fcc} (same : ∀ i, (g.channel i).dutyInHand = (f.channel i).dutyInHand) :
    g.k = f.k := by
  simp only [Fcc.k, same]

/-- The channels that a change takes into duty, counted. -/
theorem Fcc.k_add {f g : Fcc} {is : List (Fin 6)} (nodup : is.Nodup)
    (others : ∀ i, i ∉ is → g.channel i = f.channel i) (before : ∀ i ∈ is, (f.channel i).dutyInHand = false)
    (after : ∀ i ∈ is, (g.channel i).dutyInHand = true) : g.k = f.k + is.length := by
  rw [Fcc.k_eq_card, Fcc.k_eq_card, ← List.toFinset_card_of_nodup nodup, ← Finset.card_union_of_disjoint]
  · congr 1
    ext i
    by_cases taken : i ∈ is
    · simp [taken, after]
    · simp [taken, others]
  · refine Finset.disjoint_left.2 fun i duty taken => ?_
    simp [before i (List.mem_toFinset.1 taken)] at duty

/-! ### Stopping channels (R122, R124, R133) -/

@[simp] theorem FanChannel.toOff_dutyInHand (c : FanChannel) : c.toOff.dutyInHand = false := rfl

/-- Channels go to OFF, one after the other. -/
def Fcc.stopAll (is : List (Fin 6)) (f : Fcc) : Fcc := is.foldl (fun g i => g.off i) f

@[simp] theorem Fcc.stopAll_nil (f : Fcc) : f.stopAll [] = f := rfl

theorem Fcc.stopAll_append (is js : List (Fin 6)) (f : Fcc) : f.stopAll (is ++ js) = (f.stopAll is).stopAll js :=
  List.foldl_append

theorem Fcc.channel_stopAll {is : List (Fin 6)} (nodup : is.Nodup) (f : Fcc) (i : Fin 6) :
    (f.stopAll is).channel i = if i ∈ is then (f.channel i).toOff else f.channel i :=
  Fcc.channel_foldl (fun f i j => Fcc.channel_off i j f) nodup f i

/-- A channel that is not OFF after the stops was spared. -/
theorem Fcc.stopAll_kept {is : List (Fin 6)} (nodup : is.Nodup) (f : Fcc) (i : Fin 6)
    (on : ((f.stopAll is).channel i).state ≠ .off) : (f.stopAll is).channel i = f.channel i := by
  rw [Fcc.channel_stopAll nodup] at on ⊢
  split at on
  · exact absurd rfl on
  · next spared => rw [if_neg spared]

theorem Fcc.runOrder_stopAll (is : List (Fin 6)) (f : Fcc) :
    (f.stopAll is).runOrder = f.runOrder.filter fun i => decide (i ∉ is) := by
  induction is generalizing f with
  | nil => simp [Fcc.stopAll]
  | cons j is ih =>
    refine (ih (f.off j)).trans ?_
    have left : (f.off j).runOrder = f.runOrder.filter (· != j) := rfl
    rw [left, List.filter_filter]
    refine List.filter_congr fun i _ => ?_
    by_cases i = j <;> simp [*]

theorem Fcc.permit_stopAll (is : List (Fin 6)) (f : Fcc) (i : Fin 6) :
    (f.stopAll is).permit = some i ↔ f.permit = some i ∧ i ∉ is := by
  induction is generalizing f with
  | nil => simp [Fcc.stopAll]
  | cons j is ih =>
    refine (ih (f.off j)).trans ?_
    have released : (f.off j).permit = some i ↔ f.permit = some i ∧ i ≠ j :=
      Fcc.permit_release j ((f.modify j FanChannel.toOff).leave j) i
    rw [released, List.mem_cons, not_or, and_assoc]

theorem Fcc.sameRest_stopAll (is : List (Fin 6)) (f : Fcc) : f.SameRest (f.stopAll is) :=
  Fcc.sameRest_foldl (fun g i => (⟨rfl, rfl, rfl⟩ : g.SameRest (g.off i))) is f

theorem Fcc.k_stopAll {is : List (Fin 6)} (nodup : is.Nodup) {f : Fcc}
    (duty : ∀ i ∈ is, (f.channel i).dutyInHand = true) : (f.stopAll is).k + is.length = f.k := by
  have channel := Fcc.channel_stopAll nodup f
  refine (Fcc.k_add nodup (fun i left => ?_) (fun i stopped => ?_) duty).symm
  · rw [channel, if_neg left]
  · rw [channel, if_pos stopped, FanChannel.toOff_dutyInHand]

/-! ### The forcing at a changed role (R133) -/

/-- A channel that a change of role forces OFF (R133). -/
abbrev FanChannel.Forced (old new : Role) (c : FanChannel) : Prop :=
  new ≠ old ∧ ¬ (new = .carrying ∨ new = .shedding) ∧ c.inHand = true ∧ (new = .resting → c.cls = some .duty)

/-- The channels that a change of role forces OFF, in number order. -/
def Fcc.forced (old new : Role) (f : Fcc) : List (Fin 6) :=
  fanChannels.filter fun i => decide ((f.channel i).Forced old new)

theorem Fcc.mem_forced {old new : Role} {f : Fcc} {i : Fin 6} :
    i ∈ f.forced old new ↔ (f.channel i).Forced old new := by
  rw [Fcc.forced, List.mem_filter, decide_eq_true_iff]
  exact and_iff_right (mem_fanChannels i)

theorem Fcc.forced_nodup (old new : Role) (f : Fcc) : (f.forced old new).Nodup := List.Nodup.filter _ (by decide)

/-- The report of a role forces the channels in hand that R133 names. -/
theorem Fcc.roleReport_eq {old new : Role} (changed : new ≠ old) (f : Fcc) :
    f.roleReport new = f.stopAll (f.forced old new) := by
  have test : ∀ c : FanChannel, (c.inHand && roleForces new c) = decide (c.Forced old new) := fun c => by
    rw [Bool.eq_iff_iff, decide_eq_true_iff]
    cases new <;> simp [FanChannel.Forced, roleForces, changed]
  refine (Fcc.foldl_filter (test := fun c => c.inHand && roleForces new c) (act := fun g i => g.off i)
    (fun _ _ => rfl) (fun g i j hj => ?_) (by decide) f).trans ?_
  · rw [Fcc.channel_off, if_neg hj]
  · simp only [test]
    rfl

/-- The forcing at an allotment: a changed role forces, an unchanged one does not (R133). -/
theorem Fcc.told_eq (old new : Role) (f : Fcc) :
    (if new != old then f.roleReport new else f) = f.stopAll (f.forced old new) := by
  by_cases changed : new = old
  · have none : f.forced old new = [] := List.filter_eq_nil_iff.2 fun i _ => by simp [FanChannel.Forced, changed]
    rw [none, if_neg (by simp [changed])]
    rfl
  · rw [if_pos (by simpa using changed), Fcc.roleReport_eq changed]

/-! ### Staging down (R124) -/

/-- Whether a channel is in STARTING or KICK with duty class. -/
def FanChannel.startingDuty (c : FanChannel) : Bool :=
  decide ((c.state = .starting ∨ c.state = .kick) ∧ c.cls = some .duty)

theorem FanChannel.dutyInHand_iff (c : FanChannel) : c.dutyInHand = true
    ↔ c.queuedAs .duty = true ∨ c.startingDuty = true ∨ c.runningAs .duty = true := by
  simp only [FanChannel.dutyInHand, FanChannel.inHand, FanChannel.queuedAs, FanChannel.startingDuty,
    FanChannel.runningAs, Bool.and_eq_true, Bool.or_eq_true, beq_iff_eq, decide_eq_true_iff]
  tauto

/-- The duty channels in hand in the order in which staging down stops them (R124). -/
def Fcc.stoppable (f : Fcc) : List (Fin 6) :=
  (fanChannels.reverse.filter fun i => (f.channel i).queuedAs .duty)
    ++ (fanChannels.filter fun i => (f.channel i).startingDuty) ++ f.runOrder

/-- The channels that staging to m duty channels stops (R124). -/
def Fcc.stops (m : Nat) (f : Fcc) : List (Fin 6) := f.stoppable.take (f.k - m)

/-- Each duty channel in hand can be stopped, once. -/
theorem Fcc.stoppable_perm {f : Fcc} (listed : RunOrderExact f) :
    f.stoppable.Perm (fanChannels.filter fun i => (f.channel i).dutyInHand) := by
  obtain ⟨nodup, listed⟩ := listed
  refine (List.perm_ext_iff_of_nodup ?_ (List.Nodup.filter _ (by decide))).2 fun i => ?_
  · refine ((List.Nodup.filter _ (by decide)).append (List.Nodup.filter _ (by decide)) ?_).append nodup ?_
    · intro i first second
      simp_all [FanChannel.queuedAs, FanChannel.startingDuty]
    · intro i first second
      have running := (listed i).1 second
      simp_all [FanChannel.queuedAs, FanChannel.startingDuty, FanChannel.runningAs]
  · simp only [Fcc.stoppable, List.mem_append, List.mem_filter, List.mem_reverse, mem_fanChannels, listed, true_and,
      FanChannel.dutyInHand_iff, or_assoc]

theorem Fcc.stoppable_nodup {f : Fcc} (listed : RunOrderExact f) : f.stoppable.Nodup :=
  (Fcc.stoppable_perm listed).nodup_iff.2 (List.Nodup.filter _ (by decide))

theorem Fcc.stoppable_duty {f : Fcc} (listed : RunOrderExact f) :
    ∀ i ∈ f.stoppable, (f.channel i).dutyInHand = true := fun _ hi =>
  (List.mem_filter.1 ((Fcc.stoppable_perm listed).mem_iff.1 hi)).2

/-- As many channels stop as stand above m. -/
theorem Fcc.stops_length {f : Fcc} (listed : RunOrderExact f) (m : Nat) : (f.stops m).length = f.k - m := by
  have all : f.stoppable.length = f.k := (Fcc.stoppable_perm listed).length_eq
  rw [Fcc.stops, List.length_take, all]
  omega

/-- A pass of R124 after others that stopped from `is`: it stops from `is` and then from its own channels. -/
theorem Fcc.stopAll_pass {m : Nat} {test : FanChannel → Bool} {op : Fcc → Fin 6 → Fcc}
    (pass : ∀ g i, op g i = if m < g.k ∧ test (g.channel i) = true then g.off i else g)
    (duty : ∀ c : FanChannel, test c = true → c.dutyInHand = true) {f : Fcc} {is l : List (Fin 6)}
    (nodup : is.Nodup) (nodup' : l.Nodup) (inHand : ∀ i ∈ is, (f.channel i).dutyInHand = true)
    (apart : ∀ i ∈ is, test (f.channel i) = false) : l.foldl op (f.stopAll (is.take (f.k - m)))
      = f.stopAll ((is ++ l.filter fun i => test (f.channel i)).take (f.k - m)) := by
  have taken : (is.take (f.k - m)).Nodup := nodup.sublist (List.take_sublist _ _)
  have count := Fcc.k_stopAll taken fun i hi => inHand i (List.mem_of_mem_take hi)
  have budget : (f.stopAll (is.take (f.k - m))).k - m = f.k - m - is.length := by
    rw [List.length_take] at count
    omega
  have stopped : ∀ c : FanChannel, test c.toOff = false := fun c =>
    Bool.eq_false_iff.2 fun h => by simpa using duty _ h
  have tests : ∀ i, test ((f.stopAll (is.take (f.k - m))).channel i) = test (f.channel i) := fun i => by
    rw [Fcc.channel_stopAll taken]
    split
    · next hi => rw [stopped, apart i (List.mem_of_mem_take hi)]
    · rfl
  rw [Fcc.foldl_spend (act := fun g i => g.off i) (left := fun g => g.k - m)
    (fun g i => (pass g i).trans (if_congr (and_congr_left' tsub_pos_iff_lt.symm) rfl rfl))
    (fun g i j hj => by rw [Fcc.channel_off, if_neg hj])
    (fun g i found => ?_) nodup']
  · simp only [tests]
    rw [budget, List.take_append, Fcc.stopAll_append]
    rfl
  · have one := Fcc.k_stopAll (f := g) (List.nodup_singleton i) (by simpa using duty _ found)
    have : (g.off i).k + 1 = g.k := one
    omega

/-- Staging down stops from the queued ones, then the starting one, then the run-order list (R124). -/
theorem Fcc.lower_eq {f : Fcc} (listed : RunOrderExact f) (m : Nat) : f.lower m = f.stopAll (f.stops m) := by
  have nodup := Fcc.stoppable_nodup listed
  have duty := Fcc.stoppable_duty listed
  have queued := Fcc.stopAll_pass (m := m) (op := Fcc.lowerQueued m) (is := []) (l := fanChannels.reverse) (f := f)
    (test := FanChannel.queuedAs .duty) (fun g i => by simp [Fcc.lowerQueued, FanChannel.queuedAs])
    (fun c h => c.dutyInHand_iff.2 (.inl h)) .nil (by decide) (by simp) (by simp)
  rw [List.take_nil, Fcc.stopAll_nil, List.nil_append] at queued
  have starting := Fcc.stopAll_pass (m := m) (op := Fcc.lowerStarting m) (l := fanChannels)
    (test := FanChannel.startingDuty) (fun g i => by simp [Fcc.lowerStarting, FanChannel.startingDuty])
      (fun c h => c.dutyInHand_iff.2 (.inr (.inl h))) (List.Nodup.of_append_left (List.Nodup.of_append_left nodup))
      (by decide) (fun i hi => duty i (List.mem_append_left _ (List.mem_append_left _ hi))) fun i hi => by
        have queued := (List.mem_filter.1 hi).2
        simp_all [FanChannel.queuedAs, FanChannel.startingDuty]
  have running := Fcc.stopAll_pass (m := m) (op := Fcc.lowerRunning m) (l := f.runOrder)
    (test := FanChannel.runningAs .duty) (fun g i => rfl)
      (fun c h => c.dutyInHand_iff.2 (.inr (.inr h))) (List.Nodup.of_append_left nodup)
      listed.1 (fun i hi => duty i (List.mem_append_left _ hi)) fun i hi => by
        have := List.disjoint_of_nodup_append nodup hi
        rw [listed.2] at this
        simpa using this
  have duties : (f.runOrder.filter fun i => (f.channel i).runningAs .duty) = f.runOrder :=
    List.filter_eq_self.2 fun i hi => (listed.2 i).1 hi
  rw [duties] at running
  have order : (f.stopAll (((fanChannels.reverse.filter fun i => (f.channel i).queuedAs .duty)
      ++ fanChannels.filter fun i => (f.channel i).startingDuty).take (f.k - m))).runOrder = f.runOrder := by
    rw [Fcc.runOrder_stopAll]
    refine List.filter_eq_self.2 fun i hi => decide_eq_true fun taken => ?_
    exact List.disjoint_of_nodup_append nodup (List.mem_of_mem_take taken) hi
  unfold Fcc.lower
  dsimp only
  rw [queued, starting, order, running]
  rfl

end Sys2Proof.Machine
end

section
/-! PROOFS. An allotment's staging and ramp: what they leave of each channel, the list, the permit and the count of
duty channels (R115, R121 to R125, R133). -/

namespace Sys2Proof.Machine

/-! ### Staging up (R123) -/

/-- Channels are converted to duty class, one after the other. -/
def Fcc.convertAll (is : List (Fin 6)) (f : Fcc) : Fcc := is.foldl (fun g i => g.convert i) f

/-- Channels are queued in duty class, one after the other. -/
def Fcc.queueAll (is : List (Fin 6)) (f : Fcc) : Fcc := is.foldl (fun g i => g.queue .duty i) f

theorem Fcc.channel_convertAll {is : List (Fin 6)} (nodup : is.Nodup) (f : Fcc) (i : Fin 6) :
    (f.convertAll is).channel i = if i ∈ is then (f.channel i).toDuty else f.channel i :=
  Fcc.channel_foldl (op := fun g i => g.convert i) (fun f i j => Fcc.channel_modify i j FanChannel.toDuty f) nodup f i

theorem Fcc.channel_queueAll {is : List (Fin 6)} (nodup : is.Nodup) (f : Fcc) (i : Fin 6) :
    (f.queueAll is).channel i = if i ∈ is then (f.channel i).toQueue .duty else f.channel i :=
  Fcc.channel_foldl (fun f i j => Fcc.channel_modify i j (FanChannel.toQueue .duty) f) nodup f i

theorem Fcc.runOrder_convertAll (is : List (Fin 6)) (f : Fcc) :
    (f.convertAll is).runOrder = f.runOrder ++ is := by
  induction is generalizing f with
  | nil => simp [Fcc.convertAll]
  | cons i is ih => exact (ih (f.convert i)).trans (List.append_assoc f.runOrder [i] is)

theorem Fcc.permit_convertAll (is : List (Fin 6)) (f : Fcc) : (f.convertAll is).permit = f.permit :=
  Fcc.foldl_keeps (P := fun g => g.permit = f.permit)
    (op := fun g i => g.convert i) (fun _ _ same => same) is rfl

theorem Fcc.sameRest_convertAll (is : List (Fin 6)) (f : Fcc) : f.SameRest (f.convertAll is) :=
  Fcc.sameRest_foldl (fun g i => (⟨rfl, rfl, rfl⟩ : g.SameRest (g.convert i))) is f

/-- Queuing reaches neither the list nor the permit. -/
theorem Fcc.queueAll_order (is : List (Fin 6)) (f : Fcc) :
    (f.queueAll is).runOrder = f.runOrder ∧ (f.queueAll is).permit = f.permit :=
  Fcc.foldl_keeps (P := fun g => g.runOrder = f.runOrder ∧ g.permit = f.permit)
    (op := fun g i => g.queue .duty i) (fun _ _ same => same) is ⟨rfl, rfl⟩

theorem Fcc.sameRest_queueAll (is : List (Fin 6)) (f : Fcc) : f.SameRest (f.queueAll is) :=
  Fcc.sameRest_foldl (fun g i => (⟨rfl, rfl, rfl⟩ : g.SameRest (g.queue .duty i))) is f

theorem FanChannel.dutyInHand_of_exercise {c : FanChannel} (runs : c.runningAs .exercise = true) :
    c.dutyInHand = false ∧ c.toDuty.dutyInHand = true := by
  simp_all [FanChannel.runningAs, FanChannel.dutyInHand, FanChannel.inHand, FanChannel.toDuty]

theorem FanChannel.dutyInHand_of_off {c : FanChannel} (off : c.state = .off) :
    c.dutyInHand = false ∧ (c.toQueue .duty).dutyInHand = true := by
  simp [FanChannel.dutyInHand, FanChannel.inHand, FanChannel.toQueue, off]

theorem Fcc.k_convertAll {is : List (Fin 6)} (nodup : is.Nodup) {f : Fcc}
    (runs : ∀ i ∈ is, (f.channel i).runningAs .exercise = true) : (f.convertAll is).k = f.k + is.length := by
  have channel := Fcc.channel_convertAll nodup f
  refine Fcc.k_add nodup (fun i left => ?_) (fun i hi => (FanChannel.dutyInHand_of_exercise (runs i hi)).1)
    fun i hi => ?_
  · rw [channel, if_neg left]
  · rw [channel, if_pos hi]
    exact (FanChannel.dutyInHand_of_exercise (runs i hi)).2

theorem Fcc.k_queueAll {is : List (Fin 6)} (nodup : is.Nodup) {f : Fcc}
    (off : ∀ i ∈ is, (f.channel i).state = .off) : (f.queueAll is).k = f.k + is.length := by
  have channel := Fcc.channel_queueAll nodup f
  refine Fcc.k_add nodup (fun i left => ?_) (fun i hi => (FanChannel.dutyInHand_of_off (off i hi)).1) fun i hi => ?_
  · rw [channel, if_neg left]
  · rw [channel, if_pos hi]
    exact (FanChannel.dutyInHand_of_off (off i hi)).2

/-- The RUNNING exercise channels in pair order. -/
def Fcc.convertible (order : Nat) (f : Fcc) : List (Fin 6) :=
  (f.pairOrder order).filter fun i => (f.channel i).runningAs .exercise

/-- The OFF channels in pair order. -/
def Fcc.queueable (order : Nat) (f : Fcc) : List (Fin 6) :=
  (f.pairOrder order).filter fun i => decide ((f.channel i).state = .off)

/-- The channels that staging to m duty channels converts (R123). -/
def Fcc.conversions (order m : Nat) (f : Fcc) : List (Fin 6) := (f.convertible order).take (m - f.k)

/-- The channels that staging to m duty channels queues (R115, R123). -/
def Fcc.queuings (order m : Nat) (frost : FrostState) (f : Fcc) : List (Fin 6) :=
  if frost = .protect ∨ frost = .recover then []
  else (f.queueable order).take (m - f.k - (f.conversions order m).length)

section
variable {order m : Nat} {frost : FrostState} {f : Fcc} {i : Fin 6}

theorem Fcc.mem_convertible : i ∈ f.convertible order ↔ (f.channel i).runningAs .exercise = true := by
  simp [Fcc.convertible, (f.pairOrder_complete order).2]

theorem Fcc.mem_queueable : i ∈ f.queueable order ↔ (f.channel i).state = .off := by
  simp [Fcc.queueable, (f.pairOrder_complete order).2]

theorem Fcc.conversions_nodup : (f.conversions order m).Nodup :=
  ((f.pairOrder_complete order).1.filter _).sublist (List.take_sublist _ _)

theorem Fcc.runs_of_conversion (converted : i ∈ f.conversions order m) :
    (f.channel i).runningAs .exercise = true := Fcc.mem_convertible.1 (List.mem_of_mem_take converted)

theorem Fcc.queuings_nodup : (f.queuings order m frost).Nodup := by
  unfold Fcc.queuings
  split
  · exact .nil
  · exact ((f.pairOrder_complete order).1.filter _).sublist (List.take_sublist _ _)

theorem Fcc.off_of_queuing (queued : i ∈ f.queuings order m frost) : (f.channel i).state = .off := by
  unfold Fcc.queuings at queued
  split at queued
  · simp at queued
  · exact Fcc.mem_queueable.1 (List.mem_of_mem_take queued)

theorem Fcc.duty_of_stop (listed : RunOrderExact f) (stopped : i ∈ f.stops m) : (f.channel i).dutyInHand = true :=
  Fcc.stoppable_duty listed i (List.mem_of_mem_take stopped)

theorem Fcc.stops_nodup (listed : RunOrderExact f) : (f.stops m).Nodup :=
  (Fcc.stoppable_nodup listed).sublist (List.take_sublist _ _)

end

/-- Step 1 of R123 converts the RUNNING exercise channels in pair order, as far as m asks. -/
theorem Fcc.foldl_raiseConvert (order m : Nat) (f : Fcc) :
    (f.pairOrder order).foldl (Fcc.raiseConvert m) f = f.convertAll (f.conversions order m) := by
  refine Fcc.foldl_spend (act := fun g i => g.convert i) (test := FanChannel.runningAs .exercise)
    (left := fun g => m - g.k) (fun g i => if_congr (and_congr_left' tsub_pos_iff_lt.symm) rfl rfl)
    (fun g i j hj => ?_) (fun g i runs => ?_) (f.pairOrder_complete order).1 f
  · exact (Fcc.channel_modify i j FanChannel.toDuty g).trans (if_neg hj)
  · have one : (g.convert i).k = g.k + 1 := Fcc.k_convertAll (List.nodup_singleton i) (by simpa using runs)
    omega

/-- Step 2 of R123 queues the OFF channels in pair order, as far as m asks. -/
theorem Fcc.foldl_raiseQueue (order m : Nat) (f : Fcc) :
    (f.pairOrder order).foldl (Fcc.raiseQueue m) f = f.queueAll ((f.queueable order).take (m - f.k)) := by
  refine Fcc.foldl_spend (act := fun g i => g.queue .duty i) (test := fun c => decide (c.state = .off))
    (left := fun g => m - g.k) (fun g i => if_congr (by rw [decide_eq_true_iff, tsub_pos_iff_lt]) rfl rfl)
    (fun g i j hj => ?_) (fun g i off => ?_) (f.pairOrder_complete order).1 f
  · exact (Fcc.channel_modify i j (FanChannel.toQueue .duty) g).trans (if_neg hj)
  · have one : (g.queue .duty i).k = g.k + 1 := Fcc.k_queueAll (List.nodup_singleton i) (by simpa using off)
    omega

/-- Conversions leave the OFF channels, and their order, as they were. -/
theorem Fcc.queueable_convertAll {is : List (Fin 6)} (nodup : is.Nodup) (order : Nat) (f : Fcc) :
    (f.convertAll is).queueable order = f.queueable order := by
  have states : ∀ i, ((f.convertAll is).channel i).state = (f.channel i).state := fun i => by
    rw [Fcc.channel_convertAll nodup]
    split <;> rfl
  simp only [Fcc.queueable, Fcc.pairOrder, (f.sameRest_convertAll is).1, states]

/-- Staging up converts in pair order, then queues in pair order (R115, R123). -/
theorem Fcc.raise_eq (order m : Nat) (frost : FrostState) (f : Fcc) : f.raise order m frost
    = (f.convertAll (f.conversions order m)).queueAll (f.queuings order m frost) := by
  unfold Fcc.raise Fcc.queuings
  dsimp only
  rw [Fcc.foldl_raiseConvert]
  split
  · rfl
  · rw [Fcc.foldl_raiseQueue, Fcc.queueable_convertAll Fcc.conversions_nodup,
      Fcc.k_convertAll Fcc.conversions_nodup fun i => Fcc.runs_of_conversion, Nat.sub_add_eq]

/-! ### Staging (R122 to R124) -/

/-- The FCC staged to m duty channels, before the ramp (R123, R124). -/
def Fcc.staged (order m : Nat) (frost : FrostState) (f : Fcc) : Fcc :=
  ((f.convertAll (f.conversions order m)).queueAll (f.queuings order m frost)).stopAll (f.stops m)

/-- Below m only staging up has something to do, from m on only staging down. -/
theorem Fcc.stage_eq {f : Fcc} (listed : RunOrderExact f) (order ramp m v : Nat) (frost : FrostState) :
    f.stage order ramp m v frost = (f.staged order m frost).ramp ramp v := by
  unfold Fcc.stage Fcc.staged
  congr 1
  by_cases below : f.k < m
  · have stops : f.stops m = [] := by rw [Fcc.stops, Nat.sub_eq_zero_of_le below.le, List.take_zero]
    rw [if_pos below, Fcc.raise_eq, stops, Fcc.stopAll_nil]
  · have spare : m - f.k = 0 := Nat.sub_eq_zero_of_le (Nat.not_lt.1 below)
    have conversions : f.conversions order m = [] := by rw [Fcc.conversions, spare, List.take_zero]
    have queuings : f.queuings order m frost = [] := by simp [Fcc.queuings, spare]
    rw [if_neg below, Fcc.lower_eq listed, conversions, queuings]
    rfl

section
variable {f : Fcc} (listed : RunOrderExact f) (order m : Nat) (frost : FrostState)
include listed

/-- Each channel after the staging: converted, queued, stopped or as it was. -/
theorem Fcc.channel_staged (i : Fin 6) : (f.staged order m frost).channel i
    = if i ∈ f.conversions order m then (f.channel i).toDuty
      else if i ∈ f.queuings order m frost then (f.channel i).toQueue .duty
      else if i ∈ f.stops m then (f.channel i).toOff else f.channel i := by
  rw [Fcc.staged, Fcc.channel_stopAll (Fcc.stops_nodup listed), Fcc.channel_queueAll Fcc.queuings_nodup,
    Fcc.channel_convertAll Fcc.conversions_nodup]
  by_cases stopped : i ∈ f.stops m
  · have duty := Fcc.duty_of_stop listed stopped
    have unconverted : i ∉ f.conversions order m := fun h => by
      simp [(FanChannel.dutyInHand_of_exercise (Fcc.runs_of_conversion h)).1] at duty
    have unqueued : i ∉ f.queuings order m frost := fun h => by
      simp [(FanChannel.dutyInHand_of_off (Fcc.off_of_queuing h)).1] at duty
    simp only [stopped, unconverted, unqueued, if_true, if_false]
  · by_cases converted : i ∈ f.conversions order m
    · have unqueued : i ∉ f.queuings order m frost := fun h => by
        have runs := Fcc.runs_of_conversion converted
        simp [FanChannel.runningAs, Fcc.off_of_queuing h] at runs
      simp only [stopped, converted, unqueued, if_true, if_false]
    · simp only [stopped, converted, if_false]

/-- What the staging can do to a channel, and what the channel was. -/
theorem Fcc.staged_cases (i : Fin 6) :
    (i ∈ f.conversions order m ∧ (f.channel i).runningAs .exercise = true
        ∧ (f.staged order m frost).channel i = (f.channel i).toDuty)
      ∨ (i ∈ f.queuings order m frost ∧ (f.channel i).state = .off
        ∧ (f.staged order m frost).channel i = (f.channel i).toQueue .duty)
      ∨ ((f.channel i).dutyInHand = true ∧ (f.staged order m frost).channel i = (f.channel i).toOff)
      ∨ (i ∉ f.conversions order m ∧ i ∉ f.queuings order m frost
        ∧ (f.staged order m frost).channel i = f.channel i) := by
  rw [Fcc.channel_staged listed]
  split
  · next converted => exact .inl ⟨converted, Fcc.runs_of_conversion converted, rfl⟩
  · next unconverted =>
    split
    · next queued => exact .inr (.inl ⟨queued, Fcc.off_of_queuing queued, rfl⟩)
    · next unqueued =>
      split
      · next stopped => exact .inr (.inr (.inl ⟨Fcc.duty_of_stop listed stopped, rfl⟩))
      · exact .inr (.inr (.inr ⟨unconverted, unqueued, rfl⟩))

/-- A channel converted was not RUNNING as a duty channel, and so is not stopped. -/
theorem Fcc.runOrder_staged : (f.staged order m frost).runOrder
    = (f.runOrder.filter fun i => decide (i ∉ f.stops m)) ++ f.conversions order m := by
  have spared : ((f.conversions order m).filter fun i => decide (i ∉ f.stops m)) = f.conversions order m :=
    List.filter_eq_self.2 fun i converted => decide_eq_true fun stopped => by
      have duty := Fcc.duty_of_stop listed stopped
      simp [(FanChannel.dutyInHand_of_exercise (Fcc.runs_of_conversion converted)).1] at duty
  rw [Fcc.staged, Fcc.runOrder_stopAll, (Fcc.queueAll_order _ _).1, Fcc.runOrder_convertAll, List.filter_append,
    spared]

omit listed in
theorem Fcc.permit_staged (i : Fin 6) :
    (f.staged order m frost).permit = some i ↔ f.permit = some i ∧ i ∉ f.stops m := by
  rw [Fcc.staged, Fcc.permit_stopAll, (Fcc.queueAll_order _ _).2, Fcc.permit_convertAll]

/-- The count of duty channels: each conversion and queuing adds one, each stop takes one. -/
theorem Fcc.k_staged : (f.staged order m frost).k + (f.stops m).length
    = f.k + (f.conversions order m).length + (f.queuings order m frost).length := by
  have converted := Fcc.channel_convertAll (f := f) (Fcc.conversions_nodup (f := f) (order := order) (m := m))
  have queued := Fcc.channel_queueAll (f := f.convertAll (f.conversions order m))
    (Fcc.queuings_nodup (f := f) (order := order) (m := m) (frost := frost))
  rw [Fcc.staged, Fcc.k_stopAll (Fcc.stops_nodup listed), Fcc.k_queueAll Fcc.queuings_nodup,
    Fcc.k_convertAll Fcc.conversions_nodup fun i => Fcc.runs_of_conversion]
  · intro i hi
    rw [converted]
    split <;> exact Fcc.off_of_queuing hi
  · intro i stopped
    have duty := Fcc.duty_of_stop listed stopped
    rw [queued, converted]
    split
    · rfl
    · split
      · next converts => exact (FanChannel.dutyInHand_of_exercise (Fcc.runs_of_conversion converts)).2
      · exact duty

end

/-! ### The ramp (R125) -/

/-- The ramp at a channel that is RUNNING with duty class (R125). -/
def FanChannel.ramped (ramp v : Nat) (c : FanChannel) : FanChannel :=
  if c.runningAs .duty = true then { c with command := rampToward ramp v c.command } else c

/-- The ramp moves commands alone. -/
theorem FanChannel.ramped_eq (ramp v : Nat) (c : FanChannel) :
    c.ramped ramp v = { c with command := (c.ramped ramp v).command } := by
  unfold FanChannel.ramped
  split <;> rfl

theorem FanChannel.ramped_runningAs (ramp v : Nat) (c : FanChannel) (cls : FanClass) :
    (c.ramped ramp v).runningAs cls = c.runningAs cls := by
  rw [FanChannel.ramped_eq]; rfl

theorem FanChannel.ramped_state (ramp v : Nat) (c : FanChannel) : (c.ramped ramp v).state = c.state := by
  rw [FanChannel.ramped_eq]

theorem FanChannel.ramped_dutyInHand (ramp v : Nat) (c : FanChannel) :
    (c.ramped ramp v).dutyInHand = c.dutyInHand := by
  rw [FanChannel.ramped_eq]; rfl

theorem FanChannel.ramped_available (ramp v : Nat) (c : FanChannel) : (c.ramped ramp v).available = c.available := by
  rw [FanChannel.ramped_eq]; rfl

theorem Fcc.channel_ramp (ramp v : Nat) (f : Fcc) (i : Fin 6) :
    (f.ramp ramp v).channel i = (f.channel i).ramped ramp v := by
  refine (Fcc.channel_foldl (g := FanChannel.ramped ramp v) (fun f i j => ?_) (by decide) f i).trans
    (if_pos (mem_fanChannels i))
  unfold Fcc.rampOne FanChannel.ramped
  split
  · exact Fcc.channel_modify i j _ f
  · split
    · next same => rw [same]
    · rfl

/-- The ramp reaches neither the list nor the permit. -/
theorem Fcc.ramp_order (ramp v : Nat) (f : Fcc) :
    (f.ramp ramp v).runOrder = f.runOrder ∧ (f.ramp ramp v).permit = f.permit := by
  refine Fcc.foldl_keeps (P := fun g => g.runOrder = f.runOrder ∧ g.permit = f.permit) (fun g i same => ?_) _ ⟨rfl, rfl⟩
  unfold Fcc.rampOne
  split <;> exact same

theorem Fcc.sameRest_ramp (ramp v : Nat) (f : Fcc) : f.SameRest (f.ramp ramp v) :=
  Fcc.sameRest_foldl (fun g i => by unfold Fcc.rampOne; split <;> exact .refl g) _ f

theorem Fcc.k_ramp (ramp v : Nat) (f : Fcc) : (f.ramp ramp v).k = f.k :=
  Fcc.k_of_same fun i => by rw [Fcc.channel_ramp, FanChannel.ramped_dutyInHand]

/-! ### The staging and the ramp together (R115, R121, R123 to R125) -/

section
variable {f : Fcc} (listed : RunOrderExact f) (order ramp m v : Nat) (frost : FrostState)
include listed

theorem Fcc.channel_stage (i : Fin 6) : (f.stage order ramp m v frost).channel i
    = ((f.staged order m frost).channel i).ramped ramp v := by
  rw [Fcc.stage_eq listed, Fcc.channel_ramp]

theorem Fcc.sameRest_stage : f.SameRest (f.stage order ramp m v frost) := by
  rw [Fcc.stage_eq listed]
  exact (((f.sameRest_convertAll _).trans (Fcc.sameRest_queueAll _ _)).trans (Fcc.sameRest_stopAll _ _)).trans
    (Fcc.sameRest_ramp ramp v _)

/-- The staging never leaves more duty channels than the record's (R124). -/
theorem Fcc.k_stage_le : (f.stage order ramp m v frost).k ≤ m := by
  have count := Fcc.k_staged listed order m frost
  have stops := Fcc.stops_length listed m
  have conversions : (f.conversions order m).length ≤ m - f.k := List.length_take_le _ _
  have queuings : (f.queuings order m frost).length ≤ m - f.k - (f.conversions order m).length := by
    unfold Fcc.queuings
    split
    · exact Nat.zero_le _
    · exact List.length_take_le _ _
  rw [Fcc.stage_eq listed, Fcc.k_ramp]
  omega

/-- Where the staging leaves fewer duty channels than the record's, it has converted every RUNNING exercise channel and,
where it may queue, queued every OFF one (R115, R123). -/
theorem Fcc.stage_short (short : (f.stage order ramp m v frost).k < m) :
    f.conversions order m = f.convertible order
      ∧ (¬ (frost = .protect ∨ frost = .recover) → f.queuings order m frost = f.queueable order) := by
  have count := Fcc.k_staged listed order m frost
  have stops := Fcc.stops_length listed m
  have conversions : (f.conversions order m).length = min (m - f.k) (f.convertible order).length := List.length_take
  rw [Fcc.stage_eq listed, Fcc.k_ramp] at short
  refine ⟨List.take_of_length_le (by omega), fun free => ?_⟩
  have queuings : f.queuings order m frost
      = (f.queueable order).take (m - f.k - (f.conversions order m).length) := if_neg free
  rw [queuings, List.length_take] at count
  exact queuings.trans (List.take_of_length_le (by omega))

/-- Where the staging leaves fewer duty channels than the record's, no exercise channel is RUNNING and, where it may
queue, none is OFF (R115, R123). -/
theorem Fcc.stage_exhausts (short : (f.stage order ramp m v frost).k < m) (i : Fin 6) :
    ((f.stage order ramp m v frost).channel i).runningAs .exercise = false
      ∧ (¬ (frost = .protect ∨ frost = .recover) → ((f.stage order ramp m v frost).channel i).state ≠ .off) := by
  obtain ⟨converts, queues⟩ := Fcc.stage_short listed order ramp m v frost short
  have stops : f.stops m = [] := by
    have count := Fcc.k_staged listed order m frost
    have stops := Fcc.stops_length listed m
    rw [Fcc.stage_eq listed, Fcc.k_ramp] at short
    exact List.length_eq_zero_iff.1 (by omega)
  rw [Fcc.channel_stage listed, FanChannel.ramped_runningAs, FanChannel.ramped_state, Fcc.channel_staged listed, stops,
    converts]
  split
  · next converted =>
    have runs := Fcc.mem_convertible.1 converted
    simp_all [FanChannel.runningAs, FanChannel.toDuty]
  · next unconverted =>
    split
    · simp [FanChannel.runningAs, FanChannel.toQueue]
    · next unqueued =>
      rw [if_neg List.not_mem_nil]
      refine ⟨Bool.eq_false_iff.2 fun runs => unconverted (Fcc.mem_convertible.2 runs), fun free off => ?_⟩
      exact unqueued (by rw [queues free]; exact Fcc.mem_queueable.2 off)

/-- In PROTECT and RECOVER a channel is QUEUED only where it was (R115). -/
theorem Fcc.stage_queued (forces : frost = .protect ∨ frost = .recover) {i : Fin 6}
    (queued : ((f.stage order ramp m v frost).channel i).state = .queued) : (f.channel i).state = .queued := by
  have none : f.queuings order m frost = [] := if_pos forces
  rw [Fcc.channel_stage listed, FanChannel.ramped_state] at queued
  rcases Fcc.staged_cases listed order m frost i with ⟨-, -, eq⟩ | ⟨new, -, -⟩ | ⟨-, eq⟩ | ⟨-, -, eq⟩
  · rwa [eq] at queued
  · simp [none] at new
  · simp [eq, FanChannel.toOff] at queued
  · rwa [eq] at queued

/-- A duty channel that is RUNNING after the staging was RUNNING before it, and its command has moved by the ramp
(R123, R125). -/
theorem Fcc.stage_running {i : Fin 6} (runs : ((f.stage order ramp m v frost).channel i).runningAs .duty = true) :
    (f.channel i).state = .running
      ∧ ((f.stage order ramp m v frost).channel i).command = rampToward ramp v (f.channel i).command := by
  rw [Fcc.channel_stage listed, FanChannel.ramped_runningAs] at runs
  have moved : ((f.stage order ramp m v frost).channel i).command
      = rampToward ramp v ((f.staged order m frost).channel i).command := by
    rw [Fcc.channel_stage listed, FanChannel.ramped, if_pos runs]
  rw [moved]
  rcases Fcc.staged_cases listed order m frost i with ⟨-, -, eq⟩ | ⟨-, -, eq⟩ | ⟨-, eq⟩ | ⟨-, -, eq⟩
  all_goals rw [eq] at runs ⊢
  all_goals simp_all [FanChannel.runningAs, FanChannel.toDuty, FanChannel.toQueue, FanChannel.toOff]

end

/-! ### Channels available (R121) -/

theorem Fcc.nAvail_of_same {f g : Fcc} (same : ∀ i, (g.channel i).available = (f.channel i).available) :
    g.nAvail = f.nAvail := by
  simp only [Fcc.nAvail, same]

theorem FanChannel.toOff_available {c : FanChannel} (inHand : c.inHand = true) : c.toOff.available = c.available := by
  have states : c.state ≠ .absent ∧ c.state ≠ .iced := by
    constructor <;> intro h <;> simp [FanChannel.inHand, h] at inHand
  have before : c.available = true := by simpa [FanChannel.available] using states
  rw [before]
  rfl

/-- The forcing leaves every channel available that was (R121). -/
theorem Fcc.nAvail_forced (old new : Role) (f : Fcc) : (f.stopAll (f.forced old new)).nAvail = f.nAvail :=
  Fcc.nAvail_of_same fun i => by
    rw [Fcc.channel_stopAll (f.forced_nodup old new)]
    split
    · next forced =>
      obtain ⟨-, -, inHand, -⟩ := Fcc.mem_forced.1 forced
      exact FanChannel.toOff_available inHand
    · rfl

theorem Fcc.nAvail_stage {f : Fcc} (listed : RunOrderExact f) (order ramp m v : Nat) (frost : FrostState) :
    (f.stage order ramp m v frost).nAvail = f.nAvail :=
  Fcc.nAvail_of_same fun i => by
    rw [Fcc.channel_stage listed, FanChannel.ramped_available]
    rcases Fcc.staged_cases listed order m frost i with ⟨-, -, eq⟩ | ⟨-, off, eq⟩ | ⟨duty, eq⟩ | ⟨-, -, eq⟩
    · rw [eq]; rfl
    · rw [eq, FanChannel.available, FanChannel.available, off]
      rfl
    · rw [eq, FanChannel.toOff_available (Bool.and_eq_true_iff.1 duty).1]
    · rw [eq]

/-! ### The fans at an allotment (R115, R122 to R125, R133) -/

/-- The run-order list stays exact as channels are stopped (R122). -/
theorem RunOrderExact.stopAll {f : Fcc} (listed : RunOrderExact f) {is : List (Fin 6)} (nodup : is.Nodup) :
    RunOrderExact (f.stopAll is) := by
  refine ⟨by rw [Fcc.runOrder_stopAll]; exact listed.1.filter _, fun i => ?_⟩
  rw [Fcc.runOrder_stopAll, List.mem_filter, decide_eq_true_iff, Fcc.channel_stopAll nodup, listed.2]
  split
  · next stopped => simp [stopped, FanChannel.runningAs, FanChannel.toOff]
  · next kept => simp [kept]

/-- The FCC at an allotment issued: forced, staged and ramped (R123 to R125, R133). -/
theorem State.issue_fans (valveFirst : Bool) (l : Latched) (s : State) : (s.issue valveFirst l).fcc
    = (s.fcc.stopAll (s.fcc.forced s.fde.role (s.issue valveFirst l).fde.role)).stage s.params.pairOrder
      s.params.fanRamp (s.record l).m (s.record l).v s.cfm.frost := by
  have role : (s.decideAndRecord l).fde.role = (s.issue valveFirst l).fde.role := (State.issue_role valveFirst l s).symm
  rw [State.issue_fcc, Fcc.told_eq, role]
  rfl

/-- Settles O41: the forcing, the passes of the staging and the ramp, each by the channels that it reaches. -/
theorem fansFollowTheRecord : Obligations.FansFollowTheRecord := by
  intro valveFirst l s latched sound
  refine issued_record latched valveFirst ?_
  have fans := State.issue_fans valveFirst l s
  have nodup := s.fcc.forced_nodup s.fde.role (s.issue valveFirst l).fde.role
  have told := Fcc.channel_stopAll nodup s.fcc
  have toldList := Fcc.runOrder_stopAll (s.fcc.forced s.fde.role (s.issue valveFirst l).fde.role) s.fcc
  have toldPermit := Fcc.permit_stopAll (s.fcc.forced s.fde.role (s.issue valveFirst l).fde.role) s.fcc
  have toldRest := Fcc.sameRest_stopAll (s.fcc.forced s.fde.role (s.issue valveFirst l).fde.role) s.fcc
  have kept := Fcc.stopAll_kept nodup s.fcc
  have toldAvail := Fcc.nAvail_forced s.fde.role (s.issue valveFirst l).fde.role s.fcc
  have listed := RunOrderExact.stopAll sound.2.1 nodup
  simp only [Fcc.mem_forced] at told toldList toldPermit
  generalize s.fcc.stopAll (s.fcc.forced s.fde.role (s.issue valveFirst l).fde.role) = f at *
  have rest := fans ▸ toldRest.trans (Fcc.sameRest_stage listed s.params.pairOrder s.params.fanRamp (s.record l).m
    (s.record l).v s.cfm.frost)
  refine ⟨?_, fun short i => ?_, fun forces i queued => ?_, fun i runs => ?_, rest.1, rest.2.1, rest.2.2, ?_, ?_⟩
  · rw [fans]
    exact Fcc.k_stage_le listed ..
  · rw [fans] at short ⊢
    obtain ⟨converted, queued⟩ := Fcc.stage_exhausts listed _ _ _ _ _ short i
    exact ⟨converted, fun frost => queued (by rcases frost with h | h <;> simp [h])⟩
  · rw [fans] at queued
    have before := Fcc.stage_queued listed _ _ _ _ _ forces queued
    rwa [kept i (by simp [before])] at before
  · rw [fans] at runs ⊢
    obtain ⟨running, command⟩ := Fcc.stage_running listed _ _ _ _ _ runs
    have same := kept i (by simp [running])
    rw [same] at running command
    exact ⟨running, command⟩
  · rw [fans, Fcc.nAvail_stage listed, toldAvail]
  · intro off stands forced before list sequences order k converted queued waiting startingOnes stopped staged ramped
    have before_eq : before = f.channel := funext fun i => (told i).symm
    have list_eq : list = f.runOrder := toldList.symm
    have order_eq : order = f.pairOrder s.params.pairOrder := by
      rw [Fcc.pairOrder, toldRest.1, pairSequence_eq]
      rfl
    have k_eq : k = f.k := List.countP_eq_length_filter.trans (by rw [before_eq]; rfl)
    have converted_eq : converted = f.conversions s.params.pairOrder (s.record l).m := by
      show (order.filter fun i => (before i).runningAs .exercise).take ((s.record l).m - k) = _
      rw [order_eq, before_eq, k_eq]
      rfl
    have queued_eq : queued = f.queuings s.params.pairOrder (s.record l).m s.cfm.frost := by
      show (if s.cfm.frost = .protect ∨ s.cfm.frost = .recover then [] else
        (order.filter fun i => decide ((before i).state = .off)).take ((s.record l).m - k - converted.length)) = _
      rw [order_eq, before_eq, k_eq, converted_eq]
      rfl
    have stopped_eq : stopped = f.stops (s.record l).m := by
      show (((fanChannels.reverse.filter fun i => (before i).queuedAs .duty)
        ++ (fanChannels.filter fun i => (before i).startingDuty) ++ list).take (k - (s.record l).m)) = _
      rw [before_eq, k_eq, list_eq]
      rfl
    have staged_eq : ∀ i, staged i = (f.staged s.params.pairOrder (s.record l).m s.cfm.frost).channel i := fun i => by
      rw [Fcc.channel_staged listed, ← converted_eq, ← queued_eq, ← stopped_eq, ← before_eq]
      rfl
    have ramped_eq : ∀ c, ramped c = c.ramped s.params.fanRamp (s.record l).v := fun c =>
      if_congr (by simp [FanChannel.runningAs]) rfl rfl
    refine ⟨fun i => ?_, ?_, fun i => ?_⟩
    · rw [fans, Fcc.channel_stage listed, ramped_eq, staged_eq]
    · rw [fans, Fcc.stage_eq listed, (Fcc.ramp_order _ _ _).1, Fcc.runOrder_staged listed, list_eq, stopped_eq,
        converted_eq]
    · rw [fans, Fcc.stage_eq listed, (Fcc.ramp_order _ _ _).2, Fcc.permit_staged, toldPermit, stopped_eq, and_assoc]

end Sys2Proof.Machine
end

section
/-! PROOFS. The expiries of T_EXER and T_ICE: the timer's load, the exercise and the ice retry channel by channel (R134,
R137, R138, R154, R156). -/

namespace Sys2Proof.Machine

/-! ### Passes that touch the channels' records alone -/

/-- The two controllers differ in their channels' records alone. -/
def Fcc.SameButChannels (f g : Fcc) : Prop := g = { f with channels := g.channels }

theorem Fcc.SameButChannels.refl (f : Fcc) : f.SameButChannels f := rfl

theorem Fcc.SameButChannels.trans {f g h : Fcc} (first : f.SameButChannels g) (second : g.SameButChannels h) :
    f.SameButChannels h := by
  unfold Fcc.SameButChannels at first second ⊢
  rw [second, first]

theorem Fcc.sameButChannels_foldl {op : Fcc → Fin 6 → Fcc} (step : ∀ (f : Fcc) i, f.SameButChannels (op f i))
    (l : List (Fin 6)) (f : Fcc) : f.SameButChannels (l.foldl op f) :=
  Fcc.foldl_keeps (P := f.SameButChannels) (fun g i h => h.trans (step g i)) l (.refl f)

theorem Fcc.sameButChannels_exercise (frost : FrostState) (f : Fcc) : f.SameButChannels (f.exercise frost) :=
  Fcc.sameButChannels_foldl (fun g i => by unfold Fcc.exerciseOne; (repeat' split) <;> rfl) _ f

theorem Fcc.sameButChannels_iceRetry (f : Fcc) : f.SameButChannels f.iceRetry :=
  Fcc.sameButChannels_foldl (fun g i => by unfold Fcc.retryOne; split <;> rfl) _ f

/-! ### The timer's part (R154, R156) -/

/-- A repeating timer at its expiry: its count, and its load. -/
theorem State.timer_expire_repeating {id : TimerId} (repeats : id.repeating = true) (s : State) :
    (s.expire id).timer id
      = Timer.load (s.timerParams id) { s.timer id with expiries := satInc 65535 (s.timer id).expiries } := by
  simp [State.timer_expire, Timer.expire, repeats]

/-! ### The exercise (R134) -/

theorem FanChannel.exerciseFan_of_on {c : FanChannel} (on : c.state ≠ .off) (frost : FrostState) :
    c.exerciseFan frost = c := if_neg on

theorem FanChannel.exerciseFan_clear {c : FanChannel} (off : c.state = .off) :
    c.exerciseFan .clear = { c with state := .queued, cls := some .exercise } := if_pos off

/-- A deferral short of the fourth counts, and leaves the ice-suspect flag as it is. -/
theorem FanChannel.exerciseFan_defers {c : FanChannel} {frost : FrostState} (off : c.state = .off)
    (frosty : frost ≠ .clear) (few : c.deferrals < 3) :
    c.exerciseFan frost = { c with deferrals := c.deferrals + 1 } := by
  have below : c.deferrals < 4 := by omega
  simp [FanChannel.exerciseFan, off, frosty, satInc, below, Nat.not_le.2 few]

/-- The fourth deferral and those after it leave the channel ice-suspect. -/
theorem FanChannel.exerciseFan_suspects {c : FanChannel} {frost : FrostState} (off : c.state = .off)
    (frosty : frost ≠ .clear) (many : c.deferrals = 3 ∨ c.deferrals = 4) :
    c.exerciseFan frost = { c with deferrals := 4, iceSuspect := true } := by
  rcases many with count | count <;> simp [FanChannel.exerciseFan, off, frosty, satInc, count]

/-- The exercise touches the channels' records alone. -/
theorem State.exercise_eq (s : State) :
    s.exercise = { s with fcc := { s.fcc with channels := s.exercise.fcc.channels } } := by
  by_cases rests : s.fde.role = .resting
  · have result : s.exercise = { s with fcc := s.fcc.exercise s.cfm.frost } := if_pos rests
    rw [result]
    exact congrArg (fun f => { s with fcc := f }) (Fcc.sameButChannels_exercise s.cfm.frost s.fcc)
  · have result : s.exercise = s := if_neg rests
    rw [result]

/-! ### The ice retry (R137, R138) -/

/-- The ice retry at a channel. -/
def FanChannel.retryIce (c : FanChannel) : FanChannel :=
  if c.state = .iced then { c with state := .queued, cls := some .exercise, iceSuspect := true, retries := 0 } else c

theorem Fcc.channel_iceRetry (f : Fcc) (i : Fin 6) : f.iceRetry.channel i = (f.channel i).retryIce := by
  refine (Fcc.channel_foldl (g := FanChannel.retryIce) (fun f i j => ?_) (by decide) f i).trans
    (if_pos (mem_fanChannels i))
  unfold Fcc.retryOne FanChannel.retryIce
  split
  · exact Fcc.channel_modify i j _ f
  · split
    · next same => rw [same]
    · rfl

/-- After the ice retry no channel is ICED. -/
theorem Fcc.anyIced_iceRetry (f : Fcc) : f.iceRetry.anyIced = false := by
  rw [← Bool.not_eq_true, Fcc.anyIced_iff]
  rintro ⟨i, iced⟩
  rw [Fcc.channel_iceRetry, FanChannel.retryIce] at iced
  split at iced
  · simp at iced
  · next other => exact other iced

/-- FAN_ICE after its report is live exactly while a channel is ICED (R138). -/
theorem State.reportIce_live (s : State) : hasAlert s.reportIce.aou.live .fanIce = s.fcc.anyIced := by
  rw [State.reportIce, State.report, State.reportLive_live, hasAlert_putAlert, if_pos rfl]

/-- The air is mild by the latest set that was published, where there is one (R137). -/
theorem State.mildAir_iff (s : State) : s.mildAir = true
    ↔ ∃ set, s.ssc.scanSet = some set ∧ (set.ta.ok = false ∨ s.params.iceAmbient ≤ set.ta.value) := by
  unfold State.mildAir
  cases s.ssc.scanSet <;> simp

theorem Role.retriesIce_iff (r : Role) : r.retriesIce = true ↔ r = .resting ∨ r = .carrying ∨ r = .shedding := by
  cases r <;> simp [Role.retriesIce]

/-- An ice retry that R137 makes: the channels' records, with FAN_ICE clear (R138). -/
theorem State.iceExpired_retries {s : State}
    (retries : s.mildAir = true ∧ s.cfm.frost = .clear ∧ s.fde.role.retriesIce = true) :
    s.iceExpired = { s with
        fcc := { s.fcc with channels := s.iceExpired.fcc.channels }, aou := s.iceExpired.aou }
      ∧ s.iceExpired.fcc = s.fcc.iceRetry ∧ hasAlert s.iceExpired.aou.live .fanIce = false := by
  have result : s.iceExpired = State.reportIce { s with fcc := s.fcc.iceRetry } := if_pos retries
  have only := Fcc.sameButChannels_iceRetry s.fcc
  have thawed := Fcc.anyIced_iceRetry s.fcc
  rw [result]
  generalize s.fcc.iceRetry = f at only thawed ⊢
  have report : State.reportIce { s with fcc := f }
      = { s with fcc := f, aou := (State.reportIce { s with fcc := f }).aou } := rfl
  refine ⟨report.trans ?_, rfl, (State.reportIce_live _).trans thawed⟩
  exact congrArg (fun g => { s with fcc := g, aou := (State.reportIce { s with fcc := f }).aou }) only

/-- Settles O46: each expiry loads its timer; the exercise and the ice retry reach the channels one by one. -/
theorem fanTimerExpiriesQueueTheFans : Obligations.FanTimerExpiriesQueueTheFans := by
  intro s again mild retries
  refine ⟨fun due => ?_, fun due => ?_⟩
  · refine ⟨_, congrArg Host.Outcome.next (State.takeExpiry_of_due due _), ?_⟩
    have itb : (s.expire .exer).exercise.itb = (s.expire .exer).itb := by simp
    have bank : ∀ a, (s.expire .exer).exercise.timer a = (s.expire .exer).timer a := State.timer_congr itb
    have fans := State.exercise_fcc (s.expire .exer)
    refine ⟨?_, ?_, fun id other => ?_, fun other => ?_, fun rests i => ?_⟩
    · rw [itb]
      exact State.exercise_eq (s.expire .exer)
    · exact (bank _).trans (State.timer_expire_repeating rfl s)
    · exact (bank _).trans (State.timer_expire_ne other s)
    · exact fans.trans (if_neg other)
    · have channel : (s.expire .exer).exercise.fcc.channel i = (s.fcc.channel i).exerciseFan s.cfm.frost := by
        rw [fans, if_pos (show (s.expire .exer).fde.role = .resting from rests)]
        exact Fcc.channel_exercise _ _ i
      rw [channel]
      exact ⟨fun on => FanChannel.exerciseFan_of_on on _, fun off clear => clear ▸ FanChannel.exerciseFan_clear off,
        FanChannel.exerciseFan_defers, FanChannel.exerciseFan_suspects⟩
  · refine ⟨_, congrArg Host.Outcome.next (State.takeExpiry_of_due due _), ?_⟩
    have load := State.timer_expire_repeating (id := .ice) rfl s
    have others : ∀ id, id ≠ .ice → (s.expire .ice).timer id = s.timer id := fun id h => State.timer_expire_ne h s
    have condition : retries ↔ (s.expire .ice).mildAir = true ∧ (s.expire .ice).cfm.frost = .clear
        ∧ (s.expire .ice).fde.role.retriesIce = true := by
      rw [State.mildAir_iff, Role.retriesIce_iff]
      rfl
    by_cases retry : retries
    · obtain ⟨whole, fans, thawed⟩ := State.iceExpired_retries (condition.1 retry)
      have itb : (s.expire .ice).iceExpired.itb = (s.expire .ice).itb := by simp
      have bank : ∀ a, (s.expire .ice).iceExpired.timer a = (s.expire .ice).timer a := State.timer_congr itb
      refine ⟨?_, (bank _).trans load, fun id h => (bank id).trans (others id h), fun h => absurd retry h,
        fun _ => ⟨thawed, fun i => ?_⟩⟩
      · rw [itb]
        exact whole
      · have channel : (s.expire .ice).iceExpired.fcc.channel i = (s.fcc.channel i).retryIce := by
          rw [fans]
          exact Fcc.channel_iceRetry s.fcc i
        rw [channel]
        exact ⟨fun other => if_neg other, fun iced => if_pos iced⟩
    · have result : (s.expire .ice).iceExpired = s.expire .ice := if_neg fun h => retry (condition.2 h)
      rw [result]
      exact ⟨rfl, load, others, fun _ => ⟨rfl, rfl⟩, fun h => absurd h retry⟩

end Sys2Proof.Machine
end

section
/-! PROOFS. The tach measurement: what it makes of each channel's record, of the run-order list and of the permit (R122,
R129 to R132). -/

namespace Sys2Proof.Machine

/-! ### One channel's record (R129 to R132) -/

/-- A start that a whole measurement ends: the fan turns (R130, R131). -/
def FanChannel.succeeds (rated speed : Nat) (c : FanChannel) : Bool :=
  c.judged && decide (10 ≤ c.phaseCount) && turnsAt rated speed

/-- A RUNNING channel whose third slow measurement this is (R132). -/
def FanChannel.stalls (rated speed : Nat) (c : FanChannel) : Bool :=
  c.state == .running && slowAt rated c.command speed && decide (2 ≤ c.stallRun)

/-- The stall run of a RUNNING channel that does not stall (R132). -/
def FanChannel.tallied (rated speed : Nat) (c : FanChannel) : FanChannel :=
  if c.state = .running then { c with stallRun := if slowAt rated c.command speed then c.stallRun + 1 else 0 } else c

/-- A record after its measurement was judged. -/
def FanChannel.judgedAt (rated exerciseSpeed speed : Nat) (c : FanChannel) : FanChannel :=
  if c.succeeds rated speed then c.toRunning exerciseSpeed
  else if c.stalls rated speed then c.toStalled
  else c.tallied rated speed

/-- A record after a tach measurement completion. -/
def FanChannel.measuredAt (rated exerciseSpeed speed stored : Nat) (c : FanChannel) : FanChannel :=
  if c.state = .absent then c else FanChannel.judgedAt rated exerciseSpeed speed { c with speed := stored }

theorem FanChannel.judged_iff (c : FanChannel) :
    c.judged = true ↔ c.state = .starting ∨ (c.state = .kick ∧ c.phase = some .check) := by
  simp [FanChannel.judged]

theorem FanChannel.succeeds_iff {rated speed : Nat} {c : FanChannel} : c.succeeds rated speed = true
    ↔ (c.state = .starting ∨ (c.state = .kick ∧ c.phase = some .check))
      ∧ 10 ≤ c.phaseCount ∧ 15 * rated ≤ 100 * speed := by
  simp [FanChannel.succeeds, FanChannel.judged_iff, turnsAt, and_assoc, Nat.mul_comm]

theorem FanChannel.stalls_iff {rated speed : Nat} {c : FanChannel} : c.stalls rated speed = true
    ↔ c.state = .running ∧ speed * 2000 < rated * c.command ∧ 2 ≤ c.stallRun := by
  simp [FanChannel.stalls, slowAt, and_assoc]

/-- A RUNNING channel is judged for stall, not for turning. -/
theorem FanChannel.not_judged_of_running {c : FanChannel} (running : c.state = .running) : c.judged = false := by
  simp [FanChannel.judged, running]

theorem FanChannel.not_running_of_judged {c : FanChannel} (judged : c.judged = true) : c.state ≠ .running :=
  fun running => by simp [FanChannel.not_judged_of_running running] at judged

theorem FanChannel.judged_of_succeeds {rated speed : Nat} {c : FanChannel} (succeeds : c.succeeds rated speed = true) :
    c.judged = true := c.judged_iff.2 (FanChannel.succeeds_iff.1 succeeds).1

theorem FanChannel.running_of_stalls {rated speed : Nat} {c : FanChannel} (stalls : c.stalls rated speed = true) :
    c.state = .running := (FanChannel.stalls_iff.1 stalls).1

theorem FanChannel.not_stalls_of_judged {c : FanChannel} (judged : c.judged = true) (rated speed : Nat) :
    c.stalls rated speed = false :=
  Bool.eq_false_iff.2 fun stalls => FanChannel.not_running_of_judged judged (FanChannel.running_of_stalls stalls)

theorem FanChannel.not_succeeds_of_not_judged {c : FanChannel} (other : c.judged = false) (rated speed : Nat) :
    c.succeeds rated speed = false := by simp [FanChannel.succeeds, other]

theorem FanChannel.tallied_of_not_running {c : FanChannel} (still : c.state ≠ .running) (rated speed : Nat) :
    c.tallied rated speed = c := if_neg still

/-- A judgement that neither starts nor stalls the channel. -/
theorem FanChannel.judgedAt_tallied {rated speed : Nat} {c : FanChannel} (fails : c.succeeds rated speed = false)
    (runs : c.stalls rated speed = false) (exerciseSpeed : Nat) :
    c.judgedAt rated exerciseSpeed speed = c.tallied rated speed := by simp [FanChannel.judgedAt, fails, runs]

/-- A judgement that stalls the channel. -/
theorem FanChannel.judgedAt_stalls {rated speed : Nat} {c : FanChannel} (stalls : c.stalls rated speed = true)
    (exerciseSpeed : Nat) : c.judgedAt rated exerciseSpeed speed = c.toStalled := by
  have judged := FanChannel.not_judged_of_running (FanChannel.running_of_stalls stalls)
  simp [FanChannel.judgedAt, FanChannel.not_succeeds_of_not_judged judged, stalls]

theorem FanChannel.judgedAt_available (rated exerciseSpeed speed : Nat) (c : FanChannel) :
    (c.judgedAt rated exerciseSpeed speed).available = c.available := by
  have inHand : c.inHand = true → c.available = true := fun h => by
    refine Bool.and_eq_true_iff.2 ⟨bne_iff_ne.2 fun absent => ?_, ?_⟩
    · simp [FanChannel.inHand, absent] at h
    · exact bne_iff_ne.2 (FanChannel.state_ne_iced_of_inHand h)
  unfold FanChannel.judgedAt
  split
  · next succeeds =>
    have judged := FanChannel.judged_of_succeeds succeeds
    rw [inHand (by rcases c.judged_iff.1 judged with h | h <;> simp [FanChannel.inHand, h])]
    rfl
  · split
    · next stalls =>
      rw [inHand (by simp [FanChannel.inHand, FanChannel.running_of_stalls stalls])]
      rfl
    · unfold FanChannel.tallied
      split <;> rfl

/-! ### One record after a completion -/

section
variable {rated exerciseSpeed speed stored : Nat} {c : FanChannel}

theorem FanChannel.measuredAt_fitted (fitted : c.state ≠ .absent) : c.measuredAt rated exerciseSpeed speed stored
    = FanChannel.judgedAt rated exerciseSpeed speed { c with speed := stored } := if_neg fitted

theorem FanChannel.measuredAt_speed (fitted : c.state ≠ .absent) :
    (c.measuredAt rated exerciseSpeed speed stored).speed = stored := by
  rw [FanChannel.measuredAt_fitted fitted]
  unfold FanChannel.judgedAt FanChannel.tallied
  repeat' split
  all_goals rfl

theorem FanChannel.measuredAt_available :
    (c.measuredAt rated exerciseSpeed speed stored).available = c.available := by
  unfold FanChannel.measuredAt
  split
  · rfl
  · exact FanChannel.judgedAt_available _ _ _ _

/-- A start that succeeds (R130, R131, R135). -/
theorem FanChannel.measuredAt_succeeds (succeeds : c.succeeds rated speed = true) :
    c.measuredAt rated exerciseSpeed speed stored = { c with
      state := .running, phase := none, phaseCount := 0, retries := 0, stallRun := 0
      deferrals := 0, iceSuspect := false, speed := stored
      command := if c.cls = some .duty then c.command else exerciseSpeed } := by
  have fitted : c.state ≠ .absent := fun absent => by
    simpa [absent] using c.judged_iff.1 (FanChannel.judged_of_succeeds succeeds)
  rw [FanChannel.measuredAt_fitted fitted]
  exact if_pos succeeds

/-- A third slow measurement (R132). -/
theorem FanChannel.measuredAt_stalls (stalls : c.stalls rated speed = true) :
    c.measuredAt rated exerciseSpeed speed stored = { c with
      state := .queued, command := 0, phaseCount := 0, stallRun := 0, iceSuspect := true, speed := stored } := by
  have fitted : c.state ≠ .absent := by simp [FanChannel.running_of_stalls stalls]
  rw [FanChannel.measuredAt_fitted fitted]
  exact FanChannel.judgedAt_stalls (c := { c with speed := stored }) stalls exerciseSpeed

/-- A channel that is neither started nor stalled, and not RUNNING, takes its speed alone. -/
theorem FanChannel.measuredAt_rests (fitted : c.state ≠ .absent) (still : c.state ≠ .running)
    (fails : c.succeeds rated speed = false) :
    c.measuredAt rated exerciseSpeed speed stored = { c with speed := stored } := by
  have runs : c.stalls rated speed = false :=
    Bool.eq_false_iff.2 fun stalls => still (FanChannel.running_of_stalls stalls)
  rw [FanChannel.measuredAt_fitted fitted, FanChannel.judgedAt_tallied (c := { c with speed := stored }) fails runs]
  exact FanChannel.tallied_of_not_running (c := { c with speed := stored }) still _ _

/-- A RUNNING channel that does not stall (R132). -/
theorem FanChannel.measuredAt_runs (running : c.state = .running) (runs : c.stalls rated speed = false) :
    c.measuredAt rated exerciseSpeed speed stored
      = { c with speed := stored, stallRun := if speed * 2000 < rated * c.command then c.stallRun + 1 else 0 } := by
  have fails := FanChannel.not_succeeds_of_not_judged (FanChannel.not_judged_of_running running) rated speed
  rw [FanChannel.measuredAt_fitted (by simp [running]),
    FanChannel.judgedAt_tallied (c := { c with speed := stored }) fails runs]
  simp [FanChannel.tallied, running, slowAt]

end

/-! ### One channel's judgement in the controller (R122, R128, R130 to R132) -/

theorem Fcc.modify_of_fixed {i : Fin 6} {g : FanChannel → FanChannel} {f : Fcc}
    (fixed : g (f.channel i) = f.channel i) : f.modify i g = f := by
  rw [Fcc.modify, fixed]
  simp [Fcc.channel]

theorem Fcc.modify_congr {i : Fin 6} {g h : FanChannel → FanChannel} {f : Fcc}
    (same : g (f.channel i) = h (f.channel i)) : f.modify i g = f.modify i h := by
  rw [Fcc.modify, same, Fcc.modify]

/-- The third slow measurement of a run stalls a RUNNING channel, and another counts (R132). -/
theorem Fcc.slow_eq {rated speed : Nat} {i : Fin 6} {f : Fcc} (running : (f.channel i).state = .running)
    (slow : slowAt rated (f.channel i).command speed = true) : f.slow i
      = if (f.channel i).stalls rated speed then (f.modify i FanChannel.toStalled).leave i
        else f.modify i (FanChannel.tallied rated speed) := by
  have third : 3 ≤ (f.channel i).stallRun + 1 ↔ (f.channel i).stalls rated speed = true := by
    simp [FanChannel.stalls, running, slow]
  unfold Fcc.slow
  refine if_congr third rfl (Fcc.modify_congr ?_)
  simp [FanChannel.tallied, running, slow]

/-- A judgement starts the channel, stalls it, or leaves its stall run. -/
theorem Fcc.judge_eq (rated exerciseSpeed speed : Nat) (i : Fin 6) (f : Fcc) :
    f.judge rated exerciseSpeed speed i
      = if (f.channel i).succeeds rated speed then f.enterRunning exerciseSpeed i
        else if (f.channel i).stalls rated speed then (f.modify i FanChannel.toStalled).leave i
        else f.modify i (FanChannel.tallied rated speed) := by
  unfold Fcc.judge
  by_cases judged : (f.channel i).judged = true
  · have succeeds : (f.channel i).succeeds rated speed = true
        ↔ 10 ≤ (f.channel i).phaseCount ∧ turnsAt rated speed = true := by simp [FanChannel.succeeds, judged]
    have kept : f.modify i (FanChannel.tallied rated speed) = f :=
      Fcc.modify_of_fixed (FanChannel.tallied_of_not_running (FanChannel.not_running_of_judged judged) _ _)
    rw [if_pos judged, FanChannel.not_stalls_of_judged judged, if_neg Bool.false_ne_true, kept]
    exact if_congr succeeds.symm rfl rfl
  · have other : (f.channel i).judged = false := Bool.eq_false_iff.2 judged
    rw [if_neg judged, FanChannel.not_succeeds_of_not_judged other, if_neg Bool.false_ne_true]
    by_cases running : (f.channel i).state = .running
    · rw [if_pos running]
      by_cases slow : slowAt rated (f.channel i).command speed = true
      · rw [if_pos slow, Fcc.slow_eq running slow]
      · have runs : (f.channel i).stalls rated speed = false := by simp [FanChannel.stalls, slow]
        rw [if_neg slow, runs, if_neg Bool.false_ne_true]
        exact Fcc.modify_congr (by simp [FanChannel.tallied, running, slow])
    · have runs : (f.channel i).stalls rated speed = false :=
        Bool.eq_false_iff.2 fun stalls => running (FanChannel.running_of_stalls stalls)
      rw [if_neg running, runs, if_neg Bool.false_ne_true]
      exact (Fcc.modify_of_fixed (FanChannel.tallied_of_not_running running _ _)).symm

/-- A start that succeeds (R122, R128, R130, R131). -/
theorem Fcc.enterRunning_spec (exerciseSpeed : Nat) (i : Fin 6) (f : Fcc) :
    (∀ j, (f.enterRunning exerciseSpeed i).channel j
        = if j = i then (f.channel i).toRunning exerciseSpeed else f.channel j)
      ∧ (f.enterRunning exerciseSpeed i).runOrder
        = f.runOrder ++ (if (f.channel i).cls = some .duty then [i] else [])
      ∧ (∀ j, (f.enterRunning exerciseSpeed i).permit = some j ↔ f.permit = some j ∧ j ≠ i)
      ∧ f.SameRest (f.enterRunning exerciseSpeed i) := by
  have permit := Fcc.permit_release i (f.modify i (FanChannel.toRunning exerciseSpeed))
  unfold Fcc.enterRunning
  dsimp only
  split
  · exact ⟨fun j => by simp, by simp, permit, rfl, rfl, rfl⟩
  · exact ⟨fun j => by simp, by simp, permit, rfl, rfl, rfl⟩

/-- One channel's judgement: the record, the list, the permit and what it leaves. -/
theorem Fcc.judge_spec (rated exerciseSpeed speed : Nat) (i : Fin 6) (f : Fcc) :
    (∀ j, (f.judge rated exerciseSpeed speed i).channel j
        = if j = i then (f.channel i).judgedAt rated exerciseSpeed speed else f.channel j)
      ∧ (f.judge rated exerciseSpeed speed i).runOrder
        = (f.runOrder.filter fun j => decide (j = i → (f.channel i).stalls rated speed = false))
          ++ (if (f.channel i).succeeds rated speed = true ∧ (f.channel i).cls = some .duty then [i] else [])
      ∧ (∀ j, (f.judge rated exerciseSpeed speed i).permit = some j
        ↔ f.permit = some j ∧ (j = i → (f.channel i).succeeds rated speed = false))
      ∧ f.SameRest (f.judge rated exerciseSpeed speed i) := by
  have whole : (f.runOrder.filter fun j => decide (j = i → false = false)) = f.runOrder := by simp
  rw [Fcc.judge_eq, FanChannel.judgedAt]
  by_cases succeeds : (f.channel i).succeeds rated speed = true
  · obtain ⟨channel, list, permit, rest⟩ := Fcc.enterRunning_spec exerciseSpeed i f
    rw [FanChannel.not_stalls_of_judged (FanChannel.judged_of_succeeds succeeds), whole]
    simp only [succeeds, if_true, true_and]
    exact ⟨channel, list, fun j => by simp [permit], rest⟩
  · have fails : (f.channel i).succeeds rated speed = false := Bool.eq_false_iff.2 succeeds
    by_cases stalls : (f.channel i).stalls rated speed = true
    · have others : (f.runOrder.filter fun j => decide (j = i → true = false)) = f.runOrder.filter (· != i) :=
        List.filter_congr fun j _ => by by_cases j = i <;> simp [*]
      simp only [fails, stalls, Bool.false_eq_true, if_true, if_false, false_and, List.append_nil]
      exact ⟨fun j => by simp, others.symm, fun j => by simp, rfl, rfl, rfl⟩
    · have runs : (f.channel i).stalls rated speed = false := Bool.eq_false_iff.2 stalls
      simp only [fails, runs, Bool.false_eq_true, if_false, false_and, List.append_nil]
      exact ⟨fun j => by simp, by simp, fun j => by simp, rfl, rfl, rfl⟩

/-- One channel at a completion: the record, the list, the permit and what it leaves. -/
theorem Fcc.measure_spec (rated exerciseSpeed : Nat) (measured stored : Fin 6 → Nat) (i : Fin 6) (f : Fcc) :
    (∀ j, (f.measure rated exerciseSpeed measured stored i).channel j
        = if j = i then (f.channel i).measuredAt rated exerciseSpeed (measured i) (stored i) else f.channel j)
      ∧ (f.measure rated exerciseSpeed measured stored i).runOrder
        = (f.runOrder.filter fun j => decide (j = i → (f.channel i).stalls rated (measured i) = false))
          ++ (if (f.channel i).succeeds rated (measured i) = true ∧ (f.channel i).cls = some .duty then [i] else [])
      ∧ (∀ j, (f.measure rated exerciseSpeed measured stored i).permit = some j
        ↔ f.permit = some j ∧ (j = i → (f.channel i).succeeds rated (measured i) = false))
      ∧ f.SameRest (f.measure rated exerciseSpeed measured stored i) := by
  unfold Fcc.measure
  split
  · next absent =>
    have fails : (f.channel i).succeeds rated (measured i) = false :=
      FanChannel.not_succeeds_of_not_judged (by simp [FanChannel.judged, absent]) _ _
    have runs : (f.channel i).stalls rated (measured i) = false := by simp [FanChannel.stalls, absent]
    have same : (f.channel i).measuredAt rated exerciseSpeed (measured i) (stored i) = f.channel i := if_pos absent
    rw [same, fails, runs]
    refine ⟨fun j => ?_, by simp, fun j => by simp, .refl f⟩
    split
    · next eq => rw [eq]
    · rfl
  · next fitted =>
    obtain ⟨channel, list, permit, rest⟩ := Fcc.judge_spec rated exerciseSpeed (measured i) i
      (f.modify i fun c => { c with speed := stored i })
    have record : (f.modify i fun c => { c with speed := stored i }).channel i
        = { f.channel i with speed := stored i } := by simp
    rw [record] at channel list permit
    refine ⟨fun j => ?_, list, permit, rest⟩
    rw [channel, FanChannel.measuredAt_fitted fitted]
    split
    · rfl
    · next other => rw [Fcc.channel_modify, if_neg other]

/-! ### The pass over the channels (R122, R127, R129) -/

section
variable {op : Fcc → Fin 6 → Fcc} {l : List (Fin 6)}

/-- A pass each of whose steps replaces its channel's record by a function of it and of its number. -/
theorem Fcc.channel_foldl_of_number {g : Fin 6 → FanChannel → FanChannel}
    (step : ∀ (f : Fcc) i j, (op f i).channel j = if j = i then g i (f.channel i) else f.channel j)
    (nodup : l.Nodup) (f : Fcc) (j : Fin 6) :
    (l.foldl op f).channel j = if j ∈ l then g j (f.channel j) else f.channel j := by
  induction l generalizing f with
  | nil => simp
  | cons i l ih =>
    obtain ⟨fresh, rest⟩ := List.nodup_cons.1 nodup
    rw [List.foldl_cons, ih rest, step]
    by_cases same : j = i
    · subst same; simp [fresh]
    · simp [same]

/-- A pass whose channels leave the permit as their records say. -/
theorem Fcc.permit_foldl {frees : Fin 6 → FanChannel → Bool}
    (step : ∀ (f : Fcc) i j, (op f i).permit = some j
      ↔ f.permit = some j ∧ (j = i → frees i (f.channel i) = false))
    (others : ∀ (f : Fcc) i j, j ≠ i → (op f i).channel j = f.channel j) (nodup : l.Nodup) (f : Fcc) (j : Fin 6) :
    (l.foldl op f).permit = some j ↔ f.permit = some j ∧ (j ∈ l → frees j (f.channel j) = false) := by
  induction l generalizing f with
  | nil => simp
  | cons i l ih =>
    obtain ⟨fresh, rest⟩ := List.nodup_cons.1 nodup
    rw [List.foldl_cons, ih rest, step, List.mem_cons]
    by_cases same : j = i
    · subst same; simp [fresh]
    · simp [same, others f i j same]

/-- A pass whose channels leave the run-order list, and join its tail, as their records say. -/
theorem Fcc.runOrder_foldl {leaves joins : Fin 6 → FanChannel → Bool}
    (step : ∀ (f : Fcc) i, (op f i).runOrder
      = (f.runOrder.filter fun j => decide (j = i → leaves i (f.channel i) = false))
        ++ (if joins i (f.channel i) = true then [i] else []))
    (others : ∀ (f : Fcc) i j, j ≠ i → (op f i).channel j = f.channel j) (nodup : l.Nodup) (f : Fcc) :
    (l.foldl op f).runOrder = (f.runOrder.filter fun j => decide (j ∈ l → leaves j (f.channel j) = false))
      ++ l.filter fun j => joins j (f.channel j) := by
  induction l generalizing f with
  | nil => simp
  | cons i l ih =>
    obtain ⟨fresh, rest⟩ := List.nodup_cons.1 nodup
    have same : ∀ j ∈ l, (op f i).channel j = f.channel j := fun j hj =>
      others f i j (ne_of_mem_of_not_mem hj fresh)
    have joined : (l.filter fun j => joins j ((op f i).channel j)) = l.filter fun j => joins j (f.channel j) :=
      List.filter_congr fun j hj => by rw [same j hj]
    have left : ((f.runOrder.filter fun j => decide (j = i → leaves i (f.channel i) = false)).filter fun j =>
          decide (j ∈ l → leaves j ((op f i).channel j) = false))
        = f.runOrder.filter fun j => decide (j ∈ i :: l → leaves j (f.channel j) = false) := by
      rw [List.filter_filter]
      refine List.filter_congr fun j _ => ?_
      by_cases here : j = i
      · subst here; simp [fresh]
      · by_cases later : j ∈ l
        · simp [here, later, same j later]
        · simp [here, later]
    have own : ((if joins i (f.channel i) = true then [i] else []).filter fun j =>
          decide (j ∈ l → leaves j ((op f i).channel j) = false))
        = if joins i (f.channel i) = true then [i] else [] := by
      split <;> simp [fresh]
    rw [List.foldl_cons, ih rest, step, List.filter_append, left, own, joined, List.append_assoc]
    congr 1
    by_cases joining : joins i (f.channel i) = true <;> simp [joining]

end

/-! ### The completion (R122, R129 to R132) -/

section
variable (rated exerciseSpeed : Nat) (measured stored : Fin 6 → Nat) (f : Fcc)

theorem Fcc.channel_tach (i : Fin 6) : (f.tach rated exerciseSpeed measured stored).channel i
    = (f.channel i).measuredAt rated exerciseSpeed (measured i) (stored i) :=
  (Fcc.channel_foldl_of_number (g := fun i => FanChannel.measuredAt rated exerciseSpeed (measured i) (stored i))
    (fun f i => (Fcc.measure_spec rated exerciseSpeed measured stored i f).1) (by decide) _ i).trans
    (if_pos (mem_fanChannels i))

/-- A record's judgement leaves the others. -/
theorem Fcc.measure_others (i j : Fin 6) (other : j ≠ i) :
    (f.measure rated exerciseSpeed measured stored i).channel j = f.channel j :=
  ((Fcc.measure_spec rated exerciseSpeed measured stored i f).1 j).trans (if_neg other)

theorem Fcc.permit_tach (i : Fin 6) : (f.tach rated exerciseSpeed measured stored).permit = some i
    ↔ f.permit = some i ∧ (f.channel i).succeeds rated (measured i) = false := by
  have pass := Fcc.permit_foldl (frees := fun i c => c.succeeds rated (measured i))
    (fun f i => by
      obtain ⟨-, -, permit, -⟩ := Fcc.measure_spec rated exerciseSpeed measured stored i f
      exact permit)
    (Fcc.measure_others rated exerciseSpeed measured stored) (by decide : fanChannels.Nodup)
    { f with tachDue := false } i
  exact pass.trans (and_congr_right fun _ => ⟨fun h => h (mem_fanChannels i), fun h _ => h⟩)

theorem Fcc.runOrder_tach : (f.tach rated exerciseSpeed measured stored).runOrder
    = (f.runOrder.filter fun i => !(f.channel i).stalls rated (measured i))
      ++ fanChannels.filter fun i => (f.channel i).succeeds rated (measured i) && (f.channel i).cls == some .duty := by
  have pass := Fcc.runOrder_foldl (leaves := fun i c => c.stalls rated (measured i))
    (joins := fun i c => c.succeeds rated (measured i) && c.cls == some .duty)
    (fun f i => by
      obtain ⟨-, list, -⟩ := Fcc.measure_spec rated exerciseSpeed measured stored i f
      simpa using list)
    (Fcc.measure_others rated exerciseSpeed measured stored) (by decide : fanChannels.Nodup) { f with tachDue := false }
  refine pass.trans (congrArg (· ++ _) (List.filter_congr fun i _ => ?_))
  simp [mem_fanChannels, Fcc.channel]

theorem Fcc.tach_rest : (f.tach rated exerciseSpeed measured stored).bits = f.bits
    ∧ (f.tach rated exerciseSpeed measured stored).intervals = f.intervals
    ∧ (f.tach rated exerciseSpeed measured stored).tachDue = false :=
  Fcc.sameRest_foldl (fun f i => by
    obtain ⟨-, -, -, rest⟩ := Fcc.measure_spec rated exerciseSpeed measured stored i f
    exact rest) _ { f with tachDue := false }

theorem Fcc.nAvail_tach : (f.tach rated exerciseSpeed measured stored).nAvail = f.nAvail :=
  Fcc.nAvail_of_same fun i => by rw [Fcc.channel_tach, FanChannel.measuredAt_available]

/-- A tach measurement completion in the whole controller. -/
theorem Fcc.tach_spec : (∀ i, (f.tach rated exerciseSpeed measured stored).channel i
      = (f.channel i).measuredAt rated exerciseSpeed (measured i) (stored i))
    ∧ (f.tach rated exerciseSpeed measured stored).runOrder
      = (f.runOrder.filter fun i => !(f.channel i).stalls rated (measured i))
        ++ fanChannels.filter (fun i => (f.channel i).succeeds rated (measured i) && (f.channel i).cls == some .duty)
    ∧ (∀ i, (f.tach rated exerciseSpeed measured stored).permit = some i
      ↔ f.permit = some i ∧ (f.channel i).succeeds rated (measured i) = false)
    ∧ (f.tach rated exerciseSpeed measured stored).bits = f.bits
    ∧ (f.tach rated exerciseSpeed measured stored).intervals = f.intervals
    ∧ (f.tach rated exerciseSpeed measured stored).tachDue = false
    ∧ (f.tach rated exerciseSpeed measured stored).nAvail = f.nAvail := by
  obtain ⟨bits, intervals, taken⟩ := Fcc.tach_rest rated exerciseSpeed measured stored f
  exact ⟨Fcc.channel_tach _ _ _ _ f, Fcc.runOrder_tach _ _ _ _ f, Fcc.permit_tach _ _ _ _ f, bits, intervals, taken,
    Fcc.nAvail_tach _ _ _ _ f⟩

end

/-- An item that holds its measured speed stores it (R120). -/
theorem storedSpeed_of_le {speed : Nat} (fits : speed ≤ 65535) (free channel : Nat) :
    storedSpeed free channel speed = speed := if_pos fits

/-- Settles O50: each channel's record by its own judgement, and with it its place in the list and the permit. -/
theorem tachMeasurementJudgesTheChannels : Obligations.TachMeasurementJudgesTheChannels := by
  intro edges s due
  refine ⟨_, if_pos due, ?_⟩
  obtain ⟨channel, list, permit, bits, intervals, taken, avail⟩ := Fcc.tach_spec s.params.ratedSpeed
    s.params.exerciseSpeed (fun i => measuredSpeed s.params.tachPulses edges[i])
    (fun i => storedSpeed s.freeCount i.val (measuredSpeed s.params.tachPulses edges[i])) s.fcc
  dsimp only
  generalize s.fcc.tach s.params.ratedSpeed s.params.exerciseSpeed _ _ = f at *
  refine ⟨rfl, taken, bits, avail, intervals, ⟨fun _ => list.trans ?_, fun i => (permit i).trans ?_⟩,
    fun i => ⟨fun absent => (channel i).trans (if_pos absent), fun fitted => ?_⟩⟩
  · refine congrArg₂ (· ++ ·) (List.filter_congr fun i _ => ?_) (List.filter_congr fun i _ => ?_)
    · rw [Bool.eq_iff_iff, decide_eq_true_iff, Bool.not_eq_true', ← Bool.not_eq_true, FanChannel.stalls_iff]
      rfl
    · rw [Bool.eq_iff_iff, decide_eq_true_iff, Bool.and_eq_true, FanChannel.succeeds_iff, beq_iff_eq]
      rfl
  · rw [← Bool.not_eq_true, FanChannel.succeeds_iff]
    rfl
  have speed : (f.channel i).speed = storedSpeed s.freeCount i.val (measuredSpeed s.params.tachPulses edges[i]) := by
    rw [channel]
    exact FanChannel.measuredAt_speed fitted
  have record : f.channel i = (s.fcc.channel i).measuredAt s.params.ratedSpeed s.params.exerciseSpeed
      (measuredSpeed s.params.tachPulses edges[i]) (f.channel i).speed := by
    rw [speed]
    exact channel i
  refine ⟨fun fits => speed.trans (storedSpeed_of_le fits _ _), fun started turns => ?_, fun started still => ?_,
    fun running fast => ?_, fun running slow few => ?_, fun running slow third => ?_, fun running other => ?_⟩
  · have succeeds := FanChannel.succeeds_iff.2 ⟨started, turns⟩
    refine ⟨record.trans (FanChannel.measuredAt_succeeds succeeds), fun held => ?_, fun duty => ?_⟩
    · exact absurd succeeds (Bool.eq_false_iff.1 ((permit i).1 held).2)
    · rw [State.setFcc_fcc, list]
      refine List.mem_append_right _ (List.mem_filter.2 ⟨mem_fanChannels i, ?_⟩)
      exact Bool.and_eq_true_iff.2 ⟨succeeds, beq_iff_eq.2 duty⟩
  · refine record.trans (FanChannel.measuredAt_rests fitted ?_ (Bool.eq_false_iff.2 fun succeeds => ?_))
    · exact FanChannel.not_running_of_judged ((FanChannel.judged_iff _).2 started)
    · exact still (FanChannel.succeeds_iff.1 succeeds).2
  · refine record.trans ((FanChannel.measuredAt_runs running (Bool.eq_false_iff.2 fun stalls => ?_)).trans ?_)
    · obtain ⟨-, slow, -⟩ := FanChannel.stalls_iff.1 stalls
      exact fast slow
    · exact congrArg (fun n => { s.fcc.channel i with speed := (f.channel i).speed, stallRun := n }) (if_neg fast)
  · refine record.trans ((FanChannel.measuredAt_runs running (Bool.eq_false_iff.2 fun stalls => ?_)).trans ?_)
    · obtain ⟨-, -, many⟩ := FanChannel.stalls_iff.1 stalls
      exact absurd few (Nat.not_lt.2 many)
    · exact congrArg (fun n => { s.fcc.channel i with speed := (f.channel i).speed, stallRun := n }) (if_pos slow)
  · have stalls := FanChannel.stalls_iff.2 ⟨running, slow, third.ge⟩
    refine ⟨record.trans (FanChannel.measuredAt_stalls stalls), fun listed => ?_⟩
    rw [State.setFcc_fcc, list, List.mem_append, List.mem_filter, List.mem_filter] at listed
    rcases listed with ⟨-, runs⟩ | ⟨-, starts⟩
    · exact absurd stalls (Bool.eq_false_iff.1 ((Bool.not_eq_true' _).mp runs))
    · have succeeds := (Bool.and_eq_true_iff.1 starts).1
      exact FanChannel.not_running_of_judged (FanChannel.judged_of_succeeds succeeds) running
  · refine record.trans (FanChannel.measuredAt_rests fitted running (Bool.eq_false_iff.2 fun succeeds => ?_))
    exact other (FanChannel.succeeds_iff.1 succeeds).1

end Sys2Proof.Machine
end

section
/-! PROOFS. The start arbiter and the fan interval: the phase counts, the count of ten, and the grant of a free permit
in pair order (R119, R120, R126, R127). -/

namespace Sys2Proof.Machine

/-! ### The channel that a free permit goes to (R126, R127) -/

theorem Fcc.pairTable_eq (p : Params) (f : Fcc) : f.pairTable p = f.pairOrder p.pairOrder := by
  rw [Fcc.pairOrder, pairSequence_eq]
  rfl

theorem FanChannel.queuedAs_eq (cls : FanClass) (c : FanChannel) :
    c.queuedAs cls = decide (c.state = .queued ∧ c.cls = some cls) := by
  rw [Bool.eq_iff_iff, decide_eq_true_iff]
  simp [FanChannel.queuedAs]

theorem Fcc.nextStart_eq (order : Nat) (f : Fcc) : f.nextStart order
    = ((f.pairOrder order).find? fun i => (f.channel i).queuedAs .duty).or
      ((f.pairOrder order).find? fun i => (f.channel i).queuedAs .exercise) := by
  unfold Fcc.nextStart
  split
  · next found => rw [found]; rfl
  · next found => rw [found]; rfl

/-- Where `first` finds the first waiting channel of a class in pair order, the permit goes to one of duty class, else
to one of exercise class. -/
theorem Fcc.nextStart_of_first {p : Params} {f : Fcc} {first : FanClass → Option (Fin 6)}
    (finds : ∀ cls, ((f.pairTable p).find? fun i => (f.channel i).queuedAs cls) = first cls) :
    (∀ i, first .duty = some i ∨ (first .duty = none ∧ first .exercise = some i)
        ↔ f.nextStart p.pairOrder = some i)
      ∧ ((first .duty = none ∧ first .exercise = none) ↔ f.nextStart p.pairOrder = none) := by
  rw [Fcc.nextStart_eq, ← Fcc.pairTable_eq, finds, finds]
  exact ⟨fun i => Option.or_eq_some_iff.symm, Option.or_eq_none_iff.symm⟩

/-! ### The grant (R127) -/

section
variable {order startSpeed : Nat} {f : Fcc}

theorem Fcc.grant_of_held (held : f.permit ≠ none) : f.grant order startSpeed = f := by
  unfold Fcc.grant
  split
  · next free _ => exact absurd free held
  · rfl

theorem Fcc.grant_of_idle (idle : f.nextStart order = none) : f.grant order startSpeed = f := by
  unfold Fcc.grant
  split
  · next start => simp [idle] at start
  · rfl

theorem Fcc.grant_of_next {i : Fin 6} (free : f.permit = none) (next : f.nextStart order = some i) :
    f.grant order startSpeed = f.grantTo startSpeed i := by
  rw [Fcc.grant, free, next]

/-- A grant leaves the list, the count of ten and its mark. -/
theorem Fcc.grant_rest : (f.grant order startSpeed).runOrder = f.runOrder
    ∧ (f.grant order startSpeed).intervals = f.intervals ∧ (f.grant order startSpeed).tachDue = f.tachDue := by
  unfold Fcc.grant
  split <;> exact ⟨rfl, rfl, rfl⟩

end

theorem Fcc.channel_grantTo (startSpeed : Nat) (i j : Fin 6) (f : Fcc) : (f.grantTo startSpeed i).channel j
    = if j = i then (f.channel i).toStart startSpeed else f.channel j := by simp [Fcc.grantTo]

theorem Fcc.permit_grantTo (startSpeed : Nat) (i : Fin 6) (f : Fcc) : (f.grantTo startSpeed i).permit = some i := rfl

/-- The bit of the holder's pair is inverted, and no other. -/
theorem Fcc.bits_grantTo (startSpeed : Nat) (i : Fin 6) (f : Fcc) (p : Fin 3) :
    (f.grantTo startSpeed i).bits[p] = if p.val = i.val / 2 then !f.bits[p] else f.bits[p] := by
  have bits : (f.grantTo startSpeed i).bits = f.bits.set (pairOf i) (!f.bits[pairOf i]) := rfl
  simp only [bits, Fin.getElem_fin, Vector.getElem_set]
  by_cases own : p.val = i.val / 2
  · simp [pairOf, own]
  · simp [pairOf, own, Ne.symm own]

theorem FanChannel.toStart_plain {c : FanChannel} (plain : c.iceSuspect = false) (startSpeed : Nat) :
    c.toStart startSpeed = { c with state := .starting, command := startSpeed, phaseCount := 0 } := by
  simp [FanChannel.toStart, plain]

theorem FanChannel.toStart_suspect {c : FanChannel} (suspect : c.iceSuspect = true) (startSpeed : Nat) :
    c.toStart startSpeed = { c with state := .kick, phase := some .kick, command := 1000, phaseCount := 0 } := by
  simp [FanChannel.toStart, suspect]

/-- A start leaves available a channel that waited (R121). -/
theorem FanChannel.toStart_available {c : FanChannel} (queued : c.state = .queued) (startSpeed : Nat) :
    (c.toStart startSpeed).available = c.available := by
  unfold FanChannel.toStart
  split <;> (simp only [FanChannel.available, queued]; rfl)

/-! ### The fan interval (R119, R120) -/

/-- A record whose phase count has advanced. -/
def FanChannel.advanced (c : FanChannel) : FanChannel :=
  if c.turning then { c with phaseCount := satInc 3000 c.phaseCount } else c

theorem FanChannel.advanced_eq (c : FanChannel) : c.advanced
    = if c.state = .starting ∨ c.state = .kick ∨ c.state = .running then
        { c with phaseCount := if c.phaseCount < 3000 then c.phaseCount + 1 else c.phaseCount }
      else c :=
  if_congr (by simp [FanChannel.turning, or_assoc]) rfl rfl

theorem FanChannel.advanced_queuedAs (c : FanChannel) (cls : FanClass) : c.advanced.queuedAs cls = c.queuedAs cls := by
  unfold FanChannel.advanced
  split <;> rfl

theorem FanChannel.advanced_of_queued {c : FanChannel} (queued : c.state = .queued) : c.advanced = c :=
  if_neg (by simp [FanChannel.turning, queued])

theorem Fcc.channel_advancePhases (f : Fcc) (i : Fin 6) : f.advancePhases.channel i = (f.channel i).advanced := by
  refine (Fcc.channel_foldl (g := FanChannel.advanced) (fun f i j => ?_) (by decide) f i).trans
    (if_pos (mem_fanChannels i))
  unfold Fcc.advanceOne FanChannel.advanced
  split
  · exact Fcc.channel_modify i j _ f
  · split
    · next same => rw [same]
    · rfl

theorem Fcc.sameButChannels_advancePhases (f : Fcc) : f.SameButChannels f.advancePhases :=
  Fcc.sameButChannels_foldl (fun g i => by unfold Fcc.advanceOne; split <;> rfl) _ f

theorem Fcc.countTen_of_lt {f : Fcc} (few : f.intervals < 9) :
    f.countTen = { f with intervals := f.intervals + 1 } := if_pos (by omega)

theorem Fcc.countTen_of_ge {f : Fcc} (tenth : 9 ≤ f.intervals) :
    f.countTen = { f with intervals := 0, tachDue := true } := if_neg (by omega)

/-- The count of ten touches neither the channels nor the arbiter. -/
theorem Fcc.countTen_same (f : Fcc) : (∀ i, f.countTen.channel i = f.channel i) ∧ f.countTen.runOrder = f.runOrder
    ∧ f.countTen.permit = f.permit ∧ f.countTen.bits = f.bits := by
  unfold Fcc.countTen
  split <;> exact ⟨fun _ => rfl, rfl, rfl, rfl⟩

/-- The counts of a fan interval, before its grant. -/
def Fcc.counted (f : Fcc) : Fcc := f.advancePhases.countTen

theorem Fcc.interval_eq (order startSpeed : Nat) (f : Fcc) :
    f.interval order startSpeed = f.counted.grant order startSpeed := rfl

theorem Fcc.counted_spec (f : Fcc) : (∀ i, f.counted.channel i = (f.channel i).advanced)
    ∧ f.counted.runOrder = f.runOrder ∧ f.counted.permit = f.permit ∧ f.counted.bits = f.bits
    ∧ (f.intervals < 9 → f.counted.intervals = f.intervals + 1 ∧ f.counted.tachDue = f.tachDue)
    ∧ (9 ≤ f.intervals → f.counted.intervals = 0 ∧ f.counted.tachDue = true) := by
  obtain ⟨channel, list, permit, bits⟩ := Fcc.countTen_same f.advancePhases
  have advanced := Fcc.channel_advancePhases f
  have only := Fcc.sameButChannels_advancePhases f
  unfold Fcc.counted
  generalize f.advancePhases = g at *
  obtain ⟨list', permit', bits', intervals, due⟩ : g.runOrder = f.runOrder ∧ g.permit = f.permit
      ∧ g.bits = f.bits ∧ g.intervals = f.intervals ∧ g.tachDue = f.tachDue := by
    rw [only]
    exact ⟨rfl, rfl, rfl, rfl, rfl⟩
  refine ⟨fun i => (channel i).trans (advanced i), list.trans list', permit.trans permit', bits.trans bits',
    fun few => ?_, fun tenth => ?_⟩
  · rw [Fcc.countTen_of_lt (intervals ▸ few)]
    exact ⟨congrArg (· + 1) intervals, due⟩
  · rw [Fcc.countTen_of_ge (intervals ▸ tenth)]
    exact ⟨rfl, rfl⟩

/-- The counts leave the channel that the permit goes to. -/
theorem Fcc.nextStart_counted (order : Nat) (f : Fcc) : f.counted.nextStart order = f.nextStart order := by
  obtain ⟨channel, -, -, bits, -⟩ := Fcc.counted_spec f
  simp only [Fcc.nextStart_eq, Fcc.pairOrder, bits, channel, FanChannel.advanced_queuedAs]

/-- The controller and its report to the VDR are all that a new value of it changes (R141). -/
theorem State.setFcc_eq (f : Fcc) (s : State) : s.setFcc f
    = { s with
        fcc := (s.setFcc f).fcc, vdr := { s.vdr with fansAtRest := !(s.setFcc f).fcc.anyTurning } } := rfl

/-- Settles O48: the counts channel by channel, then the grant to the channel that pair order gives. -/
theorem fanIntervalGrantsTheFirstInPairOrder : Obligations.FanIntervalGrantsTheFirstInPairOrder := by
  intro s loaded
  refine ⟨_, if_pos loaded, State.setFcc_eq _ s, ?_⟩
  obtain ⟨channel, list, permit, bits, few, tenth⟩ := Fcc.counted_spec s.fcc
  obtain ⟨list', intervals, due⟩ := Fcc.grant_rest (order := s.params.pairOrder) (startSpeed := s.params.startSpeed)
    (f := s.fcc.counted)
  have waiting := Fcc.nextStart_counted s.params.pairOrder s.fcc
  rw [State.setFcc_fcc, Fcc.interval_eq]
  generalize s.fcc.counted = f at *
  refine ⟨list'.trans list, fun h => ?_, fun h => ?_, ?_⟩
  · rw [intervals, due]; exact few h
  · rw [intervals, due]; exact tenth h
  intro sequences order first counted
  have counts : ∀ i, f.channel i = counted (s.fcc.channel i) := fun i => (channel i).trans (FanChannel.advanced_eq _)
  have finds : ∀ cls, ((s.fcc.pairTable s.params).find? fun i => (s.fcc.channel i).queuedAs cls) = first cls :=
    fun cls => congrArg (fun test => order.find? test) (funext fun i => FanChannel.queuedAs_eq _ _)
  obtain ⟨next, idle⟩ := Fcc.nextStart_of_first finds
  refine ⟨fun stays => ?_, fun i free granted => ?_⟩
  · have same : f.grant s.params.pairOrder s.params.startSpeed = f := by
      rcases stays with held | none
      · exact Fcc.grant_of_held (by rwa [permit])
      · exact Fcc.grant_of_idle (waiting.trans (idle.1 none))
    rw [same]
    exact ⟨permit, bits, counts⟩
  · have start := (next i).1 granted
    have record : (f.grantTo s.params.startSpeed i).channel i = (s.fcc.channel i).toStart s.params.startSpeed := by
      rw [Fcc.channel_grantTo, if_pos rfl, channel, FanChannel.advanced_of_queued (Fcc.nextStart_queued start)]
    rw [Fcc.grant_of_next (permit.trans free) (waiting.trans start)]
    refine ⟨rfl, fun p => ?_, fun plain => ?_, fun suspect => ?_, fun j other => ?_⟩
    · rw [Fcc.bits_grantTo, bits]
    · exact record.trans (FanChannel.toStart_plain plain _)
    · exact record.trans (FanChannel.toStart_suspect suspect _)
    · rw [Fcc.channel_grantTo, if_neg other, counts]

end Sys2Proof.Machine
end

section
/-! PROOFS. The ends of the phases: spin-up, kick, check and exercise, with the icing and the grant of the permit it
frees (R121, R126 to R128, R130, R131, R135, R138). -/

namespace Sys2Proof.Machine

/-! ### The controller's new value in the state (R138, R141) -/

/-- A new value of the controller that differs in its channels' records alone. -/
theorem State.setFcc_channels {f : Fcc} {s : State} (only : s.fcc.SameButChannels f) : s.setFcc f
    = { s with
        fcc := { s.fcc with channels := (s.setFcc f).fcc.channels }
        vdr := { s.vdr with fansAtRest := !(s.setFcc f).fcc.anyTurning } } :=
  congrArg (fun g => { s with fcc := g, vdr := { s.vdr with fansAtRest := !f.anyTurning } }) only

/-- A new value of the controller with the report of FAN_ICE. -/
theorem State.reportIce_setFcc (f : Fcc) (s : State) : (s.setFcc f).reportIce
    = { s with
        fcc := (s.setFcc f).reportIce.fcc
        vdr := { s.vdr with fansAtRest := !(s.setFcc f).reportIce.fcc.anyTurning }
        aou := (s.setFcc f).reportIce.aou } := rfl

/-! ### The permit's holder at the end of its phase (R130, R131) -/

theorem Fcc.endPhase_of_ended {i : Fin 6} {f : Fcc} {state : FanState} {phase : Option KickPhase} {time : Nat}
    (held : f.permit = some i) (undue : f.tachDue = false) (inState : (f.channel i).state = state)
    (inPhase : (f.channel i).phase = phase) (ended : time ≤ (f.channel i).phaseCount) (act : Fin 6 → Fcc → Fcc) :
    f.endPhase state phase time act = act i f := by
  simp [Fcc.endPhase, Fcc.phaseEnded, held, undue, inState, inPhase, ended]

/-- A new kick of a channel in KICK. -/
theorem FanChannel.toKick_of_kick {c : FanChannel} (kick : c.state = .kick) :
    c.toKick = { c with phase := some .kick, command := 1000, phaseCount := 0 } := by
  simp [FanChannel.toKick, kick]

theorem Fcc.channel_startKick (i j : Fin 6) (f : Fcc) :
    (f.startKick i).channel j = if j = i then (f.channel i).toKick else f.channel j := Fcc.channel_modify i j _ f

theorem Fcc.channel_startCheck (startSpeed : Nat) (i j : Fin 6) (f : Fcc) : (f.startCheck startSpeed i).channel j
    = if j = i then { f.channel i with phase := some .check, command := startSpeed, phaseCount := 0 }
      else f.channel j := Fcc.channel_modify i j _ f

/-! ### A failed check window (R131) -/

theorem Fcc.channel_countRetry (i j : Fin 6) (f : Fcc) : (f.countRetry i).channel j
    = if j = i then { f.channel i with retries := satInc 3 (f.channel i).retries } else f.channel j :=
  Fcc.channel_modify i j _ f

section
variable {i : Fin 6} {f : Fcc}

/-- The first and the second failed check window begin a new kick. -/
theorem Fcc.failCheck_kicks (kick : (f.channel i).state = .kick) (few : (f.channel i).retries < 2) :
    f.SameButChannels (f.failCheck i) ∧ ∀ j, (f.failCheck i).channel j
      = if j = i then { f.channel i with
            phase := some .kick, command := 1000, phaseCount := 0, retries := (f.channel i).retries + 1 }
        else f.channel j := by
  have own : (f.countRetry i).channel i = { f.channel i with retries := (f.channel i).retries + 1 } := by
    rw [Fcc.channel_countRetry, if_pos rfl, satInc, if_pos (by omega)]
  have result : f.failCheck i = (f.countRetry i).startKick i := if_pos (by rw [own]; show _ + 1 < 3; omega)
  rw [result]
  refine ⟨rfl, fun j => ?_⟩
  rw [Fcc.channel_startKick, own]
  split
  · exact FanChannel.toKick_of_kick (c := { f.channel i with retries := (f.channel i).retries + 1 }) kick
  · next other => rw [Fcc.channel_countRetry, if_neg other]

/-- The third failed check window ices the channel and frees its permit. -/
theorem Fcc.failCheck_ices (third : (f.channel i).retries = 2) :
    (∀ j, (f.failCheck i).channel j
      = if j = i then { f.channel i with
            state := .iced, cls := none, phase := none, command := 0, phaseCount := 0, retries := 3 }
        else f.channel j)
      ∧ (f.failCheck i).runOrder = f.runOrder ∧ f.SameRest (f.failCheck i)
      ∧ (f.permit = some i → (f.failCheck i).permit = none) := by
  have own : (f.countRetry i).channel i = { f.channel i with retries := 3 } := by
    rw [Fcc.channel_countRetry, if_pos rfl, third]
    rfl
  have result : f.failCheck i = (f.countRetry i).ice i := if_neg (by rw [own]; exact Nat.lt_irrefl 3)
  rw [result]
  refine ⟨fun j => ?_, rfl, ⟨rfl, rfl, rfl⟩, fun held => if_pos held⟩
  refine (Fcc.channel_modify i j FanChannel.toIced (f.countRetry i)).trans ?_
  rw [own]
  split
  · rfl
  · next other => rw [Fcc.channel_countRetry, if_neg other]

end

/-! ### The channels available after an icing (R121) -/

theorem Fcc.nAvail_eq_card (f : Fcc) :
    f.nAvail = (Finset.univ.filter fun i => (f.channel i).available = true).card := by
  have nodup : (fanChannels.filter fun i => (f.channel i).available).Nodup := List.Nodup.filter _ (by decide)
  rw [Fcc.nAvail, ← List.toFinset_card_of_nodup nodup]
  congr 1
  ext i
  simp [mem_fanChannels]

/-- One channel that is available no more. -/
theorem Fcc.nAvail_loses {f g : Fcc} {i : Fin 6} (had : (f.channel i).available = true)
    (lost : (g.channel i).available = false)
    (others : ∀ j, j ≠ i → (g.channel j).available = (f.channel j).available) : g.nAvail + 1 = f.nAvail := by
  have erased : (Finset.univ.filter fun j => (g.channel j).available = true)
      = (Finset.univ.filter fun j => (f.channel j).available = true).erase i := by
    ext j
    by_cases own : j = i
    · simp [own, lost]
    · simp [own, others j own]
  rw [Fcc.nAvail_eq_card, Fcc.nAvail_eq_card, erased, Finset.card_erase_add_one (by simpa using had)]

/-- A grant leaves every channel available that was. -/
theorem Fcc.nAvail_grant (order startSpeed : Nat) (f : Fcc) : (f.grant order startSpeed).nAvail = f.nAvail := by
  unfold Fcc.grant
  split
  · next i _ next =>
    refine Fcc.nAvail_of_same fun j => ?_
    rw [Fcc.channel_grantTo]
    split
    · next own => rw [own, FanChannel.toStart_available (Fcc.nextStart_queued next)]
    · rfl
  · rfl

/-- A channel that does not wait is not granted the permit. -/
theorem Fcc.grant_spares {i : Fin 6} {f : Fcc} (other : (f.channel i).state ≠ .queued) (order startSpeed : Nat) :
    (f.grant order startSpeed).channel i = f.channel i
      ∧ (f.permit ≠ some i → (f.grant order startSpeed).permit ≠ some i) := by
  unfold Fcc.grant
  split
  · next j _ next =>
    have apart : i ≠ j := fun same => other (same ▸ Fcc.nextStart_queued next)
    rw [Fcc.channel_grantTo, if_neg apart, Fcc.permit_grantTo]
    exact ⟨rfl, fun _ same => apart (Option.some.inj same).symm⟩
  · exact ⟨rfl, id⟩

/-! ### The icing, and the grant of the permit it frees (R127, R131) -/

/-- The first waiting channel of a class in pair order, other than channel i. -/
def Fcc.firstOther (p : Params) (i : Fin 6) (f : Fcc) (cls : FanClass) : Option (Fin 6) :=
  (f.pairTable p).find? fun j => decide (j ≠ i ∧ (f.channel j).state = .queued ∧ (f.channel j).cls = some cls)

section
variable {p : Params} {i : Fin 6} {f : Fcc}

/-- The channel that an icing's grant goes to. -/
theorem Fcc.nextStart_iced (third : (f.channel i).retries = 2) :
    (∀ j, f.firstOther p i .duty = some j ∨ (f.firstOther p i .duty = none ∧ f.firstOther p i .exercise = some j)
        ↔ (f.failCheck i).nextStart p.pairOrder = some j)
      ∧ ((f.firstOther p i .duty = none ∧ f.firstOther p i .exercise = none)
        ↔ (f.failCheck i).nextStart p.pairOrder = none) := by
  obtain ⟨channel, -, ⟨bits, -⟩, -⟩ := Fcc.failCheck_ices third
  refine Fcc.nextStart_of_first fun cls => ?_
  rw [Fcc.firstOther, Fcc.pairTable_eq, Fcc.pairTable_eq, Fcc.pairOrder, bits, Fcc.pairOrder]
  refine congrArg (fun test => List.find? test _) (funext fun j => ?_)
  rw [channel, FanChannel.queuedAs_eq]
  by_cases own : j = i <;> simp [own]

/-- The icing, whatever its grant. -/
theorem Fcc.failWindow_ices (held : f.permit = some i) (kick : (f.channel i).state = .kick)
    (third : (f.channel i).retries = 2) (order startSpeed : Nat) :
    (f.failWindow order startSpeed i).permit ≠ some i
      ∧ (f.failWindow order startSpeed i).channel i = { f.channel i with
          state := .iced, cls := none, phase := none, command := 0, phaseCount := 0, retries := 3 }
      ∧ (f.failWindow order startSpeed i).nAvail + 1 = f.nAvail
      ∧ (f.failWindow order startSpeed i).runOrder = f.runOrder
      ∧ (f.failWindow order startSpeed i).intervals = f.intervals
      ∧ (f.failWindow order startSpeed i).tachDue = f.tachDue := by
  obtain ⟨channel, list, ⟨-, intervals, due⟩, permit⟩ := Fcc.failCheck_ices third
  obtain ⟨list', intervals', due'⟩ := Fcc.grant_rest (order := order) (startSpeed := startSpeed)
    (f := f.failCheck i)
  have iced := (channel i).trans (if_pos rfl)
  obtain ⟨spared, unheld⟩ := Fcc.grant_spares (i := i) (f := f.failCheck i) (by simp [iced]) order startSpeed
  refine ⟨unheld (by simp [permit held]), spared.trans iced, ?_, list'.trans list, intervals'.trans intervals,
    due'.trans due⟩
  rw [Fcc.failWindow, Fcc.nAvail_grant]
  refine Fcc.nAvail_loses (i := i) (by simp [FanChannel.available, kick]) ?_ fun j other => ?_
  · simp [iced, FanChannel.available]
  · rw [channel, if_neg other]

/-- An icing with no channel waiting leaves the permit free. -/
theorem Fcc.failWindow_idle (held : f.permit = some i) (third : (f.channel i).retries = 2)
    (duty : f.firstOther p i .duty = none) (exercise : f.firstOther p i .exercise = none) :
    (f.failWindow p.pairOrder p.startSpeed i).permit = none
      ∧ (f.failWindow p.pairOrder p.startSpeed i).bits = f.bits
      ∧ ∀ j, j ≠ i → (f.failWindow p.pairOrder p.startSpeed i).channel j = f.channel j := by
  obtain ⟨channel, -, ⟨bits, -⟩, permit⟩ := Fcc.failCheck_ices third
  obtain ⟨-, idle⟩ := Fcc.nextStart_iced (p := p) third
  rw [Fcc.failWindow, Fcc.grant_of_idle (idle.1 ⟨duty, exercise⟩)]
  exact ⟨permit held, bits, fun j other => (channel j).trans (if_neg other)⟩

/-- An icing with a channel waiting starts it. -/
theorem Fcc.failWindow_grants (held : f.permit = some i) (third : (f.channel i).retries = 2) {j : Fin 6}
    (first : f.firstOther p i .duty = some j
      ∨ (f.firstOther p i .duty = none ∧ f.firstOther p i .exercise = some j)) :
    (f.failWindow p.pairOrder p.startSpeed i).permit = some j
      ∧ (∀ q : Fin 3, (f.failWindow p.pairOrder p.startSpeed i).bits[q]
        = if q.val = j.val / 2 then !f.bits[q] else f.bits[q])
      ∧ (f.failWindow p.pairOrder p.startSpeed i).channel j = (f.channel j).toStart p.startSpeed
      ∧ ∀ k, k ≠ i → k ≠ j → (f.failWindow p.pairOrder p.startSpeed i).channel k = f.channel k := by
  obtain ⟨channel, -, ⟨bits, -⟩, permit⟩ := Fcc.failCheck_ices third
  obtain ⟨next, -⟩ := Fcc.nextStart_iced (p := p) third
  have start := (next j).1 first
  have apart : j ≠ i := by
    rintro rfl
    have queued := Fcc.nextStart_queued start
    simp [channel] at queued
  rw [Fcc.failWindow, Fcc.grant_of_next (permit held) start]
  refine ⟨rfl, fun q => ?_, ?_, fun k iced other => ?_⟩
  · rw [Fcc.bits_grantTo, bits]
  · rw [Fcc.channel_grantTo, if_pos rfl, channel, if_neg apart]
  · rw [Fcc.channel_grantTo, if_neg other, channel, if_neg iced]

/-- A failed check window before the third keeps the permit, and begins a new kick. -/
theorem Fcc.failWindow_kicks (held : f.permit = some i) (kick : (f.channel i).state = .kick)
    (few : (f.channel i).retries < 2) (order startSpeed : Nat) :
    f.SameButChannels (f.failWindow order startSpeed i) ∧ ∀ j, (f.failWindow order startSpeed i).channel j
      = if j = i then { f.channel i with
            phase := some .kick, command := 1000, phaseCount := 0, retries := (f.channel i).retries + 1 }
        else f.channel j := by
  have kicks := Fcc.failCheck_kicks kick few
  have permit : (f.failCheck i).permit = some i := by
    rw [kicks.1]
    exact held
  rw [Fcc.failWindow, Fcc.grant_of_held (by simp [permit])]
  exact kicks

theorem FanChannel.turning_of_running {c : FanChannel} (running : c.state = .running) : c.turning = true := by
  simp [FanChannel.turning, running]

/-- A channel in hand that goes to OFF stays available (R121). -/
theorem Fcc.nAvail_off (inHand : (f.channel i).inHand = true) : (f.off i).nAvail = f.nAvail :=
  Fcc.nAvail_of_same fun j => by
    rw [Fcc.channel_off]
    split
    · next own => rw [own, FanChannel.toOff_available inHand]
    · rfl

/-- The end of an exercise run (R122, R128, R135). -/
theorem Fcc.endExercise_of_ended {time : Nat} (runs : (f.channel i).state = .running)
    (exercise : (f.channel i).cls = some .exercise) (ended : time ≤ (f.channel i).phaseCount)
    (undue : f.tachDue = false) : f.endExercise time i = f.off i :=
  if_pos ⟨by simp [FanChannel.runningAs, runs, exercise], ended, by simp [undue]⟩

end

/-- Settles O49: the act of each phase's end on the permit's holder, and at an icing the grant. -/
theorem phaseEndsMoveTheChannel : Obligations.PhaseEndsMoveTheChannel := by
  intro i s undue c p rest
  refine ⟨fun held => ⟨fun starting phase ended => ?_, fun kick phase ended => ?_, fun kick phase ended => ?_⟩,
    fun running exercise ended => ?_⟩
  · refine ⟨_, congrArg (fun f => Host.Outcome.next (s.setFcc f))
      (Fcc.endPhase_of_ended held undue starting phase ended _), State.setFcc_channels rfl, ?_, fun j other => ?_⟩
    · exact (Fcc.channel_startKick i i s.fcc).trans (if_pos rfl)
    · exact (Fcc.channel_startKick i j s.fcc).trans (if_neg other)
  · refine ⟨_, congrArg (fun f => Host.Outcome.next (s.setFcc f))
      (Fcc.endPhase_of_ended held undue kick phase ended _), State.setFcc_channels rfl, ?_, fun j other => ?_⟩
    · exact (Fcc.channel_startCheck p.startSpeed i i s.fcc).trans (if_pos rfl)
    · exact (Fcc.channel_startCheck p.startSpeed i j s.fcc).trans (if_neg other)
  · refine ⟨_, congrArg (fun f => Host.Outcome.next (s.setFcc f).reportIce)
      (Fcc.endPhase_of_ended held undue kick phase ended _), State.reportIce_setFcc _ s, fun few => ?_,
      fun third => ?_⟩
    · obtain ⟨only, channel⟩ := Fcc.failWindow_kicks held kick few p.pairOrder p.startSpeed
      exact ⟨only, (channel i).trans (if_pos rfl), fun j other => (channel j).trans (if_neg other)⟩
    · obtain ⟨unheld, iced, avail, list, intervals, due⟩ :=
        Fcc.failWindow_ices held kick third p.pairOrder p.startSpeed
      have alert : hasAlert (s.setFcc (s.fcc.failWindow p.pairOrder p.startSpeed i)).reportIce.aou.live .fanIce
          = true := (State.reportIce_live _).trans ((Fcc.anyIced_iff _).2 ⟨i, congrArg FanChannel.state iced⟩)
      refine ⟨unheld, iced, avail, list, intervals, due.trans undue, alert, Fcc.failWindow_idle held third,
        fun j first => ?_⟩
      obtain ⟨permit, bits, record, others⟩ := Fcc.failWindow_grants held third first
      exact ⟨permit, bits, fun plain => record.trans (FanChannel.toStart_plain plain _),
        fun suspect => record.trans (FanChannel.toStart_suspect suspect _), others⟩
  · refine ⟨_, congrArg (fun f => Host.Outcome.next (s.setFcc f))
      (Fcc.endExercise_of_ended running exercise ended undue), ?_, ?_, rfl, ?_, ?_, rfl, fun j other => ?_⟩
    · rw [← undue]
      rfl
    · exact List.filter_congr fun j _ => Bool.eq_iff_iff.2 (by simp)
    · exact (Fcc.channel_off i i s.fcc).trans (if_pos rfl)
    · exact Fcc.nAvail_off (FanChannel.inHand_of_turning (FanChannel.turning_of_running running))
    · exact (Fcc.channel_off i j s.fcc).trans (if_neg other)

end Sys2Proof.Machine
end

section
/-! PROOFS. The valve drive: a change of its command against the travel check and the flow weight, its command at an
allotment issued, and the scan completion, in either order (R60, R113, R142 to R149). -/

namespace Sys2Proof.Machine

/-! ### A change of the command (R146, R149) -/

/-- What the travel check keeps (R146). -/
def Vdr.travel (v : Vdr) : CheckState × Nat × Bool := (v.check, v.travelCount, v.stuck)

/-- What a start of the travel check leaves of it (R146, R147). -/
def Vdr.restart (v : Vdr) : CheckState × Nat × Bool :=
  if v.check = .suspended then v.travel else (.timing, 0, v.stuck)

theorem Vdr.travel_eq_restart {v w : Vdr} (restarted : w.travel = v.restart) (active : v.check ≠ .suspended) :
    w.check = .timing ∧ w.travelCount = 0 ∧ w.stuck = v.stuck := by
  simpa [Vdr.travel, Vdr.restart, active] using restarted

/-- `w` is as `v` after its command took the value that it has in `w`, apart from what the VDR was told. -/
def Vdr.Commanded (p : Params) (v w : Vdr) : Prop :=
  (w.command = v.command → w.travel = v.travel ∧ w.q = v.q)
    ∧ (w.command ≠ v.command →
      w.travel = v.restart ∧ w.q = if v.fromVF then v.q else flowWeight p w.command)
    ∧ w.fromVF = v.fromVF

theorem Vdr.travel_eq_iff {v w : Vdr} :
    w.travel = v.travel ↔ w.check = v.check ∧ w.travelCount = v.travelCount ∧ w.stuck = v.stuck := by
  simp [Vdr.travel]

theorem Vdr.startCheck_travel (v : Vdr) : v.startCheck.travel = v.restart := apply_ite Vdr.travel _ _ _

theorem Vdr.startCheck_command (v : Vdr) : v.startCheck.command = v.command := by
  unfold Vdr.startCheck
  split <;> rfl

theorem Vdr.startCheck_of_command (c : Nat) (v : Vdr) : (Vdr.startCheck { v with command := c }).command = c
    ∧ (Vdr.startCheck { v with command := c }).travel = v.restart :=
  ⟨Vdr.startCheck_command { v with command := c }, Vdr.startCheck_travel { v with command := c }⟩

theorem Vdr.setCommand_of_same (p : Params) (v : Vdr) : v.setCommand p v.command = v := if_pos rfl

theorem Vdr.setCommand_of_moved {c : Nat} {v : Vdr} (moved : c ≠ v.command) (p : Params) :
    (v.setCommand p c).travel = v.restart ∧ (v.setCommand p c).q = if v.fromVF then v.q else flowWeight p c := by
  unfold Vdr.setCommand Vdr.startCheck Vdr.restart
  rw [if_neg moved]
  by_cases suspended : v.check = .suspended <;> cases source : v.fromVF <;>
    simp [suspended, Vdr.travel]

theorem Vdr.commanded_setCommand (p : Params) (c : Nat) (v : Vdr) : v.Commanded p (v.setCommand p c) := by
  obtain ⟨command, -, -, -, -, -, -, source⟩ := Vdr.setCommand_eq p c v
  refine ⟨fun same => ?_, fun moved => ?_, source⟩
  · rw [command] at same
    rw [same, Vdr.setCommand_of_same]
    exact ⟨rfl, rfl⟩
  · rw [command] at moved ⊢
    exact Vdr.setCommand_of_moved moved p

section
variable {p : Params} {v w : Vdr}

theorem Vdr.Commanded.refl (p : Params) (v : Vdr) : v.Commanded p v :=
  ⟨fun _ => ⟨rfl, rfl⟩, fun h => absurd rfl h, rfl⟩

theorem Vdr.Commanded.source (h : v.Commanded p w) : w.fromVF = v.fromVF := h.2.2

/-- What the VDR is told beside is no part of it. -/
theorem Vdr.Commanded.told (h : v.Commanded p w) (role : Role) (drained rest : Bool) :
    v.Commanded p { w with role := role, drained := drained, fansAtRest := rest } := h

theorem Vdr.Commanded.stuck (h : v.Commanded p w) : w.stuck = v.stuck := by
  obtain ⟨same, moved, -⟩ := h
  by_cases command : w.command = v.command
  · exact congrArg (fun x => x.2.2) (same command).1
  · refine (congrArg (fun x => x.2.2) (moved command).1).trans ?_
    unfold Vdr.restart
    split <;> rfl

/-- While the check is suspended a change of the command does not start it (R147). -/
theorem Vdr.Commanded.travel_of_suspended (h : v.Commanded p w) (suspended : v.check = .suspended) :
    w.travel = v.travel := by
  obtain ⟨same, moved, -⟩ := h
  by_cases command : w.command = v.command
  · exact (same command).1
  · exact (moved command).1.trans (if_pos suspended)

/-- A flow weight from VF stands at a change of the command (R149). -/
theorem Vdr.Commanded.q_of_vf (h : v.Commanded p w) (source : v.fromVF = true) : w.q = v.q := by
  obtain ⟨same, moved, -⟩ := h
  by_cases command : w.command = v.command
  · exact (same command).2
  · exact (moved command).2.trans (if_pos source)

/-- A flow weight from the command follows it (R149). -/
theorem Vdr.Commanded.q_of_command (h : v.Commanded p w) (source : v.fromVF = false)
    (weighed : v.q = flowWeight p v.command) : w.q = flowWeight p w.command := by
  obtain ⟨same, moved, -⟩ := h
  by_cases command : w.command = v.command
  · rw [(same command).2, weighed, command]
  · rw [(moved command).2, source]
    rfl

end

/-! ### The frost monitor's scan in the valve (R113, R114, R143) -/

/-- A report that finds the command settled changes nothing. -/
theorem Vdr.act_of_settled {p : Params} {before : Role} {v : Vdr}
    (settled : v.allotmentReceived = true → v.settled p before = v.command) : v.act p before = v := by
  unfold Vdr.act
  split
  · next received => rw [settled received, Vdr.setCommand_of_same]
  · rfl

theorem Vdr.commanded_frostReport (p : Params) (frost : FrostState) (v : Vdr) :
    v.Commanded p (v.frostReport p frost) := by
  unfold Vdr.frostReport Vdr.act
  split
  · exact Vdr.commanded_setCommand p _ { v with frost := frost }
  · exact .refl p v

theorem State.commanded_announceFrost (new : FrostState) (s : State) :
    s.vdr.Commanded s.params (s.announceFrost new).vdr := by
  rw [State.announceFrost_vdr]
  exact Vdr.commanded_frostReport s.params new s.vdr

/-- A change of role, other than a withdrawal, that finds the command settled leaves it. -/
theorem State.changeRole_vdr_of_settled {new : Role} {s : State} (apart : new ≠ .withdrawn)
    (settled : s.vdr.allotmentReceived = true →
      Vdr.settled s.params s.vdr.role { s.vdr with role := new, drained := false } = s.vdr.command)
    (cause : RoleCause) : (s.changeRole cause new false).vdr = { s.vdr with
      role := new, drained := false, fansAtRest := !(s.fcc.roleReport new).anyTurning } := by
  have still : s.vdr.roleReport s.params new false = { s.vdr with role := new, drained := false } :=
    Vdr.act_of_settled settled
  obtain ⟨-, -, -, -, -, vdr⟩ := State.enterAndTell_blocks cause new false s
  rw [Bool.false_and, still] at vdr
  rw [State.changeRole_of_apart fun h => apart h.1]
  exact vdr

/-- The role machine's report after an entry to PROTECT finds the valve open (R98, R114). -/
theorem State.commanded_enters (s : State) :
    s.vdr.Commanded s.params ((s.announceFrost .protect).changeRole .frostProtect .protect false).vdr := by
  obtain ⟨received, frost⟩ := State.announceFrost_received .protect s
  rw [State.changeRole_vdr_of_settled (by decide)]
  · exact (State.commanded_announceFrost .protect s).told _ _ _
  · intro told
    obtain ⟨-, -, frost', -⟩ := Vdr.frostReport_eq s.params .protect s.vdr
    have issued : s.vdr.allotmentReceived = true := received.symm.trans told
    have settles := (Vdr.frostReport_settlesAt (p := s.params) issued .protect).1 (by rw [frost']; rfl)
    have opened : (s.announceFrost .protect).vdr.command = 1000 := by
      rw [State.announceFrost_vdr]
      exact settles
    rw [Vdr.settled_forced _ _ (by simp [frost, FrostState.forces]), opened]

theorem State.commanded_setFrost {new : FrostState} {s : State} (stays : ¬ s.LeavesWith new) :
    s.vdr.Commanded s.params (s.setFrost new).vdr :=
  State.setFrost_induct (P := fun t => s.vdr.Commanded s.params t.vdr)
    (fun enters => by rw [enters.1]; exact State.commanded_enters s) (fun leaves => absurd leaves stays)
    fun _ _ => State.commanded_announceFrost new s

/-- The monitor moves the command once at most at a scan completion. -/
theorem State.commanded_frostScan (set : ScanSet) (s : State) :
    s.vdr.Commanded s.params (s.frostScan set).vdr := by
  cases suspended : s.cfm.suspended
  · have watched : ((s.evaluate set).watchFlow set).vdr = (s.evaluate set).vdr := by simp
    rw [State.frostScan_of_active suspended, watched]
    rcases State.evaluate_cases set s with marked | ⟨w, new, marked, -, ends, changed⟩
    · rw [marked.vdr]
      exact .refl _ _
    · have stays : ¬ w.LeavesWith new := fun ⟨old, clear, _⟩ =>
        ends.elim (· clear) (· (marked.frost.symm.trans old))
      have moved := State.commanded_setFrost stays
      rwa [marked.vdr, marked.params, ← changed] at moved
  · rw [State.frostScan_of_suspended suspended]
    exact .refl _ _

/-! ### The valve's own scan (R146 to R149) -/

/-- The travel check at a scan completion reads the command and its own record alone. -/
theorem Vdr.checkScan_congr {v w : Vdr} (command : w.command = v.command) (travel : w.travel = v.travel)
    (vf : Published) : (w.checkScan vf).travel = (v.checkScan vf).travel := by
  obtain ⟨check, count, stuck⟩ := Vdr.travel_eq_iff.1 travel
  cases ok : vf.ok
  · simp [Vdr.checkScan, ok, Vdr.travel]
  · by_cases suspended : v.check = .suspended <;>
      by_cases near : withinTolerance vf.value v.command = true <;>
      simp [Vdr.checkScan, ok, check, suspended, command, near, Vdr.travel, count, stuck]

/-- The travel check with a good VF, its tolerance as the statements write it (R146). -/
theorem Vdr.checkScan_of_ok {vf : Published} (ok : vf.ok = true) (v : Vdr) : v.checkScan vf
    = let u := if v.check = .suspended then { v with check := .timing, travelCount := 0 } else v
      if (vf.value - u.command).natAbs ≤ 50 then { u with check := .idle, stuck := false } else u := by
  simp only [Vdr.checkScan, ok, if_true, withinTolerance, decide_eq_true_iff]

theorem Vdr.scan_of_ok {vf : Published} (ok : vf.ok = true) (p : Params) (v : Vdr) :
    v.scan p vf = { v.checkScan vf with q := flowWeight p vf.value.toNat, fromVF := true } := if_pos ok

theorem Vdr.scan_of_failed {vf : Published} (failed : vf.ok = false) (p : Params) (v : Vdr) : v.scan p vf = { v with
    check := .suspended, travelCount := 0, stuck := false, q := flowWeight p v.command, fromVF := false } := by
  simp [Vdr.scan, Vdr.flowScan, Vdr.checkScan, failed]

/-- The valve's record after a scan completion, in either order with the frost monitor (R60; log entry 4). -/
theorem State.completeScan_vdr {s : State} {set : ScanSet}
    (published : (s.ssc.complete s.params.channels).scanSet = some set) :
    (s.vdr.scan s.params set.vf).Commanded s.params (s.completeScan true).vdr
      ∧ ∃ w, s.vdr.Commanded s.params w ∧ (s.completeScan false).vdr = w.scan s.params set.vf := by
  rw [State.completeScan_of_set published, State.completeScan_of_set published]
  refine ⟨?_, (s.judgeScan.reportSensors.frostScan set).vdr,
    State.commanded_frostScan set s.judgeScan.reportSensors, ?_⟩
  · exact State.commanded_frostScan set (s.judgeScan.reportSensors.valveScan set)
  · have params : (s.judgeScan.reportSensors.frostScan set).params = s.params := by simp [State.judgeScan]
    have valve : ∀ u : State, (u.valveScan set).vdr = u.vdr.scan u.params set.vf := fun _ => rfl
    exact (valve _).trans (congrArg (fun p => Vdr.scan p set.vf _) params)

theorem State.valveScan_stuck (set : ScanSet) (s : State) :
    hasAlert (s.valveScan set).aou.live .valveStuck = (s.valveScan set).vdr.stuck := by
  rw [State.valveScan, State.reportStuck, State.report, State.reportLive_live, hasAlert_putAlert, if_pos rfl]
  rfl

/-- VALVE_STUCK after a scan completion (R148). -/
theorem State.completeScan_stuck {s : State} {set : ScanSet}
    (published : (s.ssc.complete s.params.channels).scanSet = some set) (valveFirst : Bool) :
    hasAlert (s.completeScan valveFirst).aou.live .valveStuck = (s.completeScan valveFirst).vdr.stuck := by
  rw [State.completeScan_of_set published]
  cases valveFirst
  · exact State.valveScan_stuck set _
  · have kept := AlertsBut.frostScan set (s.judgeScan.reportSensors.valveScan set) .valveStuck (by decide)
    exact (kept.trans (State.valveScan_stuck set _)).trans (State.commanded_frostScan set _).stuck.symm

/-- Settles O30: the monitor's one move of the command comes after the valve's scan, or before it. -/
theorem scanCompletionChecksTheValve : Obligations.ScanCompletionChecksTheValve := by
  intro valveFirst s loaded whole
  obtain ⟨set, published, -⟩ := Ssc.complete_scanSet s.params.channels s.ssc
  obtain ⟨after, w, before, scanned⟩ := State.completeScan_vdr published
  refine ⟨_, set, exec_scanCompletion loaded whole valveFirst, by rw [State.completeScan_ssc, published],
    State.completeScan_stuck published valveFirst, fun ok => ?_, fun failed => ?_, ?_⟩
  · cases valveFirst
    · rw [scanned, Vdr.scan_of_ok ok]
      exact ⟨rfl, rfl⟩
    · rw [Vdr.scan_of_ok ok] at after
      exact ⟨after.q_of_vf rfl, after.source⟩
  · cases valveFirst
    · rw [scanned, Vdr.scan_of_failed failed]
      exact ⟨rfl, rfl, rfl, rfl, rfl⟩
    · rw [Vdr.scan_of_failed failed] at after
      have travel := after.travel_of_suspended rfl
      obtain ⟨check, count, stuck⟩ := Vdr.travel_eq_iff.1 travel
      exact ⟨after.q_of_command rfl rfl, after.source, check, count, stuck⟩
  · intro seen timed restarted tested ok
    have tested_eq : ∀ v, tested v = v.checkScan set.vf := fun v => (Vdr.checkScan_of_ok ok v).symm
    have restarted_eq : ∀ v, restarted v = v.startCheck := fun _ => rfl
    have seen_eq : ∀ v, seen v = v.travel := fun _ => rfl
    simp only [tested_eq, restarted_eq, seen_eq, Vdr.startCheck_travel]
    cases valveFirst
    · have kept : (s.completeScan false).vdr.travel = (w.checkScan set.vf).travel := by
        rw [scanned, Vdr.scan_of_ok ok]; rfl
      have command : (s.completeScan false).vdr.command = w.command := by
        rw [scanned]; exact (Vdr.scan_eq _ _ w).1
      obtain ⟨same, moved, -⟩ := before
      rw [kept, command]
      refine ⟨fun h => Vdr.checkScan_congr h (same h).1 _, fun _ h => by simp at h, fun h _ => ?_⟩
      obtain ⟨target, travel⟩ := Vdr.startCheck_of_command w.command s.vdr
      exact Vdr.checkScan_congr target.symm ((moved h).1.trans travel.symm) _
    · have command : (s.vdr.scan s.params set.vf).command = s.vdr.command := (Vdr.scan_eq _ _ _).1
      obtain ⟨same, moved, -⟩ := after
      rw [command, Vdr.scan_of_ok ok] at same moved
      exact ⟨fun h => (same h).1, fun h _ => (moved h).1, fun _ h => by simp at h⟩

/-! ### The command at an allotment issued (R142 to R144) -/

/-- The command after an allotment, by the frost state and the role (R142, R143). -/
theorem Vdr.stepped_cases (p : Params) (v : Vdr) :
    let free := v.frost = .clear ∨ v.frost = .guard
    (¬ free → v.stepped p = 1000)
      ∧ (free → v.role = .init ∨ v.role = .carrying ∨ v.role = .protect → v.stepped p = 1000)
      ∧ (free → v.role = .warming →
        v.stepped p = max (min 1000 (v.command + p.warmRate)) (minOpening p v.frost))
      ∧ (free → v.role = .shedding → v.fansAtRest = false → v.stepped p = 1000)
      ∧ (free → v.role = .shedding → v.fansAtRest = true →
        v.stepped p = max (v.command - p.shedRate) (minOpening p v.frost))
      ∧ (free → v.role = .resting → v.stepped p = minOpening p v.frost)
      ∧ (free → v.role = .withdrawn → v.stepped p = if v.drained then 0 else minOpening p v.frost) := by
  unfold Vdr.stepped Vdr.target
  cases frost : v.frost
  case protect => simp
  case recover => simp
  all_goals cases role : v.role <;> simp +contextual

theorem State.stageFans_vdr (changed : Bool) (m v : Nat) (s : State) : (s.stageFans changed m v).vdr
    = { s.vdr with fansAtRest := !(s.stageFans changed m v).fcc.anyTurning } := by
  simp [State.stageFans, State.setFcc, State.reportFans]

/-- The valve's step and the report of the fans, in the order that the command names (R143, R144). -/
theorem State.raiseAllotment_vdr (changed : Bool) (m v : Nat) (s : State) :
    (s.raiseAllotment true changed m v).vdr = { s.vdr.allotment s.params s.fde.role s.fde.drained with
        fansAtRest := !(s.raiseAllotment true changed m v).fcc.anyTurning }
      ∧ (s.raiseAllotment false changed m v).vdr = Vdr.allotment s.params s.fde.role s.fde.drained
        { s.vdr with fansAtRest := !(s.raiseAllotment false changed m v).fcc.anyTurning } := by
  refine ⟨State.stageFans_vdr changed m v s.stepValve, ?_⟩
  have stepped : (s.raiseAllotment false changed m v).vdr = (s.stageFans changed m v).stepValve.vdr := rfl
  have fans : (s.raiseAllotment false changed m v).fcc = (s.stageFans changed m v).fcc := rfl
  rw [stepped, fans, State.stepValve_vdr, ← State.stageFans_vdr]
  simp only [State.stageFans_frame]

/-- The valve's record after an allotment issued (R141, R143, R144). -/
theorem State.issue_vdr (l : Latched) (s : State) :
    (s.issue true l).vdr = { s.vdr.allotment s.params (s.record l).role (s.record l).drained with
        fansAtRest := !(s.issue true l).fcc.anyTurning }
      ∧ (s.issue false l).vdr = Vdr.allotment s.params (s.record l).role (s.record l).drained
        { s.vdr with fansAtRest := !(s.issue false l).fcc.anyTurning } := by
  have raised := State.raiseAllotment_vdr ((s.decideAndRecord l).fde.role != s.fde.role) (s.ownResult l).m
    (s.ownResult l).v ((s.decideAndRecord l).reportField (s.fieldResult l))
  have valve : ((s.decideAndRecord l).reportField (s.fieldResult l)).vdr = s.vdr := by simp
  have params : ((s.decideAndRecord l).reportField (s.fieldResult l)).params = s.params := by simp
  rw [valve, params] at raised
  exact raised

theorem Vdr.commanded_allotment (p : Params) (r : Role) (d : Bool) (v : Vdr) :
    v.Commanded p (v.allotment p r d) :=
  Vdr.commanded_setCommand p _ { v with role := r, drained := d, allotmentReceived := true }

theorem Vdr.allotment_command (p : Params) (r : Role) (d : Bool) (v : Vdr) :
    (v.allotment p r d).command = Vdr.stepped p { v with role := r, drained := d } :=
  (Vdr.setCommand_eq p _ { v with role := r, drained := d, allotmentReceived := true }).1

/-- The fans' report that the shed ramp sees at an allotment issued (log entry 4). -/
def State.restSeen (valveFirst : Bool) (l : Latched) (s : State) : Bool :=
  if valveFirst then s.vdr.fansAtRest else (s.issue valveFirst l).vdr.fansAtRest

/-- What neither a change of the command nor an allotment touches (R141, R149). -/
theorem Vdr.eq_of_kept {v w : Vdr} (frost : w.frost = v.frost) (stuck : w.stuck = v.stuck)
    (source : w.fromVF = v.fromVF) : w = { v with
      role := w.role, drained := w.drained, fansAtRest := w.fansAtRest
      allotmentReceived := w.allotmentReceived, command := w.command, check := w.check
      travelCount := w.travelCount, q := w.q } := by
  rw [← frost, ← stuck, ← source]

/-- The frame of the valve at an allotment issued, and its command's step. -/
theorem State.issue_vdr_steps (valveFirst : Bool) (l : Latched) (s : State) :
    (s.issue valveFirst l).vdr.command = Vdr.stepped s.params { s.vdr with
        role := (s.record l).role, drained := (s.record l).drained, fansAtRest := s.restSeen valveFirst l }
      ∧ s.vdr.Commanded s.params (s.issue valveFirst l).vdr
      ∧ (s.issue valveFirst l).vdr.frost = s.vdr.frost
      ∧ (s.issue valveFirst l).vdr.fansAtRest = !(s.issue valveFirst l).fcc.anyTurning := by
  obtain ⟨first, last⟩ := State.issue_vdr l s
  cases valveFirst
  · obtain ⟨-, -, frost, rest, -⟩ := Vdr.allotment_eq s.params (s.record l).role (s.record l).drained
      { s.vdr with fansAtRest := !(s.issue false l).fcc.anyTurning }
    have seen : s.restSeen false l = !(s.issue false l).fcc.anyTurning :=
      (congrArg Vdr.fansAtRest last).trans rest
    rw [seen, last]
    exact ⟨Vdr.allotment_command _ _ _ _, Vdr.commanded_allotment _ _ _ _, frost, rest⟩
  · obtain ⟨-, -, frost, -⟩ := Vdr.allotment_eq s.params (s.record l).role (s.record l).drained s.vdr
    rw [first]
    exact ⟨Vdr.allotment_command _ _ _ _, Vdr.commanded_allotment _ _ _ _, frost, rfl⟩

/-- Settles O42: the record's role and the frost state give the step, and a change of the command the rest. -/
theorem valveStepsAtAnAllotment : Obligations.ValveStepsAtAnAllotment := by
  intro valveFirst l s latched
  refine issued_record latched valveFirst ?_
  intro p before least atRest free
  obtain ⟨command, commanded, frost, rest⟩ := State.issue_vdr_steps valveFirst l s
  obtain ⟨role, drained, received⟩ := State.issue_vdr_reports valveFirst l s
  have stuck := commanded.stuck
  obtain ⟨same, moved, source⟩ := commanded
  obtain ⟨forced, wide, warming, turning, still, resting, withdrawn⟩ := Vdr.stepped_cases s.params { s.vdr with
    role := (s.record l).role, drained := (s.record l).drained, fansAtRest := s.restSeen valveFirst l }
  rw [← command] at forced wide warming turning still resting withdrawn
  refine ⟨?_, forced, wide, warming, turning, still, resting, withdrawn, fun h => ?_,
    fun h => ⟨fun active => ?_, fun own => ?_, fun read => ?_⟩⟩
  · exact (Vdr.eq_of_kept frost stuck source).trans (by rw [role, drained, received, rest]; rfl)
  · obtain ⟨travel, q⟩ := same h
    obtain ⟨check, count, -⟩ := Vdr.travel_eq_iff.1 travel
    exact ⟨check, count, q⟩
  · obtain ⟨check, count, -⟩ := Vdr.travel_eq_restart (moved h).1 active
    exact ⟨check, count⟩
  · rw [(moved h).2, own]; rfl
  · rw [(moved h).2, read]; rfl

end Sys2Proof.Machine
end

section
/-! PROOFS. T_ORD's expiry, the travel time, and the expiries that are not due (R146, R148, R156, R165, R171). -/

namespace Sys2Proof.Machine

/-- An owner's part that leaves `t` but for the alerts leaves it so with the cadence's count too (R171). -/
theorem State.withCycleEnd_eq_but_aou {act : State → State} {s t : State}
    (only : act s = { t with aou := (act s).aou }) :
    s.withCycleEnd act = { t with aou := (s.withCycleEnd act).aou } := by
  have replaced : ∀ a, { act s with aou := a } = { t with aou := a } := fun a =>
    congrArg (fun u : State => { u with aou := a }) only
  rw [State.withCycleEnd_eq]
  exact replaced _

/-! ### T_ORD (R156, R165) -/

theorem State.ordExpired_of_taken {s : State} (taken : s.ord.taken = true) :
    s.ordExpired = s.report .panelSilent true := if_pos taken

theorem State.ordExpired_of_untaken {s : State} (untaken : s.ord.taken = false) : s.ordExpired = s :=
  if_neg (by simp [untaken])

/-- The ORD reports PANEL_SILENT at most (R165). -/
theorem State.ordExpired_aou (s : State) : s.ordExpired = { s with aou := s.ordExpired.aou }
    ∧ ∃ live, s.ordExpired.aou = s.aou.take s.enables s.params.selects live := by
  cases taken : s.ord.taken
  · rw [State.ordExpired_of_untaken taken]
    exact ⟨rfl, _, (Aou.take_self _ _ _).symm⟩
  · rw [State.ordExpired_of_taken taken]
    exact ⟨rfl, _, State.reportLive_aou _ s⟩

theorem State.report_live (c : Category) (on : Bool) (s : State) : hasAlert (s.report c on).aou.live c = on := by
  rw [State.report, State.reportLive_live, hasAlert_putAlert, if_pos rfl]

/-! ### The travel time (R146, R148) -/

theorem Vdr.travelDue_iff (p : Params) (v : Vdr) :
    v.travelDue p = true ↔ v.check = .timing ∧ p.travelTime ≤ v.travelCount := by
  simp [Vdr.travelDue]

theorem State.declareStuck_aou (s : State) : s.declareStuck.aou
    = s.aou.take s.enables s.params.selects (putAlert s.aou.live .valveStuck true) := rfl

/-! ### Expiries that are not due (R156; log entries 1, 7) -/

theorem State.takeExpiry_of_running {id : TimerId} {s : State} (undue : (s.timer id).due = false)
    (owner : State → State) : s.takeExpiry id owner = s := if_neg (by simp [undue])

/-- The owner's part of each timer's expiry. -/
def expiryOwner : TimerId → State → State
  | .rot => State.rotExpired
  | .warm => State.warmExpired
  | .shed => State.shedExpired
  | .exer => State.exercise
  | .ice => State.iceExpired
  | .guard => State.guardExpired
  | .prot => State.protExpired
  | .recov => State.recovExpired
  | .stag => State.withCycleEnd State.stagExpired
  | .ord => State.withCycleEnd State.ordExpired

/-- Every expiry command takes its own timer's expiry. -/
theorem exec_expiry {id : TimerId} {e : Instr} (own : (id, e) ∈ [(TimerId.rot, Instr.tRotExpiry),
      (.warm, .tWarmExpiry), (.shed, .tShedExpiry), (.exer, .tExerExpiry), (.ice, .tIceExpiry),
      (.guard, .tGuardExpiry), (.prot, .tProtExpiry), (.recov, .tRecovExpiry), (.stag, .tStagExpiry),
      (.ord, .tOrdExpiry)]) (s : State) : exec e s = .next (s.takeExpiry id (expiryOwner id)) := by
  simp only [List.mem_cons, Prod.mk.injEq, List.not_mem_nil, or_false] at own
  rcases own with ⟨rfl, rfl⟩ | ⟨rfl, rfl⟩ | ⟨rfl, rfl⟩ | ⟨rfl, rfl⟩ | ⟨rfl, rfl⟩ | ⟨rfl, rfl⟩ | ⟨rfl, rfl⟩ | ⟨rfl, rfl⟩
    | ⟨rfl, rfl⟩ | ⟨rfl, rfl⟩
  all_goals rfl

/-- Settles O47: each report goes to the AOU alone, with the cadence's count where it begins to qualify. -/
theorem orderSilenceAndTravelTime : Obligations.OrderSilenceAndTravelTime := by
  intro s
  refine ⟨fun due => ?_, fun timing reached => ?_, fun short => ?_, fun id e own undue => ?_⟩
  · refine ⟨_, congrArg Host.Outcome.next (State.takeExpiry_of_due due _), ?_⟩
    obtain ⟨only, live, expired⟩ := State.ordExpired_aou (s.expire .ord)
    have whole := State.withCycleEnd_eq_but_aou (t := s.expire .ord) only
    have timer := fun id => State.timer_congr (congrArg State.itb whole) id
    refine ⟨?_, State.withCycleEnd_begins (s := s.expire .ord) expired (congrArg State.params only :), ?_,
      fun id h => ?_, fun taken => ?_, fun untaken => ?_⟩
    · rw [congrArg State.itb whole]
      exact whole
    · exact (timer .ord).trans (State.timer_expire_single rfl s)
    · exact (timer id).trans (State.timer_expire_ne h s)
    · rw [(State.withCycleEnd_live _ _).1, State.ordExpired_of_taken (s := s.expire .ord) taken]
      exact State.report_live _ _ _
    · rw [State.withCycleEnd_of_still (State.ordExpired_of_untaken (s := s.expire .ord) untaken)]
      rfl
  · refine ⟨_, if_pos ((Vdr.travelDue_iff _ _).2 ⟨timing, reached⟩), ?_,
      State.withCycleEnd_begins s.declareStuck_aou rfl, ?_⟩
    · exact State.withCycleEnd_eq_but_aou (t := s.setStuck) rfl
    · rw [(State.withCycleEnd_live _ _).1]
      exact State.report_live _ _ _
  · refine if_neg fun h => ?_
    obtain ⟨timing, reached⟩ := (Vdr.travelDue_iff _ _).1 h
    exact short.elim (· timing) (absurd reached ·.not_ge)
  · rw [exec_expiry own, State.takeExpiry_of_running undue]

end Sys2Proof.Machine
end

section
/-! PROOFS. How long a loaded timer counts: its base units left, the cycle ends left until it is due, and the
countdown along the cycle ends (R151, R154, R155; log entry 7). -/

namespace Sys2Proof.Machine

/-! ### What a count does, case by case (R155) -/

theorem Timer.count_of_idle {t : Timer} (idle : t.running = false) (minute : Bool) (tp : TimerParams) :
    t.count minute tp = t := if_pos (by simp [idle])

theorem Timer.count_of_pending {t : Timer} (running : t.running = true) (pending : t.main ≠ 0) (minute : Bool)
    (tp : TimerParams) : t.count minute tp
      = if minute then if t.sub + 1 < 60 then { t with sub := t.sub + 1 } else { t with sub := 0 }.baseUnit tp
        else t.baseUnit tp :=
  if_neg (by simp [Timer.due, running, pending])

/-! ### Base units left -/

/-- A running timer with `units` base units left until its main count reaches 0: its counts as one number, which
falls by one with each base unit. -/
structure Timer.UnitsLeft (tp : TimerParams) (units : Nat) (t : Timer) : Prop where
  running : t.running = true
  prescaler_pos : 1 ≤ t.prescaler
  prescaler_le : t.prescaler ≤ tp.p
  counts : t.main * tp.p + t.prescaler = units + tp.p

theorem Timer.unitsLeft_load {tp : TimerParams} (p_pos : 1 ≤ tp.p) (t : Timer) :
    (t.load tp).UnitsLeft tp (tp.p * tp.c) :=
  ⟨rfl, p_pos, le_rfl, by rw [Timer.load, Nat.mul_comm tp.c]⟩

/-- The sub-minute count is no part of the base units. -/
theorem Timer.UnitsLeft.setSub {tp : TimerParams} {units : Nat} {t : Timer} (h : t.UnitsLeft tp units) (sub : Nat) :
    { t with sub := sub }.UnitsLeft tp units := ⟨h.running, h.prescaler_pos, h.prescaler_le, h.counts⟩

/-- The main count is 0 when no base unit is left, and only then. -/
theorem Timer.UnitsLeft.main_eq_zero_iff {tp : TimerParams} {units : Nat} {t : Timer} (h : t.UnitsLeft tp units) :
    t.main = 0 ↔ units = 0 := by
  obtain ⟨-, pos, le, counts⟩ := h
  constructor
  · intro none
    rw [none, Nat.zero_mul] at counts
    omega
  · rintro rfl
    by_contra some
    have := Nat.le_mul_of_pos_left tp.p (Nat.pos_of_ne_zero some)
    omega

theorem Timer.UnitsLeft.due_iff {tp : TimerParams} {units : Nat} {t : Timer} (h : t.UnitsLeft tp units) :
    t.due = true ↔ units = 0 := by
  rw [← h.main_eq_zero_iff]
  simp [Timer.due, h.running]

/-- A base unit takes one off: off the prescaler, or off the main count with the prescaler full again (R155). -/
theorem Timer.UnitsLeft.baseUnit {tp : TimerParams} {units : Nat} {t : Timer} (h : t.UnitsLeft tp (units + 1)) :
    (t.baseUnit tp).UnitsLeft tp units := by
  have pending : t.main ≠ 0 := fun none => absurd (h.main_eq_zero_iff.1 none) units.succ_ne_zero
  obtain ⟨running, pos, le, counts⟩ := h
  rw [Timer.baseUnit]
  split
  next last =>
    obtain ⟨main, rest⟩ := Nat.exists_eq_succ_of_ne_zero pending
    rw [rest, Nat.succ_mul] at counts
    refine ⟨running, pos.trans le, le_rfl, ?_⟩
    simp only [rest, Nat.succ_sub_one]
    omega
  next more =>
    exact ⟨running, Nat.le_sub_one_of_lt (not_le.1 more), (Nat.sub_le _ _).trans le, by simp only; omega⟩

/-! ### Cycle ends left -/

/-- A running timer due after `ends` cycle ends more: its base units left and, on a minute base, less the cycle ends
that its sub-minute count holds of the next one (R151, R155). -/
def Timer.DueIn (minute : Bool) (tp : TimerParams) (ends : Nat) (t : Timer) : Prop :=
  match minute with
  | true => t.sub < 60 ∧ ∃ units, t.UnitsLeft tp units ∧ 60 * units = ends + t.sub
  | false => t.UnitsLeft tp ends

theorem Timer.dueIn_load {tp : TimerParams} (p_pos : 1 ≤ tp.p) (minute : Bool) (t : Timer) :
    (t.load tp).DueIn minute tp (if minute then 60 * (tp.p * tp.c) else tp.p * tp.c) :=
  match minute with
  | true => ⟨Nat.succ_pos 59, _, Timer.unitsLeft_load p_pos t, rfl⟩
  | false => Timer.unitsLeft_load p_pos t

theorem Timer.DueIn.running {minute : Bool} {tp : TimerParams} {ends : Nat} {t : Timer} (h : t.DueIn minute tp ends) :
    t.running = true :=
  match minute, h with
  | true, ⟨_, _, left, _⟩ => left.running
  | false, left => Timer.UnitsLeft.running left

/-- A timer is due when no cycle end is left, and only then (log entry 7). -/
theorem Timer.DueIn.due_iff {minute : Bool} {tp : TimerParams} {ends : Nat} {t : Timer} (h : t.DueIn minute tp ends) :
    t.due = true ↔ ends = 0 := by
  cases minute with
  | true =>
    obtain ⟨sub, units, left, whole⟩ := h
    rw [left.due_iff]
    omega
  | false => exact Timer.UnitsLeft.due_iff h

/-- A cycle end counted is one less left (R155). -/
theorem Timer.DueIn.count {minute : Bool} {tp : TimerParams} {ends : Nat} {t : Timer}
    (h : t.DueIn minute tp (ends + 1)) : (t.count minute tp).DueIn minute tp ends := by
  have pending : t.main ≠ 0 := fun none =>
    absurd (h.due_iff.1 (by simp [Timer.due, h.running, none])) ends.succ_ne_zero
  rw [Timer.count_of_pending h.running pending]
  cases minute with
  | true =>
    obtain ⟨sub, units, left, whole⟩ := h
    rw [if_pos rfl]
    split
    next within => exact ⟨within, units, left.setSub _, by simp only; omega⟩
    next full =>
      obtain ⟨rest, rfl⟩ : ∃ rest, units = rest + 1 := ⟨units - 1, by omega⟩
      have taken := (left.setSub 0).baseUnit
      have sub_zero : ({ t with sub := 0 }.baseUnit tp).sub = 0 := by
        unfold Timer.baseUnit
        split <;> rfl
      exact ⟨by rw [sub_zero]; exact Nat.succ_pos 59, rest, taken, by rw [sub_zero]; omega⟩
  | false => exact Timer.UnitsLeft.baseUnit h

/-- The countdown along `n` cycle ends. -/
theorem Timer.DueIn.repeat_count {minute : Bool} {tp : TimerParams} {t : Timer} (n : Nat) {ends : Nat}
    (h : t.DueIn minute tp (ends + n)) : (Nat.repeat (Timer.count minute tp) n t).DueIn minute tp ends := by
  induction n generalizing ends with
  | zero => exact h
  | succ n ih => exact (ih (ends := ends + 1) (by rwa [Nat.add_right_comm])).count

/-- Settles O43: the load sets the countdown to the duration, and each cycle end takes one off it. -/
theorem timerIsDueAfterItsDuration : Obligations.TimerIsDueAfterItsDuration := by
  refine ⟨fun minute tp t idle => Timer.count_of_idle idle minute tp, ?_⟩
  intro minute p c t p_pos _ duration after
  have loaded : (t.load ⟨p, c⟩).DueIn minute ⟨p, c⟩ duration := Timer.dueIn_load p_pos minute t
  have left : ∀ n ends, duration = ends + n → (after n).DueIn minute ⟨p, c⟩ ends := fun n _ total =>
    Timer.DueIn.repeat_count n (total ▸ loaded)
  refine ⟨fun n before => ?_, (left duration 0 (Nat.zero_add _).symm).due_iff.2 rfl⟩
  have counting := left n (duration - n) (Nat.sub_add_cancel before.le).symm
  exact ⟨counting.running, Bool.eq_false_iff.2 fun due =>
    absurd (counting.due_iff.1 due) (Nat.sub_ne_zero_of_lt before)⟩

end Sys2Proof.Machine
end

section
/-! PROOFS. The alerts kept: what reaches the Alert Output, that each of it keeps flags, line and cadence, and every
step with it; and the clear request of the service port (R167, R168, R170, R171, R179). -/

namespace Sys2Proof.Machine

/-! ### Flags, line and cadence (R167, R168, R170, R171) -/

/-- The line is asserted exactly in REPORT (R171). -/
def Aou.Shows (a : Aou) : Prop := a.line = (a.cadence == .report)

/-- What the Alert Output keeps under the enables and selects in force (R167, R170, R171). -/
structure Aou.Sound (enables selects : AlertMask) (a : Aou) : Prop where
  latches : a.Latches
  idle_iff : a.cadence = .idle ↔ a.qualifies enables selects = false
  shows : a.Shows

/-- No condition is live without its flag, read on the masks or category by category (R167). -/
theorem latchesLive_iff (s : State) : LatchesLive s ↔ s.aou.Latches := by
  refine ⟨LatchesLive.latches, fun latches => eq_of_hasAlert fun c => ?_⟩
  cases live : hasAlert s.aou.live c
  · simp_all [hasAlert]
  · have latched := latches c live
    simp_all [hasAlert]

theorem Aou.Latches.congr {a b : Aou} (h : a.Latches) (live : b.live = a.live) (latched : b.latched = a.latched) :
    b.Latches := by
  unfold Aou.Latches
  rwa [live, latched]

section
variable {enables selects : AlertMask} {a : Aou}

/-- Once qualifying is evaluated, IDLE stands exactly while the line does not qualify, whatever stood before
(R170, R171). -/
theorem Aou.reeval_idle_iff : (a.reeval enables selects).cadence = .idle ↔ a.qualifies enables selects = false := by
  unfold Aou.reeval
  cases a.qualifies enables selects <;> by_cases idle : a.cadence = .idle <;> simp [idle]

theorem Aou.Shows.reeval (h : a.Shows) (enables selects : AlertMask) : (a.reeval enables selects).Shows := by
  unfold Aou.reeval
  split
  · split
    · rfl
    · exact h
  · split
    · exact h
    · rfl

/-- Evaluating qualifying puts the cadence right (R170). -/
theorem Aou.sound_reeval (latches : a.Latches) (shows : a.Shows) (enables selects : AlertMask) :
    (a.reeval enables selects).Sound enables selects := by
  obtain ⟨live, latched⟩ := Aou.reeval_live enables selects a
  refine ⟨latches.congr live latched, ?_, shows.reeval enables selects⟩
  rw [Aou.qualifies_congr live latched]
  exact Aou.reeval_idle_iff

theorem Aou.Shows.take (h : a.Shows) (enables selects live : AlertMask) : (a.take enables selects live).Shows := by
  unfold Aou.take
  split
  · exact h
  · exact Aou.Shows.reeval (a := { a with live := live, latched := a.latched ||| live }) h enables selects

theorem Aou.Sound.take (h : a.Sound enables selects) (live : AlertMask) :
    (a.take enables selects live).Sound enables selects := by
  unfold Aou.take
  split
  · exact h
  · have joined : Aou.Latches { a with live := live, latched := a.latched ||| live } := fun c on => by
      rw [hasAlert_or, show hasAlert live c = true from on, Bool.or_true]
    exact Aou.sound_reeval joined h.shows enables selects

/-- A clear leaves the flags of live conditions, and qualifying is evaluated after it (R168, R170). -/
theorem Aou.Sound.clear (h : a.Sound enables selects) (mask : AlertMask) :
    (a.clear enables selects mask).Sound enables selects := by
  have spared : Aou.Latches { a with latched := a.latched &&& (~~~mask ||| a.live) } := fun c on => by
    have live : hasAlert a.live c = true := on
    have latched := h.latches c live
    simp_all [hasAlert, c.bit_lt]
  exact Aou.sound_reeval spared h.shows enables selects

theorem Aou.Shows.cycleEnd (h : a.Shows) (report space : Nat) : (a.cycleEnd report space).Shows := by
  unfold Aou.cycleEnd
  split
  next => exact h
  next inReport =>
    split
    · rfl
    · exact h
  next inSpace =>
    split
    · rfl
    · exact h

/-- A cycle end turns the line with the cadence, and touches neither flags nor IDLE (R171). -/
theorem Aou.Sound.cycleEnd (h : a.Sound enables selects) (report space : Nat) :
    (a.cycleEnd report space).Sound enables selects := by
  obtain ⟨live, latched⟩ := Aou.cycleEnd_masks report space a
  refine ⟨h.latches.congr live latched, ?_, h.shows.cycleEnd report space⟩
  rw [Aou.cycleEnd_idle, Aou.qualifies_congr live latched]
  exact h.idle_iff

end

/-! ### What reaches the Alert Output -/

/-- What one event makes of the Alert Output: a report of live conditions, a clear, or a count of the cadence
(R167, R168, R171). -/
inductive State.AlertEvent (s : State) : Aou → Prop
  | report (live : AlertMask) : s.AlertEvent (s.aou.take s.enables s.params.selects live)
  | clear (mask : AlertMask) : s.AlertEvent (s.aou.clear s.enables s.params.selects mask)
  | count : s.AlertEvent (s.aou.cycleEnd s.params.reportInterval s.params.spaceInterval)

namespace State.AlertEvent
variable {s u : State} {a : Aou}

/-- A report of the conditions that stand changes nothing (log entry 14). -/
theorem still (same : a = s.aou) : s.AlertEvent a := by
  rw [same, ← Aou.take_self s.enables s.params.selects s.aou]
  exact .report _

/-- An event that begins where the Alert Output, the parameters and the load stand as in `s`. -/
theorem congr (h : u.AlertEvent a) (aou : u.aou = s.aou) (params : u.params = s.params)
    (loaded : u.loaded = s.loaded) : s.AlertEvent a := by
  have enables : u.enables = s.enables := by unfold State.enables; rw [loaded, params]
  cases h with
  | report live => rw [aou, params, enables]; exact .report live
  | clear mask => rw [aou, params, enables]; exact .clear mask
  | count => rw [aou, params]; exact .count

theorem countIf (b : Bool) (s : State) :
    s.AlertEvent (s.aou.countIf b s.params.reportInterval s.params.spaceInterval) := by
  cases b with
  | false => exact .still rfl
  | true => exact .count

/-- The monitor that takes a report of role reports its conditions where it is suspended, and else nothing
(R113, R116). -/
theorem cfmReport (s : State) : s.AlertEvent s.cfmReport.aou := by
  have suspended : s.AlertEvent s.suspend.aou :=
    congr (u := s.suspendCfm.stopFrostTimers) (.report _) (by simp) (by simp) (by simp)
  unfold State.cfmReport
  split
  · split
    · exact .still rfl
    · exact suspended
  · exact .still rfl

theorem setFrost (new : FrostState) (s : State) : s.AlertEvent (s.setFrost new).aou := by
  rw [State.setFrost_aou, State.announceFrost_aou]
  exact .report _

/-- Stage 10 and the record come before the field alerts, the valve and the fans after them; these leave the Alert
Output alone (R80, R82, R83). -/
theorem issue (valveFirst : Bool) (l : Latched) (s : State) : s.AlertEvent (s.issue valveFirst l).aou := by
  have reported : (s.issue valveFirst l).aou = ((s.decideAndRecord l).reportField (s.fieldResult l)).aou := by
    simp [State.issue]
  rw [reported]
  exact congr (u := s.decideAndRecord l) (.report _) (by simp) (by simp) (by simp)

/-- What a move does to the Alert Output is one event of it. -/
theorem ofMove {s t : State} (hm : Move s t) : s.AlertEvent t.aou := by
  cases hm with
  | changeRole cause new drained s forced =>
    exact congr (u := (s.enterRole cause new drained).vdrReport.fccReport) (.cfmReport _)
      (by simp) (by simp) (by simp)
  | drain drained s role =>
    exact congr (u := (s.putDrained drained).vdrReport) (.cfmReport _) rfl rfl rfl
  | enterProtect causes s frost active =>
    exact congr (u := { s.protectTimers with cfm := s.cfm.trip causes }) (.setFrost _ _)
      (by simp) (by simp) (by simp)
  | enterGuard s frost active =>
    exact congr (u := (s.startTimer .guard).putGuardPending false) (.setFrost _ _) (by simp) (by simp) (by simp)
  | releaseGuard s frost =>
    exact congr (u := (s.stopTimer .guard).putGuardPending false) (.setFrost _ _) (by simp) (by simp) (by simp)
  | enterRecover s frost spent =>
    exact congr (u := (s.startTimer .recov).putProtectPending false) (.setFrost _ _) (by simp) (by simp) (by simp)
  | endRecover s frost spent => exact .setFrost _ s
  | rotateDue | coldJoin | holdGuard | extendGuard | holdProtect | startStag | startTimer | expire =>
    exact .still (by simp)
  | fans | still | convert | readImage | order | port | spend => exact .still rfl
  | fansIced f s hand => exact congr (u := s.setFcc f) (.report _) rfl rfl rfl
  | stillIced | checkValve | judgeSensors | panelSilent => exact .report _
  | countCadence s => exact .count
  | clearAlerts mask s => exact .clear mask
  | issue valveFirst l s latched => exact .issue valveFirst l s

end State.AlertEvent

/-! ### Every event of the line -/

/-- The Alert Output is as it must be under the parameters in force. -/
def State.AlertsSound (s : State) : Prop := s.aou.Sound s.enables s.params.selects

theorem alertsSound_iff (s : State) : s.AlertsSound ↔ LatchesLive s ∧ LineFollowsCadence s := by
  rw [latchesLive_iff]
  exact ⟨fun ⟨latches, idle_iff, shows⟩ => ⟨latches, idle_iff, shows⟩,
    fun ⟨latches, idle_iff, shows⟩ => ⟨latches, idle_iff, shows⟩⟩

namespace State.AlertsSound
variable {s t : State}

theorem event (h : s.AlertsSound) (e : s.AlertEvent t.aou) (params : t.params = s.params)
    (loaded : t.loaded = s.loaded) : t.AlertsSound := by
  have enables : t.enables = s.enables := by unfold State.enables; rw [loaded, params]
  unfold State.AlertsSound
  rw [params, enables]
  generalize t.aou = a at e
  cases e with
  | report live => exact Aou.Sound.take h live
  | clear mask => exact Aou.Sound.clear h mask
  | count => exact Aou.Sound.cycleEnd h _ _

/-- An event that does not reach the Alert Output. -/
theorem same (h : s.AlertsSound) (aou : t.aou = s.aou) (params : t.params = s.params)
    (loaded : t.loaded = s.loaded) : t.AlertsSound := h.event (.still aou) params loaded

theorem move (hm : Move s t) (h : s.AlertsSound) : t.AlertsSound := by
  obtain ⟨-, -, -, params, -, loaded⟩ := hm.frame
  exact h.event (.ofMove hm) params loaded

theorem arrival (ha : Arrival s t) (h : s.AlertsSound) : t.AlertsSound := by
  cases ha with
  | move hm => exact h.move hm
  | crc | misaligned | order | jump | join => exact h.same rfl rfl rfl
  | bulletin k cs s valid => exact h.event (.report _) (by simp) (by simp)
  | duplicate s bus => exact h.event (.report _) (by simp) (by simp)

/-- The cadence's count and the beginning of BUS_ISOLATED are events of their own, in either order (R23, R171;
log entry 4). -/
theorem endCycle (h : s.AlertsSound) (cadenceFirst : Bool) : (s.endCycle cadenceFirst).AlertsSound := by
  have counted : ((s.chooseOrder cadenceFirst).countCadenceIf cadenceFirst).AlertsSound :=
    h.event (by rw [State.countCadenceIf_aou]; exact .countIf _ s) (by simp) (by simp)
  have isolated : ((s.chooseOrder cadenceFirst).countCadenceIf cadenceFirst).countIsolation.AlertsSound := by
    generalize (s.chooseOrder cadenceFirst).countCadenceIf cadenceFirst = u at counted
    by_cases isolates : u.lsc.isolates u.own
    · exact counted.event (by rw [State.countIsolation_aou_of isolates]; exact .report _) (by simp) (by simp)
    · exact counted.same (State.countIsolation_aou_not isolates) (by simp) (by simp)
  refine isolated.event ?_ (by simp) (by simp)
  rw [State.endCycle_aou]
  simpa using State.AlertEvent.countIf (!cadenceFirst)
    ((s.chooseOrder cadenceFirst).countCadenceIf cadenceFirst).countIsolation

/-- The load's reports come under the new enables and selects, and qualifying is then evaluated under them; only the
flags and the line need to stand from before (R170, R175). -/
theorem completeLoad (h : s.AlertsSound) : s.completeLoad.AlertsSound := by
  obtain ⟨latches, -, shows⟩ := h
  obtain ⟨loaded, params, -⟩ := State.completeLoad_blocks s
  have enables : s.completeLoad.enables = s.cfl.params.enables := by simp [State.enables, loaded, params]
  unfold State.AlertsSound
  rw [enables, params, State.completeLoad_aou]
  obtain ⟨-, iced⟩ := latches.take s.cfl.params.enables s.cfl.params.selects
    (putAlert s.aou.live .fanIce (s.fcc.fit s.cfl.params.nFit).anyIced)
  exact Aou.sound_reeval (iced.take _ _ _).2 ((shows.take _ _ _).take _ _ _) _ _

theorem reset : State.reset.AlertsSound :=
  (alertsSound_iff _).2 ⟨by unfold LatchesLive; decide, LineFollowsCadence.reset⟩

theorem line {c : Instr} (hl : Line c s t) (h : s.AlertsSound) : t.AlertsSound := by
  cases hl with
  | move hm => exact h.move hm
  | load f s early => exact completeLoad (s := { s with cfl := f }) h
  | frame r chars s rx =>
    exact (State.completeFrame_arrivals r chars s).keeps (P := State.AlertsSound) (fun _ _ => arrival) h
  | endCycle f s hc raises passed => exact h.endCycle f
  | reset s hc => exact reset
  | advance | release | beginFrame | stray | compose | send | mismatch | endClean | openActive | markAgeing =>
    exact h.same (by simp) (by simp) (by simp)

end State.AlertsSound

/-- Settles O56: reports, clears and counts are all that reaches the Alert Output, each keeps it sound, and the load
evaluates qualifying under the parameters that it hands out. -/
theorem everyStepKeepsTheAlerts : Obligations.EveryStepKeepsTheAlerts := by
  intro s t sound hst
  rw [← alertsSound_iff] at sound ⊢
  exact step_keeps (P := State.AlertsSound) (fun _ _ h => h)
    (fun _ _ _ h he => (exec_lines he).keeps (fun _ _ => State.AlertsSound.line) h) sound hst

/-! ### The clear request (R168, R179) -/

/-- A flag after a clear: it stands where it is not of the clear's categories, or its condition is live (R168). -/
theorem Aou.hasAlert_clear (enables selects mask : AlertMask) (a : Aou) (c : Category) :
    hasAlert (a.clear enables selects mask).latched c
      = (hasAlert a.latched c && (!hasAlert mask c || hasAlert a.live c)) := by
  unfold Aou.clear
  rw [(Aou.reeval_live _ _ _).2]
  simp [hasAlert, c.bit_lt]

/-- A clear changes no live condition (R168). -/
theorem Aou.clear_live (enables selects mask : AlertMask) (a : Aou) :
    (a.clear enables selects mask).live = a.live := (Aou.reeval_live _ _ _).1

/-- The mask of a clear request names a category by its bit in the two characters (R26, R179). -/
theorem hasAlert_word16 (high low : Byte) (c : Category) :
    hasAlert ((word16 high low).extractLsb' 0 12) c = (high ++ low).getLsbD c.bit := by
  simp [hasAlert, word16, c.bit_lt]

/-- Settles O53: the request is a clear of its mask's categories, and the answer touches the port alone. -/
theorem clearRequestClearsTheMaskedFlags : Obligations.ClearRequestClearsTheMaskedFlags := by
  intro high low s receiving request
  refine ⟨{ s.clearAlerts ((word16 high low).extractLsb' 0 12) with svp := s.svp.answerOne 0x06 }, ?_, rfl, ?_,
    fun c => ?_⟩
  · simp only [exec, execClearRequest, receiving, request]
    rfl
  · exact Aou.clear_live _ _ _ _
  · rw [← hasAlert_word16]
    exact Aou.hasAlert_clear _ _ _ _ c

end Sys2Proof.Machine
end

section
/-! PROOFS. SCL held low in the image read, and the service port's characters, limit, quiet end, response end and STX
(R174, R175, R177, R178). -/

namespace Sys2Proof.Machine

/-! ### Bytes read before SCL is held low (R174) -/

/-- A byte taken while the read is in progress stands in the image, whatever it ends (R174). -/
theorem Cfl.readByte_of_loading {c : Cfl} (loading : c.state = .loading) (b : Byte) :
    (c.readByte b).image = c.image ++ [b] ∧ (c.readByte b).pointer = c.pointer + 1 := by
  unfold Cfl.readByte
  rw [if_neg (by simp [loading])]
  dsimp only
  repeat' split
  all_goals exact ⟨rfl, rfl⟩

/-- A read that is still in progress has taken every byte that it was given (R174). -/
theorem Cfl.read_of_loading {bytes : List Byte} {c : Cfl} (loading : (c.read bytes).state = .loading) :
    (c.read bytes).image = c.image ++ bytes ∧ (c.read bytes).pointer = c.pointer + bytes.length := by
  induction bytes generalizing c with
  | nil => exact ⟨(List.append_nil _).symm, rfl⟩
  | cons b bytes ih =>
    cases before : c.state with
    | done =>
      rw [Cfl.read_of_done before, before] at loading
      contradiction
    | loading =>
      obtain ⟨image, pointer⟩ := Cfl.readByte_of_loading before b
      obtain ⟨images, pointers⟩ := ih (c := c.readByte b) loading
      refine ⟨images.trans ?_, pointers.trans ?_⟩
      · rw [image, List.append_assoc, List.singleton_append]
      · rw [pointer, List.length_cons, Nat.add_assoc, Nat.add_comm 1]

/-- SCL held low in a read in progress ends it, unless the bytes before it have done so (R174). -/
theorem exec_sclHoldTimeout {s : State} (released : s.released = true) (loading : s.cfl.state = .loading)
    (bytes : List Byte) : exec (.sclHoldTimeout bytes) s = .next { s with
      cfl := if (s.cfl.read bytes).state = .done then s.cfl.read bytes else (s.cfl.read bytes).finish .noAck } :=
  if_pos ⟨released, loading⟩

/-- Settles O5: while the read is in progress every byte is taken and none reaches the defaults flag; what has ended
already is left as it is. -/
theorem sclHeldLowEndsTheReadWithNoAck : Obligations.SclHeldLowEndsTheReadWithNoAck := by
  intro bytes s released loading
  rw [exec_sclHoldTimeout released loading]
  refine ⟨fun unfinished => ?_, fun done => by rw [if_pos done]⟩
  obtain ⟨image, pointer⟩ := Cfl.read_of_loading unfinished
  rw [if_neg (by simp [unfinished])]
  exact ⟨_, rfl, rfl, image, pointer, Cfl.read_defaults bytes s.cfl⟩

/-! ### Characters at the service port (R177) -/

theorem beginsRequest_iff (c : Byte) : beginsRequest c = true ↔ c = 0x52 ∨ c = 0x43 := by simp [beginsRequest]

/-- A request in hand has its last character when it is as long as its first one says (R177). -/
theorem requestWhole_cons (first : Byte) (rest : List Byte) :
    requestWhole (first :: rest) = true ↔ (if first = 0x52 then 4 else 3) ≤ rest.length + 1 :=
  decide_eq_true_iff

/-- The port in IDLE: a first character of a request is taken, any other makes the port wait for quiet (R177). -/
theorem Svp.take_of_idle {p : Svp} (idle : p.port = .idle) (c : Byte) : p.take c
    = if beginsRequest c then { p with port := .receiving, request := [c] } else { p with port := .quiet } := by
  simp only [Svp.take, idle]

/-- The port in RECEIVING: a character is taken until the request is whole (R177; log entry 17). -/
theorem Svp.take_of_receiving {p : Svp} (receiving : p.port = .receiving) (c : Byte) :
    p.take c = if requestWhole p.request then p else { p with request := p.request ++ [c] } := by
  simp only [Svp.take, receiving]

/-- A character dropped in IDLE makes the port wait for quiet, unless it begins a request and came without a framing
error (R177). -/
theorem Svp.drop_of_idle {p : Svp} (idle : p.port = .idle) (c : Byte) (framingError : Bool) : p.drop c framingError
    = if framingError || !beginsRequest c then { p with port := .quiet, request := [] } else p := by
  simp only [Svp.drop, idle]

/-- A framing error in RECEIVING drops the request (R177). -/
theorem Svp.drop_of_receiving {p : Svp} (receiving : p.port = .receiving) (c : Byte) (framingError : Bool) :
    p.drop c framingError = if framingError then { p with port := .quiet, request := [] } else p := by
  simp only [Svp.drop, receiving]

/-- In SENDING and QUIET the port takes no character (R177). -/
theorem Svp.characters_of_deaf {p : Svp} (deaf : p.port = .sending ∨ p.port = .quiet) (c : Byte) (bad : Bool) :
    p.take c = p ∧ p.drop c bad = p := by
  rcases deaf with port | port <;> simp only [Svp.take, Svp.drop, port, and_self]

theorem exec_serviceRequestCharacter {s : State} (released : s.released = true) (c : Byte) :
    exec (.serviceRequestCharacter c) s = .next { s with svp := s.svp.take c } := if_pos released

theorem exec_serviceCharacterDropped {s : State} (released : s.released = true) (c : Byte) (bad : Bool) :
    exec (.serviceCharacterDropped c bad) s = .next { s with svp := s.svp.drop c bad } := if_pos released

/-! ### STX (R177, R178; log entry 28) -/

theorem State.stx_of_sending {s : State} (sending : s.svp.port = .sending) (n : Nat) :
    s.stx n = ((s.svp.answer.flatMap charBits)[n]?).getD true := by
  simp [State.stx, sending, List.getD_eq_getElem?_getD]

theorem State.stx_mark {s : State} (silent : s.svp.port ≠ .sending) (n : Nat) : s.stx n = true := by
  unfold State.stx
  split
  · next sending => exact absurd sending silent
  all_goals rfl

/-- STX carries a character of the answer as its start bit, its data bits from the lowest, and its stop bit. -/
theorem State.stx_character {s : State} (sending : s.svp.port = .sending) {i : Nat} {c : Byte}
    (char : s.svp.answer[i]? = some c) : s.stx (10 * i) = false ∧ s.stx (10 * i + 9) = true
      ∧ ∀ j < 8, s.stx (10 * i + 1 + j) = c.getLsbD j := by
  have bit : ∀ j < 10, s.stx (10 * i + j) = ((charBits c)[j]?).getD true := fun j hj => by
    rw [State.stx_of_sending sending, flatMap_charBits_getElem? _ i hj, char]
    rfl
  refine ⟨bit 0 (by omega), bit 9 (by omega), fun j hj => ?_⟩
  rw [Nat.add_assoc, bit (1 + j) (by omega), charBits_data c hj]
  rfl

theorem State.stx_after_answer {s : State} (sending : s.svp.port = .sending) {n : Nat}
    (past : 10 * s.svp.answer.length ≤ n) : s.stx n = true := by
  rw [State.stx_of_sending sending, List.getElem?_eq_none (by rw [flatMap_charBits_length]; exact past)]
  rfl

/-- Settles O51: each character goes to the port by its state, a partial request is dropped at its limit, quiet and
the response end where they stand, and STX is the answer's characters on the line. -/
theorem servicePortTakesItsCharacters : Obligations.ServicePortTakesItsCharacters := by
  intro c bad s released port
  rw [exec_serviceRequestCharacter released, exec_serviceCharacterDropped released,
    exec_serviceCharacterDropped released]
  refine ⟨fun idle => ?_, fun receiving => ?_, fun deaf => ?_, State.stx_mark,
    fun sending => ⟨fun _ _ => State.stx_character sending, fun _ => State.stx_after_answer sending⟩,
    fun quiet => if_pos quiet, fun sending => if_pos sending⟩
  · rw [Svp.take_of_idle idle, Svp.drop_of_idle idle, Svp.drop_of_idle idle]
    refine ⟨fun begins => ?_, fun notRead notClear => ?_, rfl⟩
    · rw [if_pos ((beginsRequest_iff c).2 begins)]
    · have other : beginsRequest c = false :=
        Bool.eq_false_iff.2 fun begins => ((beginsRequest_iff c).1 begins).elim notRead notClear
      simp [port, other]
  · rw [Svp.take_of_receiving receiving, Svp.drop_of_receiving receiving]
    refine ⟨fun first rest request part => ?_, rfl⟩
    have unfinished : ¬ requestWhole s.svp.request = true := by
      rw [request, requestWhole_cons]
      exact Nat.not_le.2 part
    exact ⟨by rw [if_neg unfinished, request]; rfl, if_pos ⟨receiving, unfinished⟩⟩
  · obtain ⟨taken, dropped⟩ := Svp.characters_of_deaf deaf c bad
    rw [taken, dropped]
    exact ⟨rfl, rfl⟩

end Sys2Proof.Machine
end

section
/-! PROOFS. Every command answers next and leaves the queue, and a step takes the front command (log entries 1, 2). -/

namespace Sys2Proof.Machine

/-! ### The shapes of an answer -/

/-- An outcome that is a next state, with the queue of `s`. -/
def State.Answered (s : State) (o : Host.Outcome State Fault Refusal) : Prop :=
  ∃ t, o = .next t ∧ t.pending = s.pending

theorem State.Answered.next {s t : State} (queue : t.pending = s.pending) : s.Answered (.next t) :=
  ⟨t, rfl, queue⟩

/-- A condition only chooses between two answers. -/
theorem State.Answered.ite {s : State} {p : Prop} [Decidable p] {a b : Host.Outcome State Fault Refusal}
    (met : s.Answered a) (unmet : s.Answered b) : s.Answered (if p then a else b) := by
  split
  · exact met
  · exact unmet

/-- An event that acts under a condition, and changes nothing without it (log entry 1). -/
theorem State.Answered.guarded {s t : State} {p : Prop} [Decidable p] (queue : t.pending = s.pending) :
    s.Answered (if p then .next t else .next s) := .ite (.next queue) (.next rfl)

/-- An event that comes with crystal time, which passes whether or not its condition holds. -/
theorem State.Answered.timed {s t : State} {p : Prop} [Decidable p] (dt : Nat)
    (queue : t.pending = (s.advance dt).pending) :
    s.Answered (if p then .next t else .next (s.advance dt)) :=
  .ite (.next (queue.trans (by simp))) (.next (by simp))

/-- An expiry whose owner leaves the queue leaves it, due or not. -/
theorem State.Answered.expiry {id : TimerId} {owner : State → State} (s : State)
    (queue : ∀ u, (owner u).pending = u.pending) : s.Answered (.next (s.takeExpiry id owner)) := by
  refine .next ?_
  unfold State.takeExpiry
  split
  · exact (queue _).trans (by simp)
  · rfl

/-! ### The commands that look at what is in hand -/

theorem frameCompletion_answered (e : Nat) (chars : List RxChar) (s : State) :
    s.Answered (execFrameCompletion e chars s) := by
  unfold execFrameCompletion
  dsimp only
  split
  · exact .next (by simp)
  · exact .next (by simp)

theorem transmitReadbackMismatch_answered (r : Readback) (s : State) :
    s.Answered (execTransmitReadbackMismatch r s) := by
  unfold execTransmitReadbackMismatch
  dsimp only
  split
  · exact .timed _ (by simp)
  · exact .next (by simp)

theorem cleanTransmission_answered (r : Readback) (s : State) : s.Answered (execCleanTransmission r s) := by
  unfold execCleanTransmission
  dsimp only
  split
  · exact .timed _ (by simp)
  · exact .next (by simp)

theorem allotmentIssued_answered (valveFirst : Bool) (s : State) :
    s.Answered (execAllotmentIssued valveFirst s) := by
  unfold execAllotmentIssued
  split
  · exact .next (by simp)
  · exact .next rfl

theorem readRequest_answered (e : Nat) (s : State) : s.Answered (execReadRequest e s) := by
  unfold execReadRequest
  dsimp only
  split
  · exact .next (by simp)
  · exact .next (by simp)

theorem clearRequest_answered (s : State) : s.Answered (execClearRequest s) := by
  unfold execClearRequest
  split
  · exact .next (by simp)
  · exact .next rfl

/-- The completion of the load, whether the read has ended or not (R174, R175). -/
theorem configurationLoadCompletion_answered (acknowledged : Bool) (bytes : List Byte) (s : State) :
    s.Answered (execConfigurationLoadCompletion acknowledged bytes s) := by
  refine .guarded ?_
  split
  · simp
  · rfl

/-! ### Every command -/

/-- Settles O2: every command ends in a next state on each branch of its condition, and each block's work leaves
the queue. -/
theorem everyCommandAnswersNext : Obligations.EveryCommandAnswersNext := by
  intro c s
  change s.Answered (exec c s)
  cases c with
  | resetRelease address loop => exact .ite (.next rfl) (.next (by simp))
  | sclHoldTimeout bytes => exact .guarded rfl
  | configurationLoadCompletion acknowledged bytes => exact configurationLoadCompletion_answered acknowledged bytes s
  | frameStartDetected e => exact .timed e rfl
  | frameCompletion e chars => exact frameCompletion_answered e chars s
  | ownSlotStart e => exact .timed e (by simp)
  | transmitInstant e busy => exact .ite (.ite (.next (by simp)) (.next (by simp))) (.next (by simp))
  | transmitReadbackMismatch r => exact transmitReadbackMismatch_answered r s
  | cleanTransmission r => exact cleanTransmission_answered r s
  | listenWindowEndInSilence e => exact .timed e (by simp)
  | cycleEnd e cadenceFirst => exact .timed e (by simp)
  | travelTimeReached => exact .guarded (by simp)
  | ageingMark e => exact .timed e (by simp)
  | allotmentIssued valveFirst => exact allotmentIssued_answered valveFirst s
  | channelConversion channel code => exact .guarded rfl
  | scanCompletion valveFirst => exact .guarded (by simp)
  | tRotExpiry | tWarmExpiry | tShedExpiry | tExerExpiry | tIceExpiry | tGuardExpiry | tProtExpiry | tRecovExpiry
  | tStagExpiry | tOrdExpiry => exact .expiry s fun u => by simp
  | fanInterval => exact .guarded (by simp)
  | spinUpWindowEnd | kickPhaseEnd | checkWindowEnd => exact .next (by simp)
  | exerciseRunEnd channel => exact .next (by simp)
  | tachMeasurementCompletion edges => exact .guarded (by simp)
  | readRequest e => exact readRequest_answered e s
  | clearRequest => exact clearRequest_answered s
  | serviceCharacterDropped char framingError => exact .guarded rfl
  | serviceRequestTimeout | serviceQuietEnd | serviceResponseEnd => exact .guarded rfl
  | resetAsserted => exact .next rfl
  | strayCharacter e => exact .timed e rfl
  | serviceRequestCharacter char => exact .guarded rfl

/-! ### The step -/

/-- Settles O1: the step's two cases are the queue's two constructors. -/
theorem stepTakesTheFrontCommand : Obligations.StepTakesTheFrontCommand :=
  fun _ _ _ => ⟨rfl, rfl⟩

end Sys2Proof.Machine
end
